-- ==== Sys2Proof/Word.lean ====
section
/-! DEFINITION. The plain types of the HN-2410: bytes, times, identities, names. -/

namespace Sys2Proof

/-- One byte of the arm port or of a frame's payload. -/
abbrev Byte := BitVec 8

/-- A value of the time base: 32 bits, microseconds, modulo 2³² (R38). -/
abbrev Time := BitVec 32

/-- The 48-bit long identity of a station: maker (16), class (8), serial (24), in that order (00 Terms). -/
abbrev Identity := BitVec 48

/-- A 48-bit frame key, an identity key or a name key (02 section 2.1). -/
abbrev Key := BitVec 48

/-- A short name, 0 to 62, or 63 for "none" in replies (00 Table 6). Not a bit vector: the part never adds or masks one
except in the rank of R140, which counts in whole numbers. -/
abbrev Name := Nat

end Sys2Proof
end

