-- ==== Sys2Proof/Config.lean ====
section
/-! DEFINITION. The fixed quantities of the HN-2410 (00 Table 6) and the one free value of the model. -/

namespace Sys2Proof.Config

/-- Roster capacity, slots 0 to 47 (R72). -/
def rosterCapacity : Nat := 48
/-- Name plan capacity (R99). -/
def planCapacity : Nat := 32
/-- Pending claim list capacity (R103). -/
def claimCapacity : Nat := 8
/-- Transmit list capacity (R27). -/
def txCapacity : Nat := 12
/-- Change queue capacity (R159). -/
def changeCapacity : Nat := 32
/-- The attempt count at which a frame is dropped (R11). -/
def maxAttempts : Nat := 4
/-- The line error count that starts LINE_FAULT (R16). -/
def faultEntry : Nat := 96
/-- LINE_FAULT ends only below this line error count (R18). -/
def faultExit : Nat := 32
/-- Upper limit of the line error count (R15). -/
def maxErrors : Nat := 255
/-- Upper limit of the foreign count and of the transmit drop count (R11, R14). -/
def maxCount16 : Nat := 65535
/-- Upper limit of the change queue drop count (R160) and of an entry's gap count (R83). -/
def maxCount8 : Nat := 255
/-- Upper limit of an entry's objection count (R111). -/
def maxObjections : Nat := 15
/-- The objection count that sets the storm mark (R111). -/
def stormLevel : Nat := 8
/-- The probe window of R86 and R177, in µs. -/
def probeWindow : Nat := 20000
/-- Class code of a bridge, 7E₁₆ (00 Table 6). -/
def bridgeClass : Byte := 0x7E
/-- The highest tool-device name (00 Table 6). -/
def lastName : Name := 62
/-- The "none" name of port replies (00 Table 6). -/
def noneName : Name := 63
/-- Bytes of the order data area (R170). -/
def dataBytes : Nat := 40
/-- Bits of the arbitration field, the kind and the key (R10). -/
def arbitrationBits : Nat := 52

/-- FREE VALUE (log 2): where several events are due at one moment the spec lets any of them be taken first (R41).
The n-th such choice is `freePick n`; nothing in Lean can evaluate it. -/
opaque freePick : Nat → Nat

end Sys2Proof.Config
end

