-- ==== Sys2Proof/Syntax.lean ====
section
/-! DEFINITION. The commands of the HN-2410: one constructor of `Instr` per row of spec/opcode_table.json, with the
operands the spec gives that event or port command. -/

namespace Sys2Proof

/-- The two mate inputs (R52). -/
inductive MateInput where
  | a
  | b
  deriving DecidableEq, Repr

/-- The payload of a received frame of a known kind, field by field (02 Table 1, 11 Table 2). -/
inductive FrameBody where
  | object (claimant : Identity) (name reason counter : Byte)
  | recall (reason : Byte)
  | call (cause : Byte)
  | hold (holder : Identity)
  | claim (name tryCount : Byte)
  | announce (path revision wish : Byte)
  | probe (target : Byte)
  | beat (sequence window : Byte)
  | release (holder : Identity)
  deriving DecidableEq, Repr

/-- A good frame of a known kind as the line interface hands it on: its key and its payload (R14). -/
structure RxFrame where
  key  : Key
  body : FrameBody
  deriving DecidableEq, Repr

/-- A frame as a row of fields on the wire: kind code, key and payload bytes (11 Table 1). The length field is the number
of payload bytes (R6). -/
structure WireFrame where
  kind    : BitVec 4
  key     : Key
  payload : List Byte
  deriving DecidableEq, Repr

/-- Where the part loses the line to another station (R9, R10). -/
inductive LossPlace where
  /-- Another station's falling edge arrives while the part has not begun to drive a start mark of its own: the part does not
  begin, and the line is BUSY (R8, R9, log 5). -/
  | beforeStart
  /-- At this bit of the arbitration field of the frame in flight (R10). -/
  | bit (place : Nat)
  deriving DecidableEq, Repr

/-- What the line interface saw that ends its own attempt (R11). -/
inductive BitErrorCause where
  /-- The bit at this place of the frame (counted from the first kind bit) was read other than it was sent. -/
  | mismatch (bit : Nat)
  /-- A recessive reading during its own start mark. -/
  | startMark
  /-- A falling edge during its own end mark. -/
  | endMark
  deriving DecidableEq, Repr

/-- The first check of R13 that a frame being received fails. -/
inductive ReceiveErrorCause where
  /-- The length field, for a frame of this kind code, is complete and not allowed. -/
  | length (kind : BitVec 4) (length : BitVec 4)
  /-- The CRC field is complete and differs from the CRC of the bits received. -/
  | crc (frame : WireFrame) (received : BitVec 16)
  /-- Two bit periods without a falling edge before the frame is complete. -/
  | earlyEnd
  /-- A falling edge where the end mark should be. -/
  | lateEdge
  deriving DecidableEq, Repr

/-- The commands. Each constructor's docstring names its row of the opcode table and the row's rule. -/
inductive Instr where
  /-- RESET (R180): a low level on RESET, then its release. -/
  | reset
  /-- MATE_ASSERTED (R54). -/
  | mateAsserted (input : MateInput)
  /-- MATE_RELEASED (R59). -/
  | mateReleased (input : MateInput)
  /-- LOCK_ENGAGED (R58). -/
  | lockEngaged
  /-- LOCK_RELEASED (R56). -/
  | lockReleased
  /-- SUPPLY_GOOD_CHANGE (R64): the new level of SUPPLY_GOOD. -/
  | supplyGoodChange (level : Bool)
  /-- MAKE_DEADLINE (R55). -/
  | makeDeadline
  /-- BREAK_DEADLINE (R60). -/
  | breakDeadline
  /-- SETTLE_DEADLINE (R63). -/
  | settleDeadline
  /-- HOLD_LIMIT_DEADLINE (R65). -/
  | holdLimitDeadline
  /-- LINE_IDLE (R8): the line has been recessive for 8 P. -/
  | lineIdle
  /-- TRANSMIT_ATTEMPT (R9). -/
  | transmitAttempt
  /-- ARBITRATION_LOSS (R10): the line is lost to another station, at a bit of the frame in flight or before its start mark
  (R9). -/
  | arbitrationLoss (place : LossPlace)
  /-- BIT_ERROR (R11). -/
  | bitError (cause : BitErrorCause)
  /-- ATTEMPT_SUCCESS (R12). -/
  | attemptSuccess
  /-- RECEIVE_ERROR (R13). -/
  | receiveError (cause : ReceiveErrorCause)
  /-- STUCK_DOMINANT (R17). -/
  | stuckDominant
  /-- STUCK_MARK_CLEAR (R17). -/
  | stuckMarkClear
  /-- FOREIGN_FRAME (R14): a good frame of an unknown kind. -/
  | foreignFrame (frame : WireFrame)
  /-- MALFORMED_FRAME (R23): a good frame of a known kind that fails its form checks. -/
  | malformedFrame (frame : RxFrame)
  /-- ANNOUNCE_RECEIVED (R76). -/
  | announceReceived (key : Key) (path revision wish : Byte)
  /-- BEAT_RECEIVED (R83). -/
  | beatReceived (key : Key) (sequence window : Byte)
  /-- RELEASE_RECEIVED (R93). -/
  | releaseReceived (key : Key) (holder : Identity)
  /-- RECALL_RECEIVED (R96). -/
  | recallReceived (key : Key) (reason : Byte)
  /-- PROBE_OF_ARM_END (R25): a PROBE whose target is name 0. -/
  | probeOfArmEnd (key : Key)
  /-- PROBE_RECEIVED (R85). -/
  | probeReceived (key : Key) (target : Byte)
  /-- CLAIM_RECEIVED (R107). -/
  | claimReceived (key : Key) (name tryCount : Byte)
  /-- OBJECT_RECEIVED (R114). -/
  | objectReceived (key : Key) (claimant : Identity) (name reason counter : Byte)
  /-- HOLD_RECEIVED (R117). -/
  | holdReceived (key : Key) (holder : Identity)
  /-- CALL_RECEIVED (R144). -/
  | callReceived (key : Key) (cause : Byte)
  /-- CLAIM_DEADLINE (R81) of the entry in this slot. -/
  | claimDeadline (slot : Nat)
  /-- SILENCE_DEADLINE (R89) of the entry in this slot. -/
  | silenceDeadline (slot : Nat)
  /-- LOSS_DEADLINE (R90) of the entry in this slot. -/
  | lossDeadline (slot : Nat)
  /-- PROBE_WINDOW_END (R87) of this name. -/
  | probeWindowEnd (name : Name)
  /-- OBJECTION_WINDOW_END (R104) of this claimant's pending claim. -/
  | objectionWindowEnd (claimant : Identity)
  /-- HOLD_DEADLINE (R105) of this claimant's pending claim. -/
  | holdDeadline (claimant : Identity)
  /-- OBJECTION_TICKET_DEADLINE (R112) of the ticket with this number (log 11). -/
  | objectionTicketDeadline (ticket : Nat)
  /-- FIRST_FRAME_DEADLINE (R128). -/
  | firstFrameDeadline
  /-- QUIET_DEADLINE (R132). -/
  | quietDeadline
  /-- CENSUS_DEADLINE (R130). -/
  | censusDeadline
  /-- PING_PROBE_WINDOW (R177). -/
  | pingProbeWindow
  /-- BEAT_COMPARATOR_MATCH (R48). -/
  | beatComparatorMatch
  /-- READ_STATUS (R179). -/
  | readStatus
  /-- READ_NOTICES (R165). -/
  | readNotices
  /-- CLEAR_NOTICES (R166): the selection byte, bits as 11 Table 5. -/
  | clearNotices (selection : Byte)
  /-- WRITE_ORDER (R170): the four argument bytes and the data bytes clocked in after them. -/
  | writeOrder (opcode operand offset count : Byte) (data : List Byte)
  /-- READ_ORDER (R171). -/
  | readOrder
  /-- RETIRE_ORDER (R171). -/
  | retireOrder
  /-- SETUP (R173): START ORDER with the opcode 01₁₆ in the order record. -/
  | setup
  /-- PLAN (R174): START ORDER with the opcode 02₁₆. -/
  | plan
  /-- CLEAR_PLAN (R174): START ORDER with the opcode 03₁₆. -/
  | clearPlan
  /-- GO (R174): START ORDER with the opcode 04₁₆. -/
  | go
  /-- PARK (R175): START ORDER with the opcode 10₁₆. -/
  | park
  /-- UNPARK (R175): START ORDER with the opcode 11₁₆. -/
  | unpark
  /-- RECALL (R176): START ORDER with the opcode 12₁₆. -/
  | recall
  /-- PING (R177): START ORDER with the opcode 13₁₆. -/
  | ping
  /-- FORGET (R94, R175): START ORDER with the opcode 14₁₆. -/
  | forget
  /-- UNKNOWN_OPCODE (R172): START ORDER with an opcode that names no order. -/
  | unknownOpcode
  /-- LATCH (R178). -/
  | latch
  /-- READ_SNAPSHOT (R178): the slot byte. -/
  | readSnapshot (slot : Byte)
  /-- RELEASE (R178): the port command that frees the snapshot. -/
  | release
  /-- READ_CHANGE (R161). -/
  | readChange
  /-- TAKE (R147). -/
  | take
  /-- DONE (R151): the name byte. -/
  | done (name : Byte)
  /-- DONE_0 (R152): DONE with the name byte 0. -/
  | done0
  /-- SET_MASK (R143): bit n of the 64 argument bits stands for name n, argument byte k being bits 8k + 7 to 8k. -/
  | setMask (mask : BitVec 64)
  /-- RESTART (R180), at the rise of CS. -/
  | restart
  /-- UNKNOWN_COMMAND (R169): the command byte. -/
  | unknownCommand (command : Byte)
  /-- START_ORDER_BUSY (R171): START ORDER while the order state is RUNNING or DONE. -/
  | startOrderBusy
  deriving DecidableEq, Repr

end Sys2Proof
end

