-- ==== Sys2Proof/Machine/State.lean ====
section
/-! DEFINITION. The state of the HN-2410, block by block as 00 Table 2 lists the blocks, and its value after reset. -/

namespace Sys2Proof.Machine

/-- The input and output pins (00 Table 3), as levels of meaning: asserted, engaged, driven. -/
structure Pins where
  /-- MATE_A is asserted (R52). -/
  mateA : Bool
  /-- MATE_B is asserted (R52). -/
  mateB : Bool
  /-- LOCK is engaged (R52). -/
  lock : Bool
  /-- SUPPLY_GOOD is asserted (R52). -/
  supplyGood : Bool
  /-- SUPPLY_EN is driven high (04 Table 2). -/
  supplyEn : Bool
  /-- ATTN is asserted, driven low (R167). -/
  attn : Bool
  /-- The bytes clocked out on SDO in the last transaction, the port status byte first (R169, log 8). -/
  sdo : List Byte
  deriving DecidableEq, Repr

/-- The time-base unit (03). -/
structure TimeBase where
  /-- The time base (R38). -/
  now : Time
  /-- The frozen flag (R43). -/
  frozen : Bool
  /-- The freeze start time (R43). -/
  freezeStart : Time
  /-- The compare value of the beat comparator, or none while it is disarmed (R47). -/
  beat : Option Time
  deriving DecidableEq, Repr

/-- The nine known kinds of frame (02 Table 1). -/
inductive FrameKind where
  | object
  | recall
  | call
  | hold
  | claim
  | announce
  | probe
  | beat
  | release
  deriving DecidableEq, Repr

/-- The reasons an OBJECT may carry (02 Table 2). -/
inductive Reason where
  | taken
  | pending
  | reserved
  | range
  | full
  | wrong
  | conflict
  deriving DecidableEq, Repr

/-- The owner of a frame in the transmit list (R26). -/
inductive Owner where
  | roster
  | naming
  | order
  | timeBase
  | line
  deriving DecidableEq, Repr

/-- The owner's reference for a frame (R26): for an OBJECT the claimant identity, and for one raised against a claim the
ticket window end (R109); for a PROBE what it serves. -/
inductive OwnerRef where
  | none
  /-- An OBJECT against a claim, with its objection ticket's window end (R109). -/
  | claimObjection (claimant : Identity) (windowEnd : Time)
  /-- An OBJECT disputing a hold, which opens no ticket (R119, R120). -/
  | holdObjection (claimant : Identity)
  | adoptionProbe (name : Name)
  | pingProbe (name : Name)
  deriving DecidableEq, Repr

/-- The payload of a frame the part originates (R34 to R37, R25). A BEAT's two bytes are written as its attempt begins (R35). -/
inductive TxBody where
  | object (claimant : Identity) (name : Name) (reason : Reason) (counter : Name)
  | recall
  | hold (holder : Identity)
  | probe (target : Name)
  | beat
  deriving DecidableEq, Repr

/-- One frame of the transmit list (R26). Its key is always name key 0. -/
structure TxFrame where
  /-- The MODEL's own number of the frame, by which a report finds it (log 11). -/
  tag : Nat
  body : TxBody
  owner : Owner
  ref : OwnerRef
  /-- Attempt count, 0 to 3 (R11). -/
  attempts : Nat
  /-- Started mark (R26). -/
  started : Bool
  deriving DecidableEq, Repr

/-- The frame in flight (R9): which frame of the list it began as, and what goes on the wire. -/
structure InFlight where
  tag : Nat
  wire : WireFrame
  deriving DecidableEq, Repr

/-- The receiver (R4, R10, R19). -/
inductive Receiver where
  /-- The line interface is disabled and does not sample the line. -/
  | off
  /-- No start mark before this moment of the time base is recognised: 2 P after the latest falling edge known to the part (R4),
  2 P after the enable (R19), or the moment at which the line was found stuck (R17, log 22). -/
  | waiting (hunts : Time)
  | hunting
  /-- It assembles a frame that begins with these bits (R10). -/
  | assembling (bits : List Bool)
  deriving DecidableEq, Repr

/-- The line interface (01, 02). -/
structure Line where
  /-- The enable condition of R19 as the line interface has taken it. -/
  enabled : Bool
  /-- LINE_FAULT (R16). -/
  fault : Bool
  /-- The line has been recessive without a break for 8 P (R8). -/
  recessive8 : Bool
  /-- Stuck mark (R17). -/
  stuck : Bool
  /-- Line error count, 0 to 255 (R15). -/
  errors : Nat
  rx : Receiver
  inFlight : Option InFlight
  /-- Transmit list, the head first (R27). -/
  txList : List TxFrame
  /-- Transmit drop count, 0 to 65535 (R11). -/
  txDrops : Nat
  /-- Foreign count, 0 to 65535 (R14). -/
  foreign : Nat
  /-- Own BEAT sequence (R49). -/
  beatSeq : BitVec 8
  /-- The MODEL's own number for the next frame offered (log 11). -/
  nextTag : Nat
  deriving DecidableEq, Repr

/-- Coupling states (04 section 4.2). -/
inductive CouplingState where
  | openState
  | making
  | coupled
  | held
  | breaking
  deriving DecidableEq, Repr

/-- Supply states (04 Table 2). -/
inductive SupplyState where
  | off
  | ramping
  | on
  deriving DecidableEq, Repr

/-- The coupling monitor (04). Its capture flag is the COUPLING notice flag (R61), held in `Notices`; it is active
exactly in the RUN phase (R52). -/
structure Coupling where
  state : CouplingState
  lockedOnce : Bool
  supply : SupplyState
  mateCapture : Time
  unmateCapture : Time
  make : Option Time
  brk : Option Time
  settle : Option Time
  holdLimit : Option Time
  deriving DecidableEq, Repr

/-- Roster entry states (05 Table 2). -/
inductive EntryState where
  | heard
  | claiming
  | named
  | silent
  | lost
  deriving DecidableEq, Repr

/-- Origin of an entry's name (05 Table 1). -/
inductive Origin where
  | free
  | plan (index : Nat)
  deriving DecidableEq, Repr

/-- One roster entry (05 Table 1), with its three deadlines (03 Table 1). -/
structure Entry where
  slot : Nat
  identity : Identity
  state : EntryState
  /-- The claimed name in CLAIMING, the held name in NAMED, SILENT and LOST, absent in HEARD. -/
  name : Option Name
  prior : Option Name
  origin : Origin
  path : Name
  revision : Byte
  firstHeard : Time
  lastHeard : Time
  beatSeq : Option (BitVec 8)
  /-- Gap count, 0 to 255 (R83). -/
  gaps : Nat
  /-- Objection count, 0 to 15 (R111). -/
  objections : Nat
  storm : Bool
  claimDl : Option Time
  silenceDl : Option Time
  lossDl : Option Time
  deriving DecidableEq, Repr

/-- Probe states of the asked set (R86). -/
inductive ProbeState where
  | queued
  | opened
  | unsent
  deriving DecidableEq, Repr

/-- A member of the asked set (R86). -/
structure Asked where
  name : Name
  probe : ProbeState
  /-- Probe-window end, armed while OPEN. -/
  window : Option Time
  /-- The number of the PROBE last offered for this member, while that PROBE has not been dropped (R86, log 11). -/
  tag : Option Nat
  deriving DecidableEq, Repr

/-- The roster unit (05). -/
structure Roster where
  /-- The entries in ascending slot order; a slot no entry names is free (R72). -/
  entries : List Entry
  asked : List Asked
  fullLatch : Bool
  deriving DecidableEq, Repr

/-- One plan entry (06 Table 1); its index is its place in the list. -/
structure PlanEntry where
  maker : BitVec 16
  cls : BitVec 8
  serial : BitVec 24
  wildcard : Bool
  name : Name
  /-- An exact entry's own identity always; a wildcard entry's binding, absent while unbound (R100). -/
  binding : Option Identity
  deriving DecidableEq, Repr

/-- One pending claim (06 Table 2). -/
structure PendingClaim where
  /-- The claimant, whose entry is CLAIMING. -/
  claimant : Identity
  name : Name
  windowEnd : Time
  windowEnded : Bool
  hold : Time
  /-- An OBJECT carrying the claimant's identity has been sent during the claim's life (R106, log 12). -/
  objectSent : Bool
  deriving DecidableEq, Repr

/-- Objection state of a pending claim (R106). -/
inductive ObjectionState where
  | none
  | queued
  deriving DecidableEq, Repr

/-- An objection ticket (R112), for the OBJECT with this number. -/
structure Ticket where
  tag : Nat
  claimant : Identity
  deadline : Time
  deriving DecidableEq, Repr

/-- The naming unit (06). -/
structure Naming where
  plan : List PlanEntry
  /-- Oldest claim first (R103). -/
  claims : List PendingClaim
  tickets : List Ticket
  deriving DecidableEq, Repr

/-- Census states (07 Table 1). -/
inductive CensusState where
  | absent
  | powering
  | gathering
  | quiet
  | complete
  | overdue
  | parked
  deriving DecidableEq, Repr

/-- The return state of QUIET (07). -/
inductive ReturnState where
  | gathering
  | overdue
  deriving DecidableEq, Repr

/-- The census unit (07). -/
structure Census where
  state : CensusState
  returnState : ReturnState
  generation : BitVec 16
  settling : Time
  firstFrame : Option Time
  quiet : Option Time
  deadline : Option Time
  deriving DecidableEq, Repr

/-- A member of the request set R, with its cause and overrun mark (R139). -/
structure Request where
  name : Name
  cause : Byte
  overrun : Bool
  deriving DecidableEq, Repr

/-- The service request unit (08); its two modes are setup values. -/
structure Service where
  /-- R in ascending order of name. -/
  requests : List Request
  /-- I in ascending order of name. -/
  inService : List Name
  /-- MK: bit n for name n; bits 0 and 63 stay clear (R143). -/
  mask : BitVec 64
  bottom : Name
  deriving DecidableEq, Repr

/-- The twenty kinds of change record (09 Table 1). -/
inductive ChangeKind where
  | joined
  | named
  | adopted
  | restarted
  | silent
  | back
  | lost
  | released
  | forgotten
  | stalled
  | conflict
  | pathFault
  | full
  | storm
  | recalled
  | parked
  | supplyFault
  | torn
  | overdue
  | census
  deriving DecidableEq, Repr

/-- A change record (R158). -/
structure ChangeRecord where
  kind : ChangeKind
  name : Name
  identity : Option Identity
  time : Time
  detail : Nat
  droppedBefore : Nat
  deriving DecidableEq, Repr

/-- The change queue, oldest record first (R159). -/
structure Changes where
  queue : List ChangeRecord
  /-- Drop count, 0 to 255 (R160). -/
  drops : Nat
  deriving DecidableEq, Repr

/-- The notice unit (09 section 9.3); its enables are setup values. -/
structure Notices where
  changes : Bool
  service : Bool
  order : Bool
  /-- COUPLING, which is also the coupling monitor's capture flag (R61, R164). -/
  coupling : Bool
  line : Bool
  census : Bool
  couplingSeen : Bool
  lineSeen : Bool
  censusSeen : Bool
  deriving DecidableEq, Repr

/-- Phases (00 Table 2). -/
inductive Phase where
  | setup
  | run
  deriving DecidableEq, Repr

/-- Order states (10 section 10.2). -/
inductive OrderState where
  | idle
  | running
  | done
  deriving DecidableEq, Repr

/-- The setup values (00 Table 7), in the units of the setup record (11 Table 8). -/
structure Setup where
  rate : Nat
  identity : Identity
  beat : Nat
  silence : Nat
  loss : Nat
  window : Nat
  claim : Nat
  first : Nat
  quiet : Nat
  census : Nat
  make : Nat
  brk : Nat
  settle : Nat
  hold : Nat
  rotation : Bool
  autoDone : Bool
  /-- Notice enables, bits as 11 Table 5, bits 7 and 6 clear (R181). -/
  enables : Byte
  deriving DecidableEq, Repr

/-- The order unit (10). -/
structure Order where
  phase : Phase
  /-- The setup values held; the setup-accepted mark is set exactly while they are (R173). -/
  setup : Option Setup
  opcode : Byte
  operand : Byte
  /-- The 40 bytes of the data area (R170). -/
  data : List Byte
  state : OrderState
  termination : BitVec 16
  detail : Byte
  /-- The identity a running PING awaits (R177). -/
  pingIdentity : Option Identity
  pingWindow : Option Time
  deriving DecidableEq, Repr

/-- The copy a LATCH takes (R178). -/
structure SnapshotCopy where
  entries : List Entry
  census : CensusState
  generation : BitVec 16
  entryCount : Nat
  settling : Time
  time : Time
  deriving DecidableEq, Repr

/-- The snapshot latch (10 section 10.5). -/
structure Snapshot where
  latched : Bool
  copy : SnapshotCopy
  deriving DecidableEq, Repr

/-- The whole part, and the queue of commands that wait for it. -/
structure State where
  pins : Pins
  time : TimeBase
  line : Line
  coupling : Coupling
  roster : Roster
  naming : Naming
  census : Census
  service : Service
  changes : Changes
  notices : Notices
  order : Order
  snapshot : Snapshot
  /-- The MODEL's own counter of free choices drawn (log 2). -/
  draws : Nat
  /-- The commands that wait, first in first out. -/
  pending : List Instr
  deriving DecidableEq, Repr

/-- The manual gives the part no stop: LINE_FAULT, SUPPLY_FAULT and an order's error marks are states, records and
results, so no meaning faults and there is no reason to name. -/
inductive Fault where
  deriving DecidableEq, Repr

/-- Why a command is refused. -/
inductive Refusal where
  /-- Raised by exec for a row of the opcode table that has no meaning yet; safe, and no arm raises it. -/
  | notModelled (mnemonic : String)
  deriving DecidableEq, Repr

/-- The pins after power-up. The outputs are as R71 and R167 give them; the levels of the inputs belong to the outside and
are the model's choice (DESIGN CHOICE, log 6), as is the empty SDO (DESIGN CHOICE, log 8). -/
def Pins.reset : Pins :=
  { mateA := false, mateB := false, lock := false, supplyGood := false, supplyEn := false, attn := false, sdo := [] }

/-- R38, R44, R47. -/
def TimeBase.reset : TimeBase :=
  { now := 0, frozen := false, freezeStart := 0, beat := none }

/-- 01 Table 5, R33. -/
def Line.reset : Line :=
  { enabled := false, fault := false, recessive8 := false, stuck := false, errors := 0, rx := .off, inFlight := none,
    txList := [], txDrops := 0, foreign := 0, beatSeq := 0, nextTag := 0 }

/-- 04 Table 4. -/
def Coupling.reset : Coupling :=
  { state := .openState, lockedOnce := false, supply := .off, mateCapture := 0, unmateCapture := 0, make := none,
    brk := none, settle := none, holdLimit := none }

/-- 05 Table 3. -/
def Roster.reset : Roster :=
  { entries := [], asked := [], fullLatch := false }

/-- 06 Table 4. -/
def Naming.reset : Naming :=
  { plan := [], claims := [], tickets := [] }

/-- 07 Table 2. -/
def Census.reset : Census :=
  { state := .absent, returnState := .gathering, generation := 0, settling := 0, firstFrame := none, quiet := none,
    deadline := none }

/-- 08 Table 4. -/
def Service.reset : Service :=
  { requests := [], inService := [], mask := 0, bottom := 62 }

/-- 09 Table 3. -/
def Changes.reset : Changes :=
  { queue := [], drops := 0 }

/-- 09 Table 3. -/
def Notices.reset : Notices :=
  { changes := false, service := false, order := false, coupling := false, line := false, census := false,
    couplingSeen := false, lineSeen := false, censusSeen := false }

/-- 10 Table 4. -/
def Order.reset : Order :=
  { phase := .setup, setup := none, opcode := 0, operand := 0, data := List.replicate 40 0, state := .idle,
    termination := 0, detail := 0, pingIdentity := none, pingWindow := none }

/-- 10 Table 4: the copy is empty (log 15). -/
def Snapshot.reset : Snapshot :=
  { latched := false,
    copy := { entries := [], census := .absent, generation := 0, entryCount := 0, settling := 0, time := 0 } }

/-- The part right after reset (R180), with no command waiting. -/
def State.reset : State :=
  { pins := .reset, time := .reset, line := .reset, coupling := .reset, roster := .reset, naming := .reset,
    census := .reset, service := .reset, changes := .reset, notices := .reset, order := .reset, snapshot := .reset,
    draws := 0, pending := [] }

end Sys2Proof.Machine
end

