-- ==== Sys2Proof/Machine/Wire.lean ====
section
/-! DEFINITION. Frames on the plug line as bits: field order, fixed lengths and the CRC (R6, R7, 01 section 1.4). -/

namespace Sys2Proof

/-- The bits of a field, most significant first (01 section 1.4). -/
def msbBits (n : Nat) (x : BitVec n) : List Bool :=
  (List.range n).map (fun i => x.getMsbD i)

/-- The fixed payload length of a known kind code, and none for an unknown kind (R6, 01 Table 2). -/
def fixedLength (kind : Nat) : Option Nat :=
  match kind with
  | 1 => some 9
  | 2 => some 1
  | 3 => some 1
  | 4 => some 6
  | 5 => some 2
  | 6 => some 3
  | 7 => some 1
  | 8 => some 2
  | 9 => some 6
  | _ => none

/-- The length check of R6 and R13: 10 to 15 is never allowed, and a known kind has its fixed length only. -/
def lengthOk (kind length : Nat) : Bool :=
  decide (length ≤ 9) &&
    match fixedLength kind with
    | some n => decide (length = n)
    | none => true

/-- One step of the CRC generator (R7). -/
def crcStep (r : BitVec 16) (bit : Bool) : BitVec 16 :=
  if r.getMsbD 0 == bit then r <<< 1 else (r <<< 1) ^^^ 0x1021#16

/-- The CRC of a run of bits: the generator starts at FFFF₁₆ and no final inversion is applied (R7). -/
def crcOf (bits : List Bool) : BitVec 16 :=
  bits.foldl crcStep 0xFFFF#16

/-- The 52 bits of the arbitration field, the kind and the key (R10). -/
def arbitrationField (kind : BitVec 4) (key : Key) : List Bool :=
  msbBits 4 kind ++ msbBits 48 key

/-- The kind, key, length and payload bits, in the order they are sent (01 section 1.4). -/
def WireFrame.bodyBits (f : WireFrame) : List Bool :=
  arbitrationField f.kind f.key ++ msbBits 4 (BitVec.ofNat 4 f.payload.length)
    ++ f.payload.flatMap (msbBits 8)

/-- The CRC the frame carries (R7). -/
def WireFrame.crc (f : WireFrame) : BitVec 16 :=
  crcOf f.bodyBits

/-- All the bits of the frame between its start mark and its end mark (01 section 1.4). -/
def WireFrame.bits (f : WireFrame) : List Bool :=
  f.bodyBits ++ msbBits 16 f.crc

/-- A check of R13 that fails: a length that is not allowed, or a CRC that differs on a frame whose length is. -/
def ReceiveErrorCause.fails : ReceiveErrorCause → Bool
  | .length kind len => !lengthOk kind.toNat len.toNat
  | .crc frame received => lengthOk frame.kind.toNat frame.payload.length && frame.crc != received
  | .earlyEnd => true
  | .lateEdge => true

/-- The bits that the cause tells of the start of the frame in error. -/
def ReceiveErrorCause.start : ReceiveErrorCause → List Bool
  | .length kind _ => msbBits 4 kind
  | .crc frame _ => arbitrationField frame.kind frame.key
  | .earlyEnd => []
  | .lateEdge => []

/-- How many half bit periods after the falling edge of the start mark a received frame with n payload bytes is complete: the
edge of its last bit comes 72 + 8n bit periods after that of the start mark, and the end mark 2 P later (R5). -/
def receivedHalves (n : Nat) : Nat := 2 * (72 + 8 * n + 2)

/-- How many half bit periods after the falling edge of the start mark the error is detected, at the least (R13): the last bit of
the length field or of the CRC field is sampled, ½ P after its edge (R3); 2 P have passed without an edge since that of the
start mark; or an edge follows that of the last bit of the shortest frame. -/
def ReceiveErrorCause.halves : ReceiveErrorCause → Nat
  | .length _ _ => 2 * 56 + 1
  | .crc frame _ => 2 * frame.bits.length + 1
  | .earlyEnd => 2 * 2
  | .lateEdge => 2 * 72

/-- How many bit periods a frame sent lasts, its marks included: 75 + 8n for n payload bytes (01 section 1.4). -/
def WireFrame.bitPeriods (f : WireFrame) : Nat :=
  1 + f.bits.length + 2

end Sys2Proof
end

