-- ==== Sys2Proof/Machine/Operands.lean ====
section
/-! DEFINITION. Operand forms: the fields the part reads out of keys, identities, frames, the order data area and argument
bytes, and the big-endian bytes it writes (02 Table 3, 11 sections 11.2 to 11.5). -/

namespace Sys2Proof.Machine

/-- The maker number of an identity (02 section 2.1). -/
def makerOf (x : Identity) : BitVec 16 := x.extractLsb' 32 16
/-- The class of an identity. -/
def classOf (x : Identity) : BitVec 8 := x.extractLsb' 24 8
/-- The serial of an identity. -/
def serialOf (x : Identity) : BitVec 24 := x.extractLsb' 0 24

/-- The identity with this maker, class and serial. -/
def identityOf (maker : BitVec 16) (cls : BitVec 8) (serial : BitVec 24) : Identity :=
  maker ++ cls ++ serial

/-- An identity of a bridge has class 7E₁₆ (R91). -/
def isBridge (x : Identity) : Bool := classOf x == Config.bridgeClass

/-- A maker number that is valid is neither 0000₁₆ nor FFFF₁₆ (00 Table 6). -/
def validMaker (m : BitVec 16) : Bool := m != 0x0000 && m != 0xFFFF

/-- Name key n: 42 zero bits and the 6-bit name (02 section 2.1). -/
def nameKey (n : Name) : Key := BitVec.ofNat 48 n

/-- The name a key carries where it is a name key: its 42 leading bits are zero and so it is a number below 64. -/
def senderOf (key : Key) : Name := key.toNat

/-- A sender name key that R22 allows: 42 leading zero bits and a name of 1 to 62. -/
def senderKeyOk (key : Key) : Bool := decide (1 ≤ key.toNat) && decide (key.toNat ≤ Config.lastName)

/-- A valid identity of a tool device (R22), given the part's own identity. -/
def validIdentity (own : Option Identity) (x : Identity) : Bool :=
  validMaker (makerOf x) && own != some x

/-- A byte that lies in lo to hi. -/
def byteIn (lo hi : Nat) (b : Byte) : Bool := decide (lo ≤ b.toNat) && decide (b.toNat ≤ hi)

/-- The form checks of 02 Table 3 (R22). -/
def formOk (own : Option Identity) (f : RxFrame) : Bool :=
  match f.body with
  | .object claimant name reason counter =>
    senderKeyOk f.key && validIdentity own claimant && byteIn 1 62 name && byteIn 1 7 reason && byteIn 0 62 counter
  | .recall _ => senderKeyOk f.key
  | .call _ => senderKeyOk f.key
  | .hold holder => senderKeyOk f.key && validIdentity own holder
  | .claim name _ => validIdentity own f.key && byteIn 0 63 name
  | .announce path _ wish => validIdentity own f.key && byteIn 0 62 path && byteIn 0 62 wish
  | .probe target => senderKeyOk f.key && byteIn 0 62 target
  | .beat _ _ => senderKeyOk f.key
  | .release holder => senderKeyOk f.key && validIdentity own holder

/-- The kind codes of 02 Table 1. -/
def FrameKind.code : FrameKind → Nat
  | .object => 1
  | .recall => 2
  | .call => 3
  | .hold => 4
  | .claim => 5
  | .announce => 6
  | .probe => 7
  | .beat => 8
  | .release => 9

/-- The kind of a received frame (02 Table 1). -/
def bodyKind : FrameBody → FrameKind
  | .object _ _ _ _ => .object
  | .recall _ => .recall
  | .call _ => .call
  | .hold _ => .hold
  | .claim _ _ => .claim
  | .announce _ _ _ => .announce
  | .probe _ => .probe
  | .beat _ _ => .beat
  | .release _ => .release

/-- The 52 bits a received frame begins with (R10). -/
def frameStart (f : RxFrame) : List Bool := arbitrationField (BitVec.ofNat 4 (bodyKind f.body).code) f.key

/-- How many half bit periods after the falling edge of its start mark a received frame of a known kind is complete (R5, R6). -/
def frameHalves (f : RxFrame) : Nat := receivedHalves ((fixedLength (bodyKind f.body).code).getD 0)

/-- The kind of a frame the part originates. -/
def TxBody.kind : TxBody → FrameKind
  | .object _ _ _ _ => .object
  | .recall => .recall
  | .hold _ => .hold
  | .probe _ => .probe
  | .beat => .beat

/-- The codes of 02 Table 2. -/
def Reason.code : Reason → Nat
  | .taken => 1
  | .pending => 2
  | .reserved => 3
  | .range => 4
  | .full => 5
  | .wrong => 6
  | .conflict => 7

/-- The low n bytes of a number, most significant byte first (11). -/
def beBytes (n x : Nat) : List Byte :=
  (List.range n).map (fun i => BitVec.ofNat 8 (x / 256 ^ (n - 1 - i)))

/-- The six bytes of an identity (11). -/
def identityBytes (x : Identity) : List Byte := beBytes 6 x.toNat

/-- The window byte of a BEAT: W in units of 100 µs, rounded up (R35). -/
def windowByte (v : Setup) : Nat := (v.window + 99) / 100

/-- The payload of a frame of the part, as it goes on the wire (R34 to R37, R25; 11 Table 2). -/
def TxBody.payload (beatSeq : BitVec 8) (window : Nat) : TxBody → List Byte
  | .object claimant name reason counter =>
    identityBytes claimant ++ [BitVec.ofNat 8 name, BitVec.ofNat 8 reason.code, BitVec.ofNat 8 counter]
  | .recall => [1]
  | .hold holder => identityBytes holder
  | .probe target => [BitVec.ofNat 8 target]
  | .beat => [beatSeq, BitVec.ofNat 8 window]

/-- A frame of the part on the wire: every one goes under name key 0 (R21). -/
def TxBody.wire (beatSeq : BitVec 8) (window : Nat) (b : TxBody) : WireFrame :=
  { kind := BitVec.ofNat 4 b.kind.code, key := nameKey 0, payload := b.payload beatSeq window }

/-- Byte i of a data area, as a number. -/
def byteAt (d : List Byte) (i : Nat) : Nat := (d.getD i 0).toNat

/-- The number in the n bytes from i on, most significant byte first (11). -/
def numberAt (d : List Byte) (n i : Nat) : Nat :=
  (List.range n).foldl (fun acc k => 256 * acc + byteAt d (i + k)) 0

/-- Bit j of data byte i. -/
def bitAt (d : List Byte) (i j : Nat) : Bool := (d.getD i 0).getLsbD j

/-- The setup record in data bytes 0 to 29 (11 Table 8); undefined bits are ignored (R181). -/
def setupOf (d : List Byte) : Setup :=
  { rate := byteAt d 0
    identity := BitVec.ofNat 48 (numberAt d 6 1)
    beat := numberAt d 2 7
    silence := numberAt d 2 9
    loss := byteAt d 11
    window := numberAt d 2 12
    claim := numberAt d 2 14
    first := numberAt d 2 16
    quiet := numberAt d 2 18
    census := numberAt d 2 20
    make := byteAt d 22
    brk := byteAt d 23
    settle := numberAt d 2 24
    hold := numberAt d 2 26
    rotation := bitAt d 28 0
    autoDone := bitAt d 28 1
    enables := (d.getD 29 0) &&& 0x3F }

/-- The bit period P in µs at a line rate code (R1). -/
def bitPeriod (rate : Nat) : Nat :=
  match rate with
  | 0 => 8
  | 1 => 4
  | _ => 2

/-- A number that lies in lo to hi. -/
def inRange (lo hi n : Nat) : Bool := decide (lo ≤ n) && decide (n ≤ hi)

/-- The fields of the setup record with their check order and range (R173, 10 Table 2, 00 Table 7). Fields 15 and 16 have no
value that fails. -/
def setupChecks (v : Setup) : List (Nat × Bool) :=
  [ (1, inRange 0 2 v.rate),
    (2, validMaker (makerOf v.identity)),
    (3, inRange 10 500 v.beat),
    (4, inRange 20 1000 v.silence),
    (5, inRange 2 8 v.loss),
    (6, inRange 1000 20000 v.window && decide (2 * 147 * bitPeriod v.rate ≤ v.window)),
    (7, inRange 10 2000 v.claim),
    (8, inRange 10 2000 v.first),
    (9, inRange 5 1000 v.quiet),
    (10, inRange 100 10000 v.census),
    (11, inRange 1 100 v.make),
    (12, inRange 1 100 v.brk),
    (13, inRange 1 500 v.settle),
    (14, inRange 100 30000 v.hold) ]

/-- The index of the first setup field that fails its check, if any (R173). -/
def firstBadField (v : Setup) : Option Nat :=
  ((setupChecks v).find? (fun c => !c.2)).map (·.1)

/-- Entry i (1 to 4) of a PLAN batch, at data bytes 8i − 7 to 8i (11 section 11.3, Table 9). An exact entry is bound to its
own identity and a wildcard entry is unbound when appended (R100). -/
def planEntryAt (d : List Byte) (i : Nat) : PlanEntry :=
  let o := 8 * i - 7
  let maker := BitVec.ofNat 16 (numberAt d 2 o)
  let cls := BitVec.ofNat 8 (byteAt d (o + 2))
  let serial := BitVec.ofNat 24 (numberAt d 3 (o + 3))
  let wildcard := bitAt d (o + 6) 0
  { maker, cls, serial, wildcard, name := byteAt d (o + 7),
    binding := if wildcard then none else some (identityOf maker cls serial) }

/-- The checks on one entry of a PLAN batch (R174). -/
def planEntryOk (p : PlanEntry) : Bool := validMaker p.maker && inRange 1 62 p.name

/-- The mask set a SET MASK carries: the marks of name 0 and name 63 are not used (R143, R181). -/
def maskOf (m : BitVec 64) : BitVec 64 := m &&& 0x7FFFFFFFFFFFFFFE#64

/-- The data bytes a WRITE ORDER counts: 41 to 255 is taken as 40 (R181). -/
def dataCount (count : Byte) : Nat := min count.toNat Config.dataBytes

/-- The data area after these bytes are written from this offset on; a byte beyond byte 39 is discarded (R170). -/
def writeData (area : List Byte) (offset : Nat) (bytes : List Byte) : List Byte :=
  area.zipIdx.map fun (old, i) => if offset ≤ i then bytes.getD (i - offset) old else old

/-- The command codes of 11 Table 4. -/
def commandCodes : List Byte :=
  [0x01, 0x02, 0x03, 0x10, 0x11, 0x12, 0x13, 0x20, 0x21, 0x22, 0x30, 0x31, 0x32, 0x33, 0xA5]

/-- The opcodes of the SETUP-phase orders (11 section 11.3, R172). -/
def setupOpcodes : List Byte := [0x01, 0x02, 0x03, 0x04]

/-- The opcodes of the RUN-phase orders (11 section 11.3, R172). -/
def runOpcodes : List Byte := [0x10, 0x11, 0x12, 0x13, 0x14]

end Sys2Proof.Machine
end

