-- ==== Sys2Proof/Machine/Flags.lean ====
section
/-! DEFINITION. The notice bits and ATTN, the port status byte, the termination word, and the codes in which states are
read (11 Tables 3, 5, 7, 10 to 13). -/

namespace Sys2Proof.Machine

/-- The line states (R8). -/
inductive LineState where
  | idle
  | busy
  | lineFault
  deriving DecidableEq, Repr

/-- The line state (R8): LINE_FAULT in fault, IDLE while disabled, else IDLE after 8 P of recessive line and BUSY otherwise. -/
def Line.state (l : Line) : LineState :=
  if l.fault then .lineFault
  else if l.enabled then (if l.recessive8 then .idle else .busy)
  else .idle

/-- The line-active census states (07 section 7.1). -/
def CensusState.lineActive : CensusState → Bool
  | .absent => false
  | .powering => true
  | .gathering => true
  | .quiet => true
  | .complete => true
  | .overdue => true
  | .parked => false

/-- The six flags as 11 Table 5 lays them out. -/
def Notices.bits (n : Notices) : Byte :=
  0#2 ++ BitVec.ofBool n.census ++ BitVec.ofBool n.line ++ BitVec.ofBool n.coupling ++ BitVec.ofBool n.order
    ++ BitVec.ofBool n.service ++ BitVec.ofBool n.changes

/-- The six notice enables; before any SETUP has succeeded the byte reads 00₁₆ (R165). -/
def Order.enables (o : Order) : Byte :=
  match o.setup with
  | some v => v.enables
  | none => 0

/-- ATTN is asserted while at least one flag is set and has its enable set (R167). -/
def attnAsserted (n : Notices) (o : Order) : Bool := (n.bits &&& o.enables) != 0

/-- 11 Table 3, bits 6 and 5, and Table 11, byte 19. -/
def OrderState.code : OrderState → Nat
  | .idle => 0
  | .running => 1
  | .done => 2

/-- 11 Table 11, byte 0. -/
def Phase.code : Phase → Nat
  | .setup => 0
  | .run => 1

/-- The port status byte (11 Table 3). -/
def statusByte (s : State) : Byte :=
  BitVec.ofBool (s.order.phase == .run) ++ BitVec.ofNat 2 s.order.state.code ++ BitVec.ofBool s.snapshot.latched
    ++ BitVec.ofBool s.line.fault ++ BitVec.ofBool s.pins.attn ++ 0#2

/-- The error marks of the termination word (11 Table 7). -/
inductive OrderError where
  | phase
  | badOperand
  | planClash
  | noSetup
  | overtaken
  | noAnswer
  | lineDown
  | notLost
  | mismatch
  | unknownOp
  deriving DecidableEq, Repr

/-- The bit of each error mark (11 Table 7). -/
def OrderError.bit : OrderError → Nat
  | .phase => 0
  | .badOperand => 1
  | .planClash => 2
  | .noSetup => 3
  | .overtaken => 4
  | .noAnswer => 5
  | .lineDown => 6
  | .notLost => 7
  | .mismatch => 8
  | .unknownOp => 9

/-- The termination word at an ending: the complete mark, and for an order that fails its error mark and the summary error
mark (R171, 11 Table 7). -/
def terminationWord : Option OrderError → BitVec 16
  | none => 0x8000
  | some e => 0xC000 ||| (1#16 <<< e.bit)

/-- 11 Table 10, byte 0; also the PING detail (11 section 11.4). -/
def EntryState.code : EntryState → Nat
  | .heard => 1
  | .claiming => 2
  | .named => 3
  | .silent => 4
  | .lost => 5

/-- 11 Table 11, byte 1. -/
def CouplingState.code : CouplingState → Nat
  | .openState => 0
  | .making => 1
  | .coupled => 2
  | .held => 3
  | .breaking => 4

/-- 11 Table 11, byte 2. -/
def SupplyState.code : SupplyState → Nat
  | .off => 0
  | .ramping => 1
  | .on => 2

/-- 11 Table 11, byte 3. -/
def CensusState.code : CensusState → Nat
  | .absent => 0
  | .powering => 1
  | .gathering => 2
  | .quiet => 3
  | .complete => 4
  | .overdue => 5
  | .parked => 6

/-- 11 Table 11, byte 20. -/
def LineState.code : LineState → Nat
  | .idle => 0
  | .busy => 1
  | .lineFault => 2

/-- 11 Table 13. -/
def ChangeKind.code : ChangeKind → Nat
  | .joined => 0x01
  | .named => 0x02
  | .adopted => 0x03
  | .restarted => 0x04
  | .silent => 0x05
  | .back => 0x06
  | .lost => 0x07
  | .released => 0x08
  | .forgotten => 0x09
  | .stalled => 0x0A
  | .conflict => 0x0B
  | .pathFault => 0x0C
  | .full => 0x0D
  | .storm => 0x0E
  | .recalled => 0x0F
  | .parked => 0x10
  | .supplyFault => 0x11
  | .torn => 0x12
  | .overdue => 0x13
  | .census => 0x14

/-- 11 Table 10, byte 9. -/
def Origin.code : Origin → Nat
  | .free => 0xFF
  | .plan i => i

/-- The slot record of an entry (11 Table 10, R182). Bits 7 to 2 of its flags byte, to which the table gives no value, read 0
(DESIGN CHOICE, log 23). -/
def slotRecord (e : Entry) : List Byte :=
  [BitVec.ofNat 8 e.state.code] ++ identityBytes e.identity
    ++ [BitVec.ofNat 8 (e.name.getD Config.noneName), BitVec.ofNat 8 (e.prior.getD Config.noneName),
        BitVec.ofNat 8 e.origin.code, BitVec.ofNat 8 e.path, e.revision]
    ++ beBytes 4 e.firstHeard.toNat ++ beBytes 4 e.lastHeard.toNat
    ++ [0#6 ++ BitVec.ofBool e.storm ++ BitVec.ofBool e.beatSeq.isSome, e.beatSeq.getD 0,
        BitVec.ofNat 8 e.gaps, BitVec.ofNat 8 e.objections]

/-- The empty slot record (R182). -/
def emptySlotRecord : List Byte :=
  [0] ++ List.replicate 6 0 ++ [63, 63, 0xFF, 0, 0] ++ List.replicate 12 0

/-- The census fields that follow a slot record (11 section 11.4). -/
def censusFields (c : SnapshotCopy) : List Byte :=
  [BitVec.ofNat 8 c.census.code] ++ beBytes 2 c.generation.toNat ++ [BitVec.ofNat 8 c.entryCount]
    ++ beBytes 4 c.settling.toNat ++ beBytes 4 c.time.toNat

/-- A change record as READ CHANGE returns it (11 Table 12, R182). Bits 7 to 1 of its flags byte, to which the table gives no
value, read 0 (DESIGN CHOICE, log 23). -/
def recordBytes (r : ChangeRecord) : List Byte :=
  [BitVec.ofNat 8 r.kind.code, 0#7 ++ BitVec.ofBool r.identity.isSome, BitVec.ofNat 8 r.name]
    ++ identityBytes (r.identity.getD 0) ++ beBytes 4 r.time.toNat
    ++ [BitVec.ofNat 8 r.detail, BitVec.ofNat 8 r.droppedBefore]

/-- The record of kind NONE, with the drop count (R161, R182); bits 7 to 1 of its flags byte as in `recordBytes` (log 23). -/
def noneRecord (drops : Nat) : List Byte :=
  [0, 0, 0] ++ List.replicate 6 0 ++ List.replicate 4 0 ++ [0, BitVec.ofNat 8 drops]

/-- The status block of READ STATUS (11 Table 11, R179). -/
def statusBlock (s : State) : List Byte :=
  [BitVec.ofNat 8 s.order.phase.code, BitVec.ofNat 8 s.coupling.state.code, BitVec.ofNat 8 s.coupling.supply.code,
   BitVec.ofNat 8 s.census.state.code]
    ++ beBytes 2 s.census.generation.toNat ++ [BitVec.ofNat 8 s.roster.entries.length]
    ++ beBytes 4 s.census.settling.toNat ++ beBytes 4 s.coupling.mateCapture.toNat
    ++ beBytes 4 s.coupling.unmateCapture.toNat
    ++ [BitVec.ofNat 8 s.order.state.code, BitVec.ofNat 8 s.line.state.code, BitVec.ofNat 8 s.line.errors]
    ++ beBytes 2 s.line.foreign ++ beBytes 2 s.line.txDrops ++ beBytes 4 s.time.now.toNat

end Sys2Proof.Machine
end

