-- ==== Sys2Proof/Machine/Ops.lean ====
section
/-! DEFINITION. The shared operations: writing a block of the state, the time base and its deadlines, the change queue, the
counters, and the order endings. The other operation files build on these. -/

namespace Sys2Proof.Machine

/-! ### Writing one block

Every operation writes the state through these, so that what an operation leaves alone is seen by the lemmas of
Laws/State.lean. -/

/-- The state with this pins block. -/
def State.withPins (s : State) (x : Pins) : State := { s with pins := x }
/-- The state with this time block. -/
def State.withTime (s : State) (x : TimeBase) : State := { s with time := x }
/-- The state with this line block. -/
def State.withLine (s : State) (x : Line) : State := { s with line := x }
/-- The state with this coupling block. -/
def State.withCoupling (s : State) (x : Coupling) : State := { s with coupling := x }
/-- The state with this roster block. -/
def State.withRoster (s : State) (x : Roster) : State := { s with roster := x }
/-- The state with this naming block. -/
def State.withNaming (s : State) (x : Naming) : State := { s with naming := x }
/-- The state with this census block. -/
def State.withCensus (s : State) (x : Census) : State := { s with census := x }
/-- The state with this service block. -/
def State.withService (s : State) (x : Service) : State := { s with service := x }
/-- The state with this changes block. -/
def State.withChanges (s : State) (x : Changes) : State := { s with changes := x }
/-- The state with this notices block. -/
def State.withNotices (s : State) (x : Notices) : State := { s with notices := x }
/-- The state with this order block. -/
def State.withOrder (s : State) (x : Order) : State := { s with order := x }
/-- The state with this snapshot block. -/
def State.withSnapshot (s : State) (x : Snapshot) : State := { s with snapshot := x }

/-! ### Lists kept in order -/

/-- Puts x ahead of the first member that stands behind it. -/
def insertBy {α : Type} (behind : α → Bool) (x : α) : List α → List α
  | [] => [x]
  | y :: ys => if behind y then x :: y :: ys else y :: insertBy behind x ys

/-- A count that saturates at its limit (00 Conventions). -/
def satAdd (limit n k : Nat) : Nat := min limit (n + k)

/-! ### Setup values and spans -/

/-- What stands for the setup values while none are held. In the RUN phase values are held (R174), so no rule that uses one
meets this (log 10). -/
def Setup.unheld : Setup :=
  { rate := 0, identity := 0, beat := 0, silence := 0, loss := 0, window := 0, claim := 0, first := 0, quiet := 0,
    census := 0, make := 0, brk := 0, settle := 0, hold := 0, rotation := false, autoDone := false, enables := 0 }

/-- The setup values (R173). -/
def State.cfg (s : State) : Setup := s.order.setup.getD Setup.unheld

/-- The own identity of the setup values, or none while no values are held (R22). -/
def State.ownIdentity (s : State) : Option Identity := s.order.setup.map (·.identity)

/-- A span in ms, in µs (03 section 3.2). -/
def ms (n : Nat) : Nat := 1000 * n

/-- A span in half bit periods of the line rate held, in µs (R1). -/
def State.halves (s : State) (n : Nat) : Nat := n * (bitPeriod s.cfg.rate / 2)

/-! ### Deadlines -/

/-- A stored value is ahead of the time base when the difference, modulo 2³², lies in 1 to 2³¹ − 1 (R40). -/
def isAhead (now d : Time) : Bool :=
  decide (1 ≤ (d - now).toNat) && decide ((d - now).toNat < 2 ^ 31)

/-- A deadline is due when it is armed and its value is not ahead of the time base: it has just been reached, or it was
armed from an earlier moment or moved by a release and expires at once (R40, R41, R46; log 16). -/
def State.due (s : State) (dl : Option Time) : Bool :=
  match dl with
  | some d => !isAhead s.time.now d
  | none => false

/-- A tool deadline is due only outside a freeze (R45). -/
def State.toolDue (s : State) (dl : Option Time) : Bool := !s.time.frozen && s.due dl

/-- This moment plus a span of µs, modulo 2³² (R40). -/
def State.after (s : State) (span : Nat) : Time := s.time.now + BitVec.ofNat 32 span

/-- The receiver when the latest falling edge is n half bit periods old: a start mark begins 2 P after that edge or later (R4). -/
def State.waits (s : State) (n : Nat) : Receiver := .waiting (s.after (s.halves (4 - n)))

/-- The armed value of a tool deadline with this span: counted from the freeze start time while a freeze is in force (R45). -/
def State.toolAfter (s : State) (span : Nat) : Time :=
  (if s.time.frozen then s.time.freezeStart else s.time.now) + BitVec.ofNat 32 span

/-! ### Change records -/

/-- A record enters the change queue with the drop count, or is lost and counted on a full queue (R160). Its time is the
time base at the event (R158). -/
def queueRecord (kind : ChangeKind) (name : Name) (identity : Option Identity) (detail : Nat) (s : State) : State :=
  if s.changes.queue.length < Config.changeCapacity then
    s.withChanges
      { queue := s.changes.queue ++
          [{ kind, name, identity, time := s.time.now, detail, droppedBefore := s.changes.drops }],
        drops := 0 }
  else s.withChanges { s.changes with drops := satAdd Config.maxCount8 s.changes.drops 1 }

/-! ### Counters of the line interface -/

/-- The foreign count rises by one, saturating at 65535 (R14, R23, R84). -/
def countForeign (s : State) : State :=
  s.withLine { s.line with foreign := satAdd Config.maxCount16 s.line.foreign 1 }

/-- The transmit drop count rises by one, saturating at 65535 (R11, R29). -/
def countTxDrop (s : State) : State :=
  s.withLine { s.line with txDrops := satAdd Config.maxCount16 s.line.txDrops 1 }

/-! ### Orders -/

/-- An order ends: the order state becomes DONE and the termination word and detail are written (R171). A PING's recorded
identity and window go with it (R42, R177). -/
def endOrder (error : Option OrderError) (detail : Nat) (s : State) : State :=
  s.withOrder { s.order with
    state := .done, termination := terminationWord error, detail := BitVec.ofNat 8 detail,
    pingIdentity := none, pingWindow := none }

/-- The opcode of RECALL (11 section 11.3). -/
def recallOpcode : Byte := 0x12
/-- The opcode of PING (11 section 11.3). -/
def pingOpcode : Byte := 0x13

/-- A RECALL order is RUNNING. -/
def State.recallRunning (s : State) : Bool := s.order.state == .running && s.order.opcode == recallOpcode

/-- A PING order is RUNNING. -/
def State.pingRunning (s : State) : Bool := s.order.state == .running && s.order.opcode == pingOpcode

/-- A running RECALL order ends so; anything else is left (R176). -/
def endRecallOrder (error : Option OrderError) (detail : Nat) (s : State) : State :=
  if s.recallRunning then endOrder error detail s else s

/-- A running PING order ends so; anything else is left (R177). -/
def endPingOrder (error : Option OrderError) (detail : Nat) (s : State) : State :=
  if s.pingRunning then endOrder error detail s else s

/-- A running order is overtaken by a teardown or a park (R66, R69, R172). -/
def overtakeOrder (s : State) : State :=
  if s.order.state == .running then endOrder (some .overtaken) 0 s else s

/-! ### Notices -/

/-- The COUPLING flag is set and its seen mark cleared, at each capture (R61, R164). -/
def setCouplingFlag (s : State) : State :=
  s.withNotices { s.notices with coupling := true, couplingSeen := false }

/-- The LINE flag is set and its seen mark cleared, at each entry to LINE_FAULT (R164). -/
def setLineFlag (s : State) : State :=
  s.withNotices { s.notices with line := true, lineSeen := false }

/-- The CENSUS flag is set and its seen mark cleared, at each entry to COMPLETE (R164). -/
def setCensusFlag (s : State) : State :=
  s.withNotices { s.notices with census := true, censusSeen := false }

/-! ### The port's answer -/

/-- A transaction's bytes on SDO: the port status byte as it stands before the command's effect, then the reply (R169,
log 8). -/
def clockOut (before : State) (reply : List Byte) (s : State) : State :=
  s.withPins { s.pins with sdo := statusByte before :: reply }

end Sys2Proof.Machine
end

