-- ==== Sys2Proof/Machine/TransmitOps.lean ====
section
/-! DEFINITION. The transmit list (02 section 2.4): what becomes of a frame an owner offers, withdrawal, and the kinds of
frame an owner looks for. -/

namespace Sys2Proof.Machine

/-- The frame is a BEAT. -/
def TxFrame.isBeat (f : TxFrame) : Bool := f.body == .beat

/-- The frame is a RECALL. -/
def TxFrame.isRecall (f : TxFrame) : Bool := f.body == .recall

/-- The frame is a HOLD. -/
def TxFrame.isHold (f : TxFrame) : Bool := f.body.kind == .hold

/-- The frame is the probe of a PING order. -/
def TxFrame.isPingProbe (f : TxFrame) : Bool :=
  match f.ref with
  | .pingProbe _ => true
  | _ => false

/-- The frame is an OBJECT carrying this claimant's identity (R106). -/
def TxFrame.objectsTo (x : Identity) (f : TxFrame) : Bool :=
  match f.body with
  | .object claimant _ _ _ => claimant == x
  | _ => false

/-- The body is an OBJECT. -/
def TxBody.isObject (b : TxBody) : Bool := b.kind == .object

/-- The frame is the frame in flight. -/
def Line.flies (l : Line) (f : TxFrame) : Bool :=
  match l.inFlight with
  | some i => i.tag == f.tag
  | none => false

/-- What becomes of a frame offered to the transmit list. -/
inductive Offer where
  /-- It is inserted at its place (R28). -/
  | inserted
  /-- It is an OBJECT and takes the room of a queued BEAT, the one with this number (R29). -/
  | displaces (tag : Nat)
  /-- It is a BEAT and one is already in the list (R28). -/
  | refused
  /-- It is dropped on a full list (R29). -/
  | dropped
  deriving DecidableEq, Repr

/-- The BEAT that an arriving OBJECT may displace: one that is not the frame in flight (R29). -/
def Line.displaceable (l : Line) : Option TxFrame :=
  l.txList.find? (fun f => f.isBeat && !l.flies f)

/-- R28 and R29: what the list makes of an arriving frame. -/
def offerOutcome (b : TxBody) (s : State) : Offer :=
  if b == .beat && s.line.txList.any TxFrame.isBeat then .refused
  else if s.line.txList.length < Config.txCapacity then .inserted
  else if b.isObject then
    match s.line.displaceable with
    | some f => .displaces f.tag
    | none => .dropped
  else .dropped

/-- The frame entered it in the list. -/
def Offer.entered : Offer → Bool
  | .inserted => true
  | .displaces _ => true
  | .refused => false
  | .dropped => false

/-- The place of a frame: ahead of every frame of a higher kind code, behind those of its own kind (R27). -/
def insertFrame (f : TxFrame) (l : List TxFrame) : List TxFrame :=
  insertBy (fun g => decide (f.body.kind.code < g.body.kind.code)) f l

/-- An owner offers a frame to the transmit list (R28, R29). A frame that enters has attempt count 0 and its started mark
clear (R26). -/
def offerFrame (b : TxBody) (owner : Owner) (ref : OwnerRef) (s : State) : State :=
  let f : TxFrame := { tag := s.line.nextTag, body := b, owner, ref, attempts := 0, started := false }
  match offerOutcome b s with
  | .inserted => s.withLine { s.line with txList := insertFrame f s.line.txList, nextTag := s.line.nextTag + 1 }
  | .displaces t =>
    countTxDrop (s.withLine { s.line with
      txList := insertFrame f (s.line.txList.filter (fun g => g.tag != t)), nextTag := s.line.nextTag + 1 })
  | .refused => s
  | .dropped => countTxDrop s

/-- An owner withdraws its frames that meet a test; they leave the list at once (R31). -/
def withdraw (p : TxFrame → Bool) (s : State) : State :=
  s.withLine { s.line with txList := s.line.txList.filter (fun f => !p f) }

/-- The line interface answers a PROBE of name 0 with a HOLD, unless one is already in the list (R25). -/
def answerProbe (s : State) : State :=
  if s.line.txList.any TxFrame.isHold then s
  else offerFrame (.hold s.cfg.identity) .line .none s

/-- The order unit offers the PROBE of a PING order for name n; a PROBE dropped on a full list ends the order with
LINE_DOWN (R177). -/
def offerPingProbe (n : Name) (s : State) : State :=
  let t := offerFrame (.probe n) .order (.pingProbe n) s
  if (offerOutcome (.probe n) s).entered then t else endPingOrder (some .lineDown) 0 t

/-- The order unit offers the RECALL of a RECALL order; one dropped on a full list ends the order with LINE_DOWN (R176). -/
def offerRecall (s : State) : State :=
  let t := offerFrame .recall .order .none s
  if (offerOutcome .recall s).entered then t else endRecallOrder (some .lineDown) 0 t

end Sys2Proof.Machine
end

