-- ==== Sys2Proof/Machine/ServiceOps.lean ====
section
/-! DEFINITION. Who holds a name and who sits behind whom (R73, R91), and the service request unit over it (08). -/

namespace Sys2Proof.Machine

/-! ### Entries and names -/

/-- An entry holds its name when it is NAMED, SILENT or LOST (R73). -/
def Entry.holds (e : Entry) : Bool :=
  match e.state with
  | .heard => false
  | .claiming => false
  | .named => true
  | .silent => true
  | .lost => true

/-- The name an entry holds, if it holds one (R73). -/
def Entry.heldName (e : Entry) : Option Name := if e.holds then e.name else none

/-- The name an entry claims, if it is CLAIMING (R73). -/
def Entry.claimedName (e : Entry) : Option Name := if e.state == .claiming then e.name else none

/-- An entry that is HEARD or CLAIMING is still seeking a name (07 section 7.3). -/
def Entry.seeking (e : Entry) : Bool := e.state == .heard || e.state == .claiming

/-- The entry of an identity (R72). -/
def State.entryOf (s : State) (x : Identity) : Option Entry := s.roster.entries.find? (fun e => e.identity == x)

/-- The entry holding name n (R73). -/
def State.holder (s : State) (n : Name) : Option Entry := s.roster.entries.find? (fun e => e.heldName == some n)

/-- The entry in a slot (R72). -/
def State.entryAt (s : State) (slot : Nat) : Option Entry := s.roster.entries.find? (fun e => e.slot == slot)

/-- The bridge an entry is directly behind: the entry holding its path (R91). -/
def State.bridgeAbove (s : State) (e : Entry) : Option Entry := if e.path == 0 then none else s.holder e.path

/-- The chain of bridges above an entry, the nearest first, to the depth given. A chain names no bridge twice, so the
roster's capacity is depth enough (R91, log 17). -/
def State.chainAbove (s : State) : Nat → Entry → List Entry
  | 0, _ => []
  | depth + 1, e =>
    match s.bridgeAbove e with
    | some b => b :: s.chainAbove depth b
    | none => []

/-- All the bridges an entry is behind (R91). -/
def State.bridgesAbove (s : State) (e : Entry) : List Entry := s.chainAbove Config.rosterCapacity e

/-- The entry is behind the entry of identity x (R91). -/
def State.isBehind (s : State) (e : Entry) (x : Identity) : Bool := (s.bridgesAbove e).any (fun b => b.identity == x)

/-- The entry's path names a bridge that is LOST (R82). -/
def State.behindLost (s : State) (e : Entry) : Bool :=
  match s.bridgeAbove e with
  | some b => b.state == .lost
  | none => false

/-! ### Priority -/

/-- The rank of name p under bottom name b (R140). -/
def rank (b p : Name) : Nat := if b < p then p - b else p + 62 - b

/-- The name of highest priority, that is of lowest rank, among some names (R140). -/
def highest (b : Name) : List Name → Option Name
  | [] => none
  | n :: ns =>
    match highest b ns with
    | none => some n
    | some m => if rank b m < rank b n then some m else some n

/-- A name stands in MK (R142). -/
def Service.masks (v : Service) (n : Name) : Bool := v.mask.getLsbD n

/-- A name is effectively masked when it stands in MK, or its holder is behind an entry whose name does (R142). -/
def State.masked (s : State) (n : Name) : Bool :=
  s.service.masks n ||
    match s.holder n with
    | some e => (s.bridgesAbove e).any (fun b => (b.heldName.map s.service.masks).getD false)
    | none => false

/-- The names in R that are not effectively masked. -/
def State.openRequests (s : State) : List Name :=
  (s.service.requests.map (·.name)).filter (fun n => !s.masked n)

/-- A name has higher priority than every name in I (R146). -/
def Service.outranksService (v : Service) (n : Name) : Bool :=
  v.inService.all (fun m => decide (rank v.bottom n < rank v.bottom m))

/-- The name a TAKE hands out, if any (R147). -/
def State.takeChoice (s : State) : Option Name :=
  match highest s.service.bottom s.openRequests with
  | some n => if s.service.outranksService n then some n else none
  | none => none

/-- The SERVICE condition (R146): R contains a name that is not effectively masked and outranks every name in I. -/
def State.serviceCondition (s : State) : Bool := s.openRequests.any s.service.outranksService

/-! ### Changing the sets -/

/-- A name joins R with a cause, or its cause is replaced and its overrun mark set (R144). -/
def Service.call (v : Service) (n : Name) (cause : Byte) : Service :=
  if v.requests.any (fun r => r.name == n) then
    { v with requests := v.requests.map (fun r => if r.name == n then { r with cause, overrun := true } else r) }
  else
    { v with requests := insertBy (fun r => decide (n < r.name)) { name := n, cause, overrun := false } v.requests }

/-- A name leaves R, and its cause and overrun mark with it (R139). -/
def Service.dropRequest (v : Service) (n : Name) : Service :=
  { v with requests := v.requests.filter (fun r => r.name != n) }

/-- A name joins I (R147). -/
def Service.serve (v : Service) (n : Name) : Service :=
  if v.inService.contains n then v
  else { v with inService := insertBy (fun m => decide (n < m)) n v.inService }

/-- A name leaves I. -/
def Service.finish (v : Service) (n : Name) : Service :=
  { v with inService := v.inService.filter (fun m => m != n) }

/-- R and I are emptied; MK and the bottom name are kept (R156). -/
def Service.emptied (v : Service) : Service := { v with requests := [], inService := [] }

/-- The entry holding n went LOST: n leaves R and stays in I (R154). -/
def serviceLost (n : Name) (s : State) : State := s.withService (s.service.dropRequest n)

/-- The entry holding n stopped holding it: n leaves R and I (R155). -/
def serviceLeft (n : Name) (s : State) : State := s.withService ((s.service.dropRequest n).finish n)

/-! ### Notices at the close of an event -/

/-- The level flags follow their conditions and ATTN follows the flags (R163, R167). -/
def refreshNotices (s : State) : State :=
  let n := { s.notices with
    changes := !s.changes.queue.isEmpty, service := s.serviceCondition, order := s.order.state == .done }
  (s.withNotices n).withPins { s.pins with attn := attnAsserted n s.order }

end Sys2Proof.Machine
end

