-- ==== Sys2Proof/Machine/CensusOps.lean ====
section
/-! DEFINITION. The census unit (07): the moves other units' events bring about, the quiet condition, and completion. -/

namespace Sys2Proof.Machine

/-- How many entries are HEARD or CLAIMING. -/
def State.seekers (s : State) : Nat := (s.roster.entries.filter Entry.seeking).length

/-- How many entries are NAMED. -/
def State.namedCount (s : State) : Nat := (s.roster.entries.filter (fun e => e.state == .named)).length

/-- The quiet condition: no entry is HEARD or CLAIMING and the pending claim list is empty (R129). -/
def State.quietCondition (s : State) : Bool := s.seekers == 0 && s.naming.claims.isEmpty

/-- The census enters POWERING and the beat comparator is armed in the same event (R126, R47). -/
def enterPowering (s : State) : State :=
  (s.withCensus { s.census with
    state := .powering, returnState := .gathering, firstFrame := some (s.toolAfter (ms s.cfg.first)), quiet := none,
    deadline := none }).withTime { s.time with beat := some (s.toolAfter (ms s.cfg.beat)) }

/-- The first good frame takes a POWERING census to GATHERING (R127). -/
def firstGoodFrame (s : State) : State :=
  if s.census.state == .powering then
    s.withCensus { s.census with
      state := .gathering, firstFrame := none, deadline := some (s.toolAfter (ms s.cfg.census)) }
  else s

/-- An entry to HEARD is reported to the census unit: QUIET goes back to its return state and COMPLETE is reopened (R131,
R133). -/
def heardReported (s : State) : State :=
  match s.census.state with
  | .quiet =>
    match s.census.returnState with
    | .gathering =>
      s.withCensus { s.census with
        state := .gathering, quiet := none,
        deadline := some (s.census.deadline.getD (s.toolAfter (ms s.cfg.census))) }
    | .overdue => s.withCensus { s.census with state := .overdue, quiet := none }
  | .complete =>
    s.withCensus { s.census with state := .gathering, deadline := some (s.toolAfter (ms s.cfg.census)) }
  | .absent => s
  | .powering => s
  | .gathering => s
  | .overdue => s
  | .parked => s

/-- An adoption is reported to the census unit (R134). In GATHERING and OVERDUE the quiet condition decides at the close of
the event. -/
def adoptionReported (s : State) : State :=
  match s.census.state with
  | .complete =>
    s.withCensus { s.census with
      state := .quiet, returnState := .gathering, quiet := some (s.toolAfter (ms s.cfg.quiet)) }
  | .quiet => s.withCensus { s.census with quiet := some (s.toolAfter (ms s.cfg.quiet)) }
  | .absent => s
  | .powering => s
  | .gathering => s
  | .overdue => s
  | .parked => s

/-- The census goes QUIET from GATHERING or OVERDUE, keeping its census deadline (R129). -/
def enterQuiet (ret : ReturnState) (s : State) : State :=
  s.withCensus { s.census with
    state := .quiet, returnState := ret, quiet := some (s.toolAfter (ms s.cfg.quiet)) }

/-- The test of the quiet condition at the close of an event (R129, log 13). -/
def testQuiet (s : State) : State :=
  match s.census.state with
  | .gathering => if s.quietCondition then enterQuiet .gathering s else s
  | .overdue => if s.quietCondition then enterQuiet .overdue s else s
  | .absent => s
  | .powering => s
  | .quiet => s
  | .complete => s
  | .parked => s

/-- An entry to COMPLETE, in one event (R132). -/
def enterComplete (s : State) : State :=
  setCensusFlag (queueRecord .census 0 none s.namedCount
    (s.withCensus { s.census with
      state := .complete, firstFrame := none, quiet := none, deadline := none,
      generation := s.census.generation + 1, settling := s.time.now - s.coupling.mateCapture }))

/-- A recall takes a line-active census to GATHERING with a fresh census deadline (R135). -/
def recallCensus (s : State) : State :=
  if s.census.state.lineActive then
    s.withCensus { s.census with
      state := .gathering, returnState := .gathering, firstFrame := none, quiet := none,
      deadline := some (s.toolAfter (ms s.cfg.census)) }
  else s

/-- A teardown takes the census to ABSENT and a park to PARKED, with its deadlines and the beat comparator disarmed (R136,
R137, R47). -/
def endCensus (state : CensusState) (s : State) : State :=
  (s.withCensus { s.census with
    state := state, returnState := .gathering, firstFrame := none, quiet := none, deadline := none }).withTime
    { s.time with beat := none }

/-- The close of an event that may meet the quiet condition: it is tested, then the level flags and ATTN follow (R129, R163,
R167, log 13). The events that cannot meet it close by `refreshNotices` alone. -/
def close (s : State) : State := refreshNotices (testQuiet s)

end Sys2Proof.Machine
end

