-- ==== Sys2Proof/Machine/RosterOps.lean ====
section
/-! DEFINITION. The roster unit (05): changes of entries, creation, the leaving of names, removal, cascades, the sender
report and the asked set. -/

namespace Sys2Proof.Machine

/-! ### Changing entries -/

/-- The roster with these entries. -/
def State.withEntries (s : State) (l : List Entry) : State := s.withRoster { s.roster with entries := l }

/-- The asked set becomes this. -/
def State.withAsked (s : State) (l : List Asked) : State := s.withRoster { s.roster with asked := l }

/-- A change of the entry of one identity. -/
def changeEntry (x : Identity) (f : Entry → Entry) (s : State) : State :=
  s.withEntries (s.roster.entries.map (fun e => if e.identity == x then f e else e))

/-- The entry as it enters HEARD: name and beat sequence absent, claim deadline armed, the others disarmed (R81, R88). -/
def Entry.toHeard (claim : Time) (e : Entry) : Entry :=
  { e with state := .heard, name := none, beatSeq := none, claimDl := some claim, silenceDl := none, lossDl := none }

/-- The entry as it enters NAMED, or is refreshed there: the silence deadline is armed, the others disarmed (R82, R89). -/
def Entry.toNamed (silence : Time) (e : Entry) : Entry :=
  { e with state := .named, claimDl := none, silenceDl := some silence, lossDl := none }

/-- The armed value of a claim deadline, span C (R81). -/
def State.claimValue (s : State) : Time := s.toolAfter (ms s.cfg.claim)

/-- The armed value of a silence deadline, span S (R89). -/
def State.silenceValue (s : State) : Time := s.toolAfter (ms s.cfg.silence)

/-- An entry enters HEARD and the census unit is told (R81). -/
def entryToHeard (x : Identity) (s : State) : State :=
  heardReported (changeEntry x (Entry.toHeard s.claimValue) s)

/-- An entry that holds a name leaves it for HEARD: the held name becomes its prior name (R79, R80, R88). -/
def heldToHeard (x : Identity) (s : State) : State :=
  entryToHeard x (changeEntry x (fun e => { e with prior := e.name }) s)

/-- The claimant's pending claim is dropped, and its two deadlines with it (R103). -/
def dropClaim (x : Identity) (s : State) : State :=
  s.withNaming { s.naming with claims := s.naming.claims.filter (fun c => c.claimant != x) }

/-! ### Creation -/

/-- The lowest-numbered free slot (R72). -/
def State.freeSlot (s : State) : Option Nat :=
  (List.range Config.rosterCapacity).find? (fun k => !s.roster.entries.any (fun e => e.slot == k))

/-- A new entry in a slot (R74). -/
def newEntry (slot : Nat) (x : Identity) (path : Name) (revision : Byte) (now : Time) : Entry :=
  { slot, identity := x, state := .heard, name := none, prior := none, origin := .free, path, revision,
    firstHeard := now, lastHeard := now, beatSeq := none, gaps := 0, objections := 0, storm := false, claimDl := none,
    silenceDl := none, lossDl := none }

/-- An entry takes its place in slot order. -/
def insertEntry (e : Entry) (s : State) : State :=
  s.withEntries (insertBy (fun g => decide (e.slot < g.slot)) e s.roster.entries)

/-- Creation fails on a full roster: the full latch is set and one FULL record is queued (R75). -/
def creationFails (x : Identity) (s : State) : State :=
  if s.roster.fullLatch then s
  else queueRecord .full 0 (some x) 0 (s.withRoster { s.roster with fullLatch := true })

/-- Creation in HEARD, at an ANNOUNCE or a CLAIM (R74, R77, R107). -/
def createHeard (x : Identity) (path : Name) (revision : Byte) (s : State) : State :=
  match s.freeSlot with
  | none => creationFails x s
  | some k =>
    queueRecord .joined 0 (some x) path
      (heardReported (insertEntry { newEntry k x path revision s.time.now with claimDl := some s.claimValue } s))

/-! ### Leaving a name and removal -/

/-- An entry's slot is freed, its deadlines and a pending claim of it go, and the full latch is cleared (R95). -/
def freeEntry (e : Entry) (s : State) : State :=
  let s := dropClaim e.identity s
  s.withRoster { s.roster with
    entries := s.roster.entries.filter (fun g => g.identity != e.identity), fullLatch := false }

/-- The entries directly behind name n, in ascending slot order (R91). -/
def State.directlyBehind (s : State) (n : Name) : List Entry :=
  s.roster.entries.filter (fun e => e.path == n && n != 0)

/-- The entries behind a bridge that leaves its name n are removed, each with a record of this kind whose detail is the name
of the bridge it was directly behind, and each bridge among them takes its own with it before the next (R92). The depth is
bounded by the roster's capacity (log 17). -/
def removeBehind (kind : ChangeKind) : Nat → Name → State → State
  | 0, _, s => s
  | depth + 1, n, s =>
    (s.directlyBehind n).foldl
      (fun s e =>
        let s := freeEntry e (queueRecord kind (e.name.getD 0) (some e.identity) n s)
        match e.heldName with
        | some m =>
          let s := serviceLeft m s
          if isBridge e.identity then removeBehind kind depth m s else s
        | none => s)
      s

/-- A name is left (R92): it leaves R and I, and if its holder is a bridge the entries behind it are removed with records of
this kind. -/
def leaveName (x : Identity) (n : Name) (kind : ChangeKind) (s : State) : State :=
  let s := serviceLeft n s
  if isBridge x then removeBehind kind Config.rosterCapacity n s else s

/-- Removal of an entry (R95). The record of the removal itself is queued by the rule that causes it, ahead of this. -/
def removeEntry (e : Entry) (kind : ChangeKind) (s : State) : State :=
  let s := freeEntry e s
  match e.heldName with
  | some n => leaveName e.identity n kind s
  | none => s

/-! ### Restart, return and demotion -/

/-- The restart step of R79 for a NAMED or SILENT entry, with what the frame changes in it. -/
def restartEntry (e : Entry) (f : Entry → Entry) (s : State) : State :=
  let n := e.name.getD 0
  let s := changeEntry e.identity f (heldToHeard e.identity s)
  leaveName e.identity n .stalled (queueRecord .restarted n (some e.identity) 0 s)

/-- The return step of R80 for a LOST entry, with what the frame changes in it and the path it leaves. -/
def returnEntry (e : Entry) (f : Entry → Entry) (s : State) : State :=
  let s := changeEntry e.identity f (heldToHeard e.identity s)
  leaveName e.identity (e.name.getD 0) .stalled (queueRecord .joined 0 (some e.identity) (f e).path s)

/-- Conflict demotion of an entry that holds a name (R88): it enters HEARD, its CONFLICT record is queued, and then it leaves
its name (R159). -/
def demoteEntry (e : Entry) (recordName : Name) (detail : Nat) (s : State) : State :=
  let s := queueRecord .conflict recordName (some e.identity) detail (heldToHeard e.identity s)
  leaveName e.identity (e.name.getD 0) .stalled s

/-! ### Loss -/

/-- The entry as it enters LOST: no deadline of the roster is armed (R90). -/
def Entry.toLost (e : Entry) : Entry :=
  { e with state := .lost, claimDl := none, silenceDl := none, lossDl := none }

/-- An entry enters LOST with a LOST record, and its name leaves R (R90, R91, R154). -/
def loseEntry (e : Entry) (detail : Nat) (s : State) : State :=
  let n := e.name.getD 0
  serviceLost n (queueRecord .lost n (some e.identity) detail (changeEntry e.identity Entry.toLost s))

/-- The entries directly behind a bridge that went LOST under name n react in slot order, and a bridge among them cascades
before the next is taken (R91). The depth is bounded by the roster's capacity (log 17). -/
def cascadeLoss : Nat → Name → State → State
  | 0, _, s => s
  | depth + 1, n, s =>
    (s.directlyBehind n).foldl
      (fun s e =>
        match e.state with
        | .lost => s
        | .heard => removeEntry e .stalled (queueRecord .stalled 0 (some e.identity) n s)
        | .claiming => removeEntry e .stalled (queueRecord .stalled (e.name.getD 0) (some e.identity) n s)
        | .named =>
          let s := loseEntry e n s
          if isBridge e.identity then cascadeLoss depth (e.name.getD 0) s else s
        | .silent =>
          let s := loseEntry e n s
          if isBridge e.identity then cascadeLoss depth (e.name.getD 0) s else s)
      s

/-! ### Frames keyed by a name -/

/-- The entry holding a name is refreshed (R82): a NAMED entry has its silence deadline re-armed, a SILENT or LOST one comes
BACK. -/
def refreshHolder (e : Entry) (s : State) : State :=
  let s' := changeEntry e.identity (fun g => { g.toNamed s.silenceValue with lastHeard := s.time.now }) s
  if e.state == .named then s' else queueRecord .back (e.name.getD 0) (some e.identity) 0 s'

/-- The roster unit places name n in the asked set, or asks again for an UNSENT one, and offers its PROBE (R84, R86). -/
def askName (n : Name) (s : State) : State :=
  let member : Asked :=
    if (offerOutcome (.probe n) s).entered then
      { name := n, probe := .queued, window := none, tag := some s.line.nextTag }
    else { name := n, probe := .unsent, window := none, tag := none }
  let t := offerFrame (.probe n) .roster (.adoptionProbe n) s
  match s.roster.asked.find? (fun a => a.name == n) with
  | none => t.withAsked (s.roster.asked ++ [member])
  | some a =>
    if a.probe == .unsent then t.withAsked (s.roster.asked.map (fun b => if b.name == n then member else b)) else s

/-- The sender report for name n (R82, R84). -/
def senderReport (n : Name) (s : State) : State :=
  match s.holder n with
  | some e => if e.state == .lost && s.behindLost e then countForeign s else refreshHolder e s
  | none => askName n (countForeign s)

/-- A name leaves the asked set (R87). -/
def leaveAsked (n : Name) (s : State) : State := s.withAsked (s.roster.asked.filter (fun a => a.name != n))

/-! ### Emptying -/

/-- The roster, the asked set and the full latch are emptied (R96, R97). -/
def emptyRoster (s : State) : State := s.withRoster Roster.reset

end Sys2Proof.Machine
end

