-- ==== Sys2Proof/Machine/NamingOps.lean ====
section
/-! DEFINITION. The naming unit (06): the name plan, the claim tests, objections and their tickets, and the judgement of
CLAIM, OBJECT and HOLD. -/

namespace Sys2Proof.Machine

/-! ### The name plan -/

/-- The identity an exact plan entry carries (06 Table 1). -/
def PlanEntry.identity (p : PlanEntry) : Identity := identityOf p.maker p.cls p.serial

/-- An exact entry of the plan carries x (R101). -/
def Naming.exactFor (m : Naming) (x : Identity) : Bool := m.plan.any (fun p => !p.wildcard && p.identity == x)

/-- A wildcard entry of the plan is bound to x (R101). -/
def Naming.boundTo (m : Naming) (x : Identity) : Bool := m.plan.any (fun p => p.wildcard && p.binding == some x)

/-- A wildcard entry's maker and class match an identity (R101). -/
def PlanEntry.family (p : PlanEntry) (x : Identity) : Bool := p.maker == makerOf x && p.cls == classOf x

/-- A plan entry stands against x (R101). -/
def Naming.standsAgainst (m : Naming) (x : Identity) (p : PlanEntry) : Bool :=
  if p.wildcard then
    match p.binding with
    | some y => y != x
    | none => !p.family x || m.exactFor x || m.boundTo x
  else p.identity != x

/-- The reservation of x: its exact entry, else the wildcard entry bound to it, else the lowest-index unbound wildcard entry
of its maker and class (R101). -/
def Naming.reservation (m : Naming) (x : Identity) : Option PlanEntry :=
  match m.plan.find? (fun p => !p.wildcard && p.identity == x) with
  | some p => some p
  | none =>
    match m.plan.find? (fun p => p.wildcard && p.binding == some x) with
    | some p => some p
    | none => m.plan.find? (fun p => p.wildcard && p.binding == none && p.family x)

/-- The entry of another identity that claims name n. An identity's own claim is left out: R102 asks the question of
claimants that are HEARD or absent, and R119 makes the test without the claimant's own claim. -/
def State.claimedByOther (s : State) (x : Identity) (n : Name) : Bool :=
  s.roster.entries.any (fun e => e.claimedName == some n && e.identity != x)

/-- A plan entry that reserves n stands against x (R102, test 4 of R108). -/
def Naming.reservedAgainst (m : Naming) (x : Identity) (n : Name) : Bool :=
  m.plan.any (fun p => p.name == n && m.standsAgainst x p)

/-- Name n is free for x (R102). -/
def State.freeFor (s : State) (x : Identity) (n : Name) : Bool :=
  (s.holder n).isNone && !s.claimedByOther x n && !s.naming.reservedAgainst x n

/-- The names 1 to 62. -/
def toolNames : List Name := (List.range 62).map (· + 1)

/-- The reserved name of x where it is free for x (R102, R108). -/
def State.freeReserved (s : State) (x : Identity) : Option Name :=
  match s.naming.reservation x with
  | some p => if s.freeFor x p.name then some p.name else none
  | none => none

/-- The prior name of x's entry where it is free for x (R102, R108). -/
def State.freePrior (s : State) (x : Identity) : Option Name :=
  match s.entryOf x with
  | some e =>
    match e.prior with
    | some n => if s.freeFor x n then some n else none
    | none => none
  | none => none

/-- The counter-offer for x (R102). -/
def State.counterOffer (s : State) (x : Identity) : Name :=
  match s.freeReserved x with
  | some n => n
  | none =>
    match s.freePrior x with
    | some n => n
    | none => (toolNames.find? (s.freeFor x)).getD 0

/-- The whole batch is refused with PLAN_CLASH: two entries would reserve one name, two exact entries would carry one
identity, or the plan would hold more than 32 entries (R99). -/
def planClash (plan batch : List PlanEntry) : Bool :=
  let all := plan ++ batch
  !decide ((all.map (·.name)).Nodup)
    || !decide (((all.filter (fun p => !p.wildcard)).map PlanEntry.identity).Nodup)
    || decide (Config.planCapacity < all.length)

/-- Every wildcard plan entry is unbound; the plan and the exact bindings are kept (R100, R122, R123). -/
def Naming.unbound (m : Naming) : Naming :=
  { m with plan := m.plan.map (fun p => if p.wildcard then { p with binding := none } else p) }

/-- The pending list, the tickets and the wildcard bindings are emptied (R122, R123). -/
def emptyNaming (s : State) : State := s.withNaming { s.naming.unbound with claims := [], tickets := [] }

/-! ### Pending claims and objections -/

/-- The pending claim of x (R103). -/
def State.claimOf (s : State) (x : Identity) : Option PendingClaim :=
  s.naming.claims.find? (fun c => c.claimant == x)

/-- The objection state of a pending claim: QUEUED while the part has an OBJECT carrying the claimant's identity in the
transmit list, or once one has been sent during the claim's life (R106, log 12). -/
def State.objectionState (s : State) (c : PendingClaim) : ObjectionState :=
  if c.objectSent || s.line.txList.any (TxFrame.objectsTo c.claimant) then .queued else .none

/-- An OBJECT carrying x's identity has been sent (R106, R113). -/
def objectSentFor (x : Identity) (s : State) : State :=
  s.withNaming { s.naming with
    claims := s.naming.claims.map (fun c => if c.claimant == x then { c with objectSent := true } else c) }

/-- The objection count of x's entry rises by one, and the increment that brings it to 8 sets the storm mark and queues a
STORM record (R111). -/
def countObjection (x : Identity) (s : State) : State :=
  match s.entryOf x with
  | none => s
  | some e =>
    let n := satAdd Config.maxObjections e.objections 1
    if n == Config.stormLevel && !e.storm then
      queueRecord .storm (e.name.getD 0) (some x) 8
        (changeEntry x (fun g => { g with objections := n, storm := true }) s)
    else changeEntry x (fun g => { g with objections := n }) s

/-- An objection to a claim is raised: the OBJECT is offered with a ticket that runs W from the end of the CLAIM, and the
claimant's objection count rises (R109, R112). An OBJECT the list drops leaves no ticket. -/
def raiseObjection (x : Identity) (n : Name) (reason : Reason) (counter : Name) (s : State) : State :=
  let windowEnd := s.after s.cfg.window
  let body : TxBody := .object x n reason counter
  let t := offerFrame body .naming (.claimObjection x windowEnd) s
  let t :=
    if (offerOutcome body s).entered then
      t.withNaming { t.naming with
        tickets := t.naming.tickets ++ [{ tag := s.line.nextTag, claimant := x, deadline := windowEnd }] }
    else t
  countObjection x t

/-- An OBJECT disputing a hold is offered; it opens no ticket (R119, R120). -/
def disputeHold (x : Identity) (n : Name) (reason : Reason) (counter : Name) (s : State) : State :=
  offerFrame (.object x n reason counter) .naming (.holdObjection x) s

/-! ### CLAIM -/

/-- The claim tests of R108, in order: the reason and counter-offer of the first that applies, or none. -/
def claimTest (x : Identity) (n : Name) (s : State) : Option (Reason × Name) :=
  if n = 0 ∨ n = Config.noneName then some (.range, s.counterOffer x)
  else if (s.entryOf x).isNone then some (.full, 0)
  else if (s.holder n).isSome then some (.taken, s.counterOffer x)
  else if s.roster.entries.any (fun e => e.claimedName == some n) then some (.pending, s.counterOffer x)
  else if s.naming.reservedAgainst x n then some (.reserved, s.counterOffer x)
  else
    let wrong : Option Name :=
      match s.freeReserved x with
      | some r => if r = n then none else some r
      | none =>
        match s.freePrior x with
        | some p => if p = n then none else some p
        | none => none
    match wrong with
    | some m => some (.wrong, m)
    | none => if Config.claimCapacity ≤ s.naming.claims.length then some (.pending, 0) else none

/-- A claim that passes every test is accepted (R110). -/
def acceptClaim (x : Identity) (n : Name) (s : State) : State :=
  let s := changeEntry x
    (fun e => { e with state := .claiming, name := some n, claimDl := none, lastHeard := s.time.now }) s
  s.withNaming { s.naming with
    claims := s.naming.claims ++
      [{ claimant := x, name := n, windowEnd := s.after s.cfg.window, windowEnded := false,
         hold := s.after (2 * s.cfg.window), objectSent := false }] }

/-- The claim is judged by the tests (R108 to R110). -/
def judgeClaim (x : Identity) (n : Name) (s : State) : State :=
  match claimTest x n s with
  | some (reason, counter) => raiseObjection x n reason counter s
  | none => acceptClaim x n s

/-- The naming unit takes a CLAIM of x for n: its entry is first brought into a state from which the claim can be judged
(R107). -/
def takeClaim (x : Identity) (n : Name) (s : State) : State :=
  match s.entryOf x with
  | none => judgeClaim x n (createHeard x 0 0 s)
  | some e =>
    let heardNow := fun g : Entry => { g with lastHeard := s.time.now }
    match e.state with
    | .heard => judgeClaim x n (changeEntry x heardNow s)
    | .claiming => judgeClaim x n (entryToHeard x (dropClaim x (changeEntry x heardNow s)))
    | .named => judgeClaim x n (restartEntry e heardNow s)
    | .silent => judgeClaim x n (restartEntry e heardNow s)
    | .lost => if s.behindLost e then countForeign s else judgeClaim x n (returnEntry e heardNow s)

/-! ### OBJECT -/

/-- An OBJECT of the part is withdrawn when another station's OBJECT against x is heard: every one against a claim of x, and
one disputing a hold of x where the heard OBJECT has reason CONFLICT and the same disputed name (R114). -/
def TxFrame.yieldsTo (x : Identity) (d : Name) (conflict : Bool) (f : TxFrame) : Bool :=
  match f.ref with
  | .claimObjection y _ => y == x
  | .holdObjection y =>
    y == x && conflict &&
      match f.body with
      | .object _ n _ _ => n == d
      | _ => false
  | _ => false

/-- The withdrawals of R114, with the end of the tickets of the OBJECTs withdrawn. -/
def withdrawObjections (x : Identity) (d : Name) (conflict : Bool) (s : State) : State :=
  let gone := s.line.txList.filter (TxFrame.yieldsTo x d conflict)
  let s := withdraw (TxFrame.yieldsTo x d conflict) s
  s.withNaming { s.naming with
    tickets := s.naming.tickets.filter (fun t => !gone.any (fun f => f.tag == t.tag)) }

/-- A heard CONFLICT objection demotes the entry holding d when that entry has identity x, but for one that is LOST behind a
LOST bridge (R115). -/
def heardConflict (x : Identity) (d : Name) (s : State) : State :=
  match s.holder d with
  | some e =>
    if e.identity = x ∧ ¬ (e.state = .lost ∧ s.behindLost e = true) then demoteEntry e d 0 s else s
  | none => s

/-- The naming unit takes another station's OBJECT against x (R114). -/
def takeObject (x : Identity) (d : Name) (reason : Nat) (s : State) : State :=
  let conflict := reason == Reason.conflict.code
  let s := match s.claimOf x with
    | some _ => entryToHeard x (dropClaim x s)
    | none => s
  let s := countObjection x (withdrawObjections x d conflict s)
  if conflict then heardConflict x d s else s

/-! ### HOLD -/

/-- The place of the plan entry that reserves n and is open to x (R121). -/
def Naming.originIndex (m : Naming) (x : Identity) (n : Name) : Option Nat :=
  m.plan.findIdx? (fun p => p.name == n && !m.standsAgainst x p)

/-- The origin of a name x comes to hold (R121). -/
def Naming.originOf (m : Naming) (x : Identity) (n : Name) : Origin :=
  match m.originIndex x n with
  | some i => .plan i
  | none => .free

/-- An unbound wildcard entry that reserves n and is open to x becomes bound to x (R121). -/
def Naming.bind (m : Naming) (x : Identity) (n : Name) : Naming :=
  match m.originIndex x n with
  | some i =>
    let bound := fun p : PlanEntry => if p.wildcard && p.binding == none then { p with binding := some x } else p
    { m with plan := m.plan.modify i bound }
  | none => m

/-- x's entry comes to hold n by acceptance or adoption: NAMED, its origin set and any wildcard entry bound, the prior name
cleared (R88, R117, R119, R121). -/
def nameEntry (x : Identity) (n : Name) (s : State) : State :=
  let t := changeEntry x
    (fun e => { e.toNamed s.silenceValue with
      name := some n, prior := none, origin := s.naming.originOf x n, lastHeard := s.time.now }) s
  t.withNaming (t.naming.bind x n)

/-- Acceptance (R117). -/
def acceptHold (x : Identity) (n : Name) (s : State) : State :=
  queueRecord .named n (some x) 0 (nameEntry x n (dropClaim x s))

/-- The entry of an adoption stands in the roster under name n: it is recorded and the census is told (R119). -/
def adopted (x : Identity) (n : Name) (s : State) : State :=
  adoptionReported (queueRecord .adopted n (some x) 0 (nameEntry x n s))

/-- Adoption (R119): of an entry that exists, its pending claim removed first, or of a new one. On a full roster the OBJECT of
reason FULL answers the hold. -/
def adoptHold (x : Identity) (n : Name) (s : State) : State :=
  match s.entryOf x with
  | some _ => adopted x n (dropClaim x s)
  | none =>
    match s.freeSlot with
    | none => disputeHold x n .full 0 (creationFails x s)
    | some k => adopted x n (insertEntry { newEntry k x 0 0 s.time.now with state := .named, name := some n } s)

/-- Conflict (R120). -/
def conflictHold (x : Identity) (n : Name) (s : State) : State :=
  let s :=
    match s.entryOf x with
    | none => queueRecord .conflict n (some x) 0 s
    | some e =>
      match e.state with
      | .heard => queueRecord .conflict n (some x) 0 s
      | .claiming => queueRecord .conflict n (some x) 0 (entryToHeard x (dropClaim x s))
      | .named => demoteEntry e n (e.name.getD 0) s
      | .silent => demoteEntry e n (e.name.getD 0) s
      | .lost => demoteEntry e n (e.name.getD 0) s
  countObjection x (disputeHold x n .conflict (s.counterOffer x) s)

/-- A HOLD of x for n may be accepted: its entry is CLAIMING n, the claim's window has ended, and no objection of the part is
queued or sent against it (R117). -/
def State.acceptable (s : State) (x : Identity) (n : Name) : Bool :=
  match s.entryOf x, s.claimOf x with
  | some e, some c =>
    e.claimedName == some n && c.windowEnded && s.objectionState c == .none
  | _, _ => false

/-- The judgement of a HOLD, the first case that applies (R117). -/
def judgeHold (x : Identity) (n : Name) (s : State) : State :=
  match s.entryOf x with
  | none => if s.freeFor x n then adoptHold x n s else conflictHold x n s
  | some e =>
    if e.state == .lost && s.behindLost e then countForeign s
    else if s.acceptable x n then acceptHold x n s
    else if e.heldName == some n then refreshHolder e s
    else if s.freeFor x n && e.seeking then adoptHold x n s
    else conflictHold x n s

/-- A running PING order takes a HOLD of its name while its window is armed (R177). -/
def pingAnswered (x : Identity) (n : Name) (s : State) : State :=
  if s.pingRunning && s.order.operand.toNat == n && s.order.pingWindow.isSome then
    if s.order.pingIdentity == some x then
      endOrder none (match s.holder n with | some e => e.state.code | none => 0) s
    else endOrder (some .mismatch) 0 s
  else s

/-- The naming unit takes a HOLD keyed with n and carrying identity x: the name leaves the asked set, a PING that awaits it
ends, and the HOLD is judged (R87, R117, R177). -/
def takeHold (x : Identity) (n : Name) (s : State) : State :=
  judgeHold x n (pingAnswered x n (leaveAsked n s))

end Sys2Proof.Machine
end

