-- ==== Sys2Proof/Machine/CouplingOps.lean ====
section
/-! DEFINITION. The freeze (03 section 3.3), the line enable (R19), the recall (R37), and the coupling monitor's moves, its
park and its teardown (04). -/

namespace Sys2Proof.Machine

/-! ### Line enable -/

/-- The enable condition of the line interface (R19). -/
def State.enableCondition (s : State) : Bool :=
  s.coupling.supply == .on && s.census.state.lineActive && s.coupling.state == .coupled

/-- The line interface takes the enable condition at once (R19). Disabled, it discards a reception and abandons an attempt,
whose frame keeps its place; enabled, its line state is BUSY and it waits 2 P before it hunts. -/
def syncLine (s : State) : State :=
  if s.enableCondition == s.line.enabled then s
  else if s.enableCondition then
    s.withLine { s.line with enabled := true, recessive8 := false, rx := s.waits 0 }
  else s.withLine { s.line with enabled := false, recessive8 := false, rx := .off, inFlight := none }

/-! ### The freeze -/

/-- A freeze begins when the coupling leaves COUPLED with the supply RAMPING or ON and no freeze in force (R43). -/
def beginFreeze (s : State) : State :=
  if s.time.frozen || s.coupling.supply == .off then s
  else s.withTime { s.time with frozen := true, freezeStart := s.time.now }

/-- A tool deadline moved later by the frozen duration (R46). -/
def moved (d : Time) (dl : Option Time) : Option Time := dl.map (· + d)

/-- The release of a freeze: every armed tool deadline is moved later by the frozen duration, the beat comparator included,
and the frozen flag is cleared (R46). -/
def releaseFreeze (s : State) : State :=
  if s.time.frozen then
    let d := s.time.now - s.time.freezeStart
    let s := s.withTime { s.time with frozen := false, beat := moved d s.time.beat }
    let s := s.withRoster { s.roster with
      entries := s.roster.entries.map (fun e =>
        { e with claimDl := moved d e.claimDl, silenceDl := moved d e.silenceDl, lossDl := moved d e.lossDl }),
      asked := s.roster.asked.map (fun a => { a with window := moved d a.window }) }
    let s := s.withNaming { s.naming with
      claims := s.naming.claims.map (fun c =>
        { c with windowEnd := if c.windowEnded then c.windowEnd else c.windowEnd + d, hold := c.hold + d }),
      tickets := s.naming.tickets.map (fun t => { t with deadline := t.deadline + d }) }
    let s := s.withCensus { s.census with
      firstFrame := moved d s.census.firstFrame, quiet := moved d s.census.quiet,
      deadline := moved d s.census.deadline }
    s.withOrder { s.order with pingWindow := moved d s.order.pingWindow }
  else s

/-! ### Emptying -/

/-- What a park and a teardown both do to the tool state (R66, R69), the census going to the state given: the supply is
switched off, the roster, the naming unit, R and I and the transmit list are emptied, the line error count, the stuck mark
and LINE_FAULT are cleared, a freeze is discarded and a running order's probe window is disarmed. -/
def emptyTool (census : CensusState) (s : State) : State :=
  let s := s.withCoupling { s.coupling with supply := .off, settle := none, holdLimit := none }
  let s := s.withPins { s.pins with supplyEn := false }
  let s := emptyNaming (emptyRoster (endCensus census s))
  let s := s.withService s.service.emptied
  let s := s.withTime { s.time with frozen := false }
  let s := s.withLine { s.line with
    txList := [], inFlight := none, errors := 0, stuck := false, fault := false }
  syncLine (s.withOrder { s.order with pingIdentity := none, pingWindow := none })

/-- A park with the record and detail of its cause (R66, 04 Table 3). A running order is overtaken, unless it is the PARK
order itself, which ends itself. -/
def parkTool (kind : ChangeKind) (detail : Nat) (s : State) : State :=
  queueRecord kind 0 none detail (emptyTool .parked s)

/-- A park that is not the PARK order's (R66): a running order ends OVERTAKEN. -/
def parkOvertaking (kind : ChangeKind) (detail : Nat) (s : State) : State :=
  overtakeOrder (parkTool kind detail s)

/-! ### Recall -/

/-- A recall is taken (R37, R96): every owner of tool state is reached in one event. The RECALLED record carries the sender
and the entry count. Of the transmit list a BEAT is kept; the RECALL of a running order removed here ends it OK with detail
1, and the removed PROBE of a PING order is offered again (R33, R176, R177). -/
def takeRecall (sender : Name) (s : State) : State :=
  let pingWaits := s.line.txList.any TxFrame.isPingProbe
  let recallWaits := s.line.txList.any TxFrame.isRecall
  let count := s.roster.entries.length
  let s := queueRecord .recalled sender none count (emptyRoster s)
  let s := recallCensus (emptyNaming s)
  let s := s.withService s.service.emptied
  let s := withdraw (fun f => !f.isBeat) s
  let s := if recallWaits then endRecallOrder none 1 s else s
  if pingWaits && s.pingRunning then offerPingProbe s.order.operand.toNat s else s

/-! ### Coupling states -/

/-- The coupling state becomes this and is reported to the line interface (R56, R57, R59). -/
def enterCoupling (c : CouplingState) (s : State) : State :=
  syncLine (s.withCoupling { s.coupling with state := c })

/-- Entry to MAKING: the mate capture is taken and the make deadline armed (R53, R54, R61). -/
def enterMaking (s : State) : State :=
  setCouplingFlag (enterCoupling .making
    (s.withCoupling { s.coupling with
      mateCapture := s.time.now, make := some (s.after (ms s.cfg.make)) }))

/-- Both mate inputs are asserted (R54). -/
def State.mated (s : State) : Bool := s.pins.mateA && s.pins.mateB

/-- Entry to OPEN: the locked-once mark is cleared, and with both mate inputs already asserted MAKING follows at once (R54). -/
def enterOpen (s : State) : State :=
  let s := enterCoupling .openState
    (s.withCoupling { s.coupling with lockedOnce := false, make := none, holdLimit := none })
  if s.mated then enterMaking s else s

/-- The supply is switched on: RAMPING, SUPPLY_EN high, the settle deadline armed (R62, R68). -/
def switchSupplyOn (s : State) : State :=
  (s.withCoupling { s.coupling with supply := .ramping, settle := some (s.after (ms s.cfg.settle)) }).withPins
    { s.pins with supplyEn := true }

/-- Entry to COUPLED (R56): the locked-once mark is set, a freeze is released, the deadlines left behind are cancelled, and
the supply is switched on where it is OFF and the census is not PARKED (R62). -/
def enterCoupled (s : State) : State :=
  let s := releaseFreeze s
  let s := s.withCoupling { s.coupling with lockedOnce := true, brk := none, holdLimit := none }
  let s :=
    if s.order.phase == .run && s.coupling.supply == .off && s.census.state != .parked then switchSupplyOn s else s
  enterCoupling .coupled s

/-- Entry to HELD (R57): in HELD (unlocked) with the supply not OFF the hold limit is armed, unless it is armed already. -/
def enterHeld (s : State) : State :=
  let arms := s.coupling.lockedOnce && s.coupling.supply != .off && s.coupling.holdLimit.isNone
  enterCoupling .held
    (if arms then s.withCoupling { s.coupling with holdLimit := some (s.after (ms s.cfg.hold)) } else s)

/-- Entry to BREAKING: the unmate capture is taken and the break deadline armed (R59, R61). -/
def enterBreaking (s : State) : State :=
  setCouplingFlag (enterCoupling .breaking
    (s.withCoupling { s.coupling with
      unmateCapture := s.time.now, brk := some (s.after (100 * s.cfg.brk)) }))

/-- COUPLED where LOCK is engaged, else HELD: at the make expiry and at the return of a break (R55, R59). -/
def coupleByLock (s : State) : State := if s.pins.lock then enterCoupled s else enterHeld s

/-- A teardown (R69), at the expiry of the break deadline (R60). -/
def teardown (s : State) : State :=
  let count := s.roster.entries.length
  enterOpen (overtakeOrder (queueRecord .torn 0 none count (emptyTool .absent s)))

end Sys2Proof.Machine
end

