-- ==== Sys2Proof/Machine/LineOps.lean ====
section
/-! DEFINITION. The line interface at work (01): the counts of errors and good frames, LINE_FAULT, the reports to owners, and
the dispatch of received frames (02 section 2.3). -/

namespace Sys2Proof.Machine

/-! ### LINE_FAULT -/

/-- LINE_FAULT ends at the first moment at which the line error count is below 32 and the stuck mark is clear (R18). -/
def leaveFault (s : State) : State :=
  if s.line.fault && decide (s.line.errors < Config.faultExit) && !s.line.stuck then
    s.withLine { s.line with fault := false }
  else s

/-- Entry to LINE_FAULT (R16): the line is released, the LINE flag is set, and a running RECALL order is ended with LINE_DOWN,
its frame withdrawn without a drop counted (R31, R176). -/
def enterFault (s : State) : State :=
  let s := setLineFlag (s.withLine { s.line with fault := true, inFlight := none })
  if s.recallRunning then endRecallOrder (some .lineDown) 0 (withdraw TxFrame.isRecall s) else s

/-- LINE_FAULT is entered when an error leaves the count at 96 or more and it is not in force (R16). -/
def checkFault (s : State) : State :=
  if !s.line.fault && decide (Config.faultEntry ≤ s.line.errors) then enterFault s else s

/-- A good frame, sent or received, lowers the line error count by one (R15), which may end LINE_FAULT (R18). -/
def goodCount (s : State) : State :=
  leaveFault (s.withLine { s.line with errors := s.line.errors - 1 })

/-! ### Reports to owners (R32, 02 Table 5) -/

/-- A frame was dropped, after four attempts: its owner is told (R32). -/
def dropReport (f : TxFrame) (s : State) : State :=
  match f.ref with
  | .claimObjection _ _ =>
    s.withNaming { s.naming with tickets := s.naming.tickets.filter (fun t => t.tag != f.tag) }
  | .holdObjection _ => s
  | .adoptionProbe _ =>
    s.withAsked (s.roster.asked.map (fun a =>
      if a.tag == some f.tag then { a with probe := .unsent, window := none, tag := none } else a))
  | .pingProbe _ => endPingOrder (some .lineDown) 0 s
  | .none => if f.isRecall then endRecallOrder (some .lineDown) 0 s else s

/-- A frame was sent: its owner applies its effect (R12, R32). -/
def sentReport (f : TxFrame) (s : State) : State :=
  match f.body with
  | .object claimant _ _ _ => objectSentFor claimant s
  | .recall => takeRecall 0 (endRecallOrder none 0 s)
  | .hold _ => s
  | .beat => s.withLine { s.line with beatSeq := s.line.beatSeq + 1 }
  | .probe _ =>
    match f.ref with
    | .pingProbe _ =>
      if s.pingRunning then s.withOrder { s.order with pingWindow := some (s.toolAfter Config.probeWindow) } else s
    | _ =>
      s.withAsked (s.roster.asked.map (fun a =>
        if a.tag == some f.tag then
          { a with probe := .opened, window := some (s.toolAfter Config.probeWindow) }
        else a))

/-- The frame of the list with this number. -/
def Line.frame (l : Line) (tag : Nat) : Option TxFrame := l.txList.find? (fun f => f.tag == tag)

/-! ### An attempt and its ends -/

/-- The moment of R9 at which an attempt begins: enabled, not in LINE_FAULT, the line IDLE, a frame in the list and none in
flight. -/
def State.mayTransmit (s : State) : Bool :=
  s.line.enabled && !s.line.fault && s.line.recessive8 && s.line.inFlight.isNone && !s.line.txList.isEmpty

/-- An attempt begins on the frame at the head of the list: its started mark is set and, for a BEAT, its two bytes are
written (R9, R26, R30, R35). -/
def beginAttempt (s : State) : State :=
  match s.line.txList with
  | [] => s
  | f :: rest =>
    s.withLine { s.line with
      txList := { f with started := true } :: rest,
      inFlight := some { tag := f.tag, wire := f.body.wire s.line.beatSeq (windowByte s.cfg) },
      recessive8 := false, rx := .hunting }

/-- The line interface no longer drives the line, and its receiver resumes hunting (R11, R12). -/
def endAttempt (rx : Receiver) (s : State) : State := s.withLine { s.line with inFlight := none, rx := rx }

/-- The receiver after a bit error: it does not assemble the rest of what is on the line (R11), whose latest edge is ½ P old
where a bit or the start mark was sampled, and just seen where it stands in the end mark's place. -/
def State.afterBitError (s : State) : BitErrorCause → Receiver
  | .mismatch _ => s.waits 1
  | .startMark => s.waits 1
  | .endMark => s.waits 0

/-- The attempt ends in a bit error (R11): the count rises by 8; a frame still in the list has its attempt count raised, and
at the fourth it is removed, counted and reported. -/
def failAttempt (i : InFlight) (cause : BitErrorCause) (s : State) : State :=
  let s := endAttempt (s.afterBitError cause) (s.withLine { s.line with errors := satAdd Config.maxErrors s.line.errors 8 })
  let s :=
    match s.line.frame i.tag with
    | none => s
    | some f =>
      if f.attempts + 1 < Config.maxAttempts then
        s.withLine { s.line with
          txList := s.line.txList.map (fun g => if g.tag == i.tag then { g with attempts := g.attempts + 1 } else g) }
      else dropReport f (countTxDrop (withdraw (fun g => g.tag == i.tag) s))
  checkFault s

/-- The attempt succeeds (R12): the count falls, the frame leaves the list and its owner gets a sent report; a frame that was
withdrawn meanwhile gets none. -/
def completeAttempt (i : InFlight) (s : State) : State :=
  let s := goodCount (endAttempt .hunting s)
  match s.line.frame i.tag with
  | none => s
  | some f => sentReport f (withdraw (fun g => g.tag == i.tag) s)

/-- The bit at a place of the frame in flight is sent as 1. -/
def InFlight.sends1 (i : InFlight) (bit : Nat) : Bool := i.wire.bits[bit]? == some true

/-- The bit at a place of the frame in flight is sent as 0. -/
def InFlight.sends0 (i : InFlight) (bit : Nat) : Bool := i.wire.bits[bit]? == some false

/-- A 1 sent and a 0 read in the kind or key field loses arbitration (R10). -/
def InFlight.losesAt (i : InFlight) (bit : Nat) : Bool :=
  decide (bit < Config.arbitrationBits) && i.sends1 bit

/-- What the line interface saw is a bit error of this attempt (R11): a 0 read as 1 anywhere, or a 1 read as 0 after the
arbitration field. -/
def InFlight.isBitError (i : InFlight) : BitErrorCause → Bool
  | .mismatch bit => i.sends0 bit || (i.sends1 bit && decide (Config.arbitrationBits ≤ bit))
  | .startMark => true
  | .endMark => true

/-! ### Reception -/

/-- A frame can be received while the line interface is enabled and is not itself sending (R4, R19). -/
def State.receiving (s : State) : Bool := s.line.enabled && s.line.inFlight.isNone

/-- The bits the receiver has kept as the start of the frame on the line: those it sampled up to a lost arbitration (R10). -/
def Receiver.kept : Receiver → List Bool
  | .off => []
  | .waiting _ => []
  | .hunting => []
  | .assembling bits => bits

/-- Of two runs of bits each begins the other, as far as both go. -/
def sameStart (a b : List Bool) : Bool := a.isPrefixOf b || b.isPrefixOf a

/-- A frame that began n half bit periods ago did not begin before its start mark could be recognised: a frame that was in
progress then is not received (R4, R11, R13, R17, R19; log 22). -/
def State.huntedFor (s : State) (n : Nat) : Bool :=
  match s.line.rx with
  | .waiting hunts => s.due (some (hunts + BitVec.ofNat 32 (s.halves n)))
  | .off => true
  | .hunting => true
  | .assembling _ => true

/-- A frame whose first bits are these and which began n half bit periods ago can be the one received: the part is receiving,
they begin with the bits kept from a lost arbitration (R10), and the part hunted when the frame began (R19). -/
def State.mayHear (s : State) (start : List Bool) (n : Nat) : Bool :=
  s.receiving && sameStart s.line.rx.kept start && s.huntedFor n

/-- This frame, whose end mark is just complete, can be the one received (R10, R14, R19). -/
def State.hears (s : State) (f : RxFrame) : Bool := s.mayHear (frameStart f) (frameHalves f)

/-- A frame that the part does not receive has ended. Its end mark is 2 P without a falling edge, so a receiver that waits
hunts from here on (R5, R19). -/
def passFrame (s : State) : State :=
  match s.line.rx with
  | .waiting _ => if s.receiving then s.withLine { s.line with recessive8 := false, rx := .hunting } else s
  | .off => s
  | .hunting => s
  | .assembling _ => s

/-- A good frame has completed (R14): the count falls, the census leaves POWERING before the frame's owner acts (R127). The
line has just carried its last bit, so it is not yet recessive for 8 P. -/
def goodFrame (s : State) : State :=
  firstGoodFrame (goodCount (s.withLine { s.line with recessive8 := false, rx := .hunting }))

/-- The roster unit as owner of an ANNOUNCE from x (R76 to R80): the path check. A path of 0 passes; any other must be held
by a NAMED or SILENT bridge that is not x and is not behind x. -/
def pathOk (x : Identity) (p : Name) (s : State) : Bool :=
  p == 0 ||
    match s.holder p with
    | some b =>
      (b.state == .named || b.state == .silent) && isBridge b.identity && b.identity != x && !s.isBehind b x
    | none => false

/-- The roster unit takes an ANNOUNCE from x (R76 to R80). -/
def takeAnnounce (x : Identity) (p : Name) (revision : Byte) (s : State) : State :=
  if pathOk x p s then
    match s.entryOf x with
    | none => createHeard x p revision s
    | some e =>
      let fromFrame := fun g : Entry => { g with path := p, revision := revision, lastHeard := s.time.now }
      match e.state with
      | .heard => changeEntry x (fun g => { fromFrame g with claimDl := some s.claimValue }) s
      | .claiming => changeEntry x fromFrame s
      | .named => restartEntry e fromFrame s
      | .silent => restartEntry e fromFrame s
      | .lost => returnEntry e fromFrame s
  else queueRecord .pathFault 0 (some x) p s

/-- The beat sequence check of an entry (R83). -/
def Entry.checkBeat (q : BitVec 8) (e : Entry) : Entry :=
  match e.beatSeq with
  | none => { e with beatSeq := some q }
  | some h =>
    if q = h + 1 then { e with beatSeq := some q }
    else { e with beatSeq := some q, gaps := satAdd Config.maxCount8 e.gaps 1 }

/-- The roster unit takes a BEAT keyed with n, after its sender report (R83): only an entry that the report refreshed is
checked. -/
def takeBeat (n : Name) (q : BitVec 8) (s : State) : State :=
  match s.holder n with
  | some e => if e.state == .lost then s else changeEntry e.identity (Entry.checkBeat q) s
  | none => s

/-- The roster unit takes a RELEASE keyed with n and carrying x (R93). -/
def takeRelease (n : Name) (x : Identity) (s : State) : State :=
  match s.holder n with
  | some e =>
    if e.identity == x then removeEntry e .released (queueRecord .released n (some x) 0 s) else countForeign s
  | none => countForeign s

/-- The service request unit takes a CALL from n, after its sender report (R144). -/
def takeCall (n : Name) (cause : Byte) (s : State) : State :=
  match s.holder n with
  | some e => if e.state == .lost then s else s.withService (s.service.call n cause)
  | none => s

/-- The frame dispatch hands a well-formed frame to the unit that owns its kind, after the sender report where there is one
(R24, 02 Table 4). -/
def dispatch (f : RxFrame) (s : State) : State :=
  let n := senderOf f.key
  match f.body with
  | .object claimant name reason _ => takeObject claimant name.toNat reason.toNat (senderReport n s)
  | .recall _ => takeRecall n s
  | .call cause => takeCall n cause (senderReport n s)
  | .hold holder => takeHold holder n s
  | .claim name _ => takeClaim f.key name.toNat s
  | .announce path revision _ => takeAnnounce f.key path.toNat revision s
  | .probe target => if target = 0 then answerProbe (senderReport n s) else senderReport n s
  | .beat sequence _ => takeBeat n sequence (senderReport n s)
  | .release holder => takeRelease n holder s

/-- A good frame of a known kind, where it can be the one received (R10, R14, R19, R22 to R24): it is counted as good, its form
is checked, and it is dispatched where it is well formed and counted as foreign where it is not. -/
def receiveFrame (f : RxFrame) (s : State) : State :=
  if s.hears f then
    let t := goodFrame s
    close (if formOk s.ownIdentity f then dispatch f t else countForeign t)
  else passFrame s

end Sys2Proof.Machine
end

