-- ==== Sys2Proof/Machine/PinEvents.lean ====
section
/-! DEFINITION. Reset, the changes of the input pins, and the expiries of the four coupling deadlines (04, R180). -/

namespace Sys2Proof.Machine

/-- The outcome of a meaning. Every command of this block answers a next state. -/
abbrev Result := Host.Outcome State Fault Refusal

/-- Every block takes its reset values and the time base starts again from 0 (R180). The levels of the input pins belong to
the outside and stay (R53, log 6); the waiting commands are not the part's and stay (log 7). -/
def resetPart (s : State) : State :=
  { State.reset with
    pins := { Pins.reset with mateA := s.pins.mateA, mateB := s.pins.mateB, lock := s.pins.lock,
                              supplyGood := s.pins.supplyGood }
    draws := s.draws
    pending := s.pending }

/-- RESET (R180): a low level on RESET and its release. A transaction in progress is discarded (R169). -/
def execReset (s : State) : Result := .next (resetPart s)

/-- A mate input's level (R52). -/
def Pins.mate (p : Pins) : MateInput → Bool
  | .a => p.mateA
  | .b => p.mateB

/-- A mate input takes a level (R52). -/
def Pins.setMate (p : Pins) : MateInput → Bool → Pins
  | .a, v => { p with mateA := v }
  | .b, v => { p with mateB := v }

/-- What the coupling monitor does when both mate inputs have become asserted: OPEN goes to MAKING (R54) and BREAKING returns
to COUPLED or HELD by the level of LOCK, its break deadline cancelled (R59). -/
def matesMet (s : State) : State :=
  match s.coupling.state with
  | .openState => enterMaking s
  | .breaking => coupleByLock (s.withCoupling { s.coupling with brk := none })
  | .making => s
  | .coupled => s
  | .held => s

/-- MATE_ASSERTED (R54, R59): the input's level changes; the coupling monitor acts on it from GO on (R52). -/
def execMateAsserted (input : MateInput) (s : State) : Result :=
  if s.pins.mate input then .next s
  else
    let t := s.withPins (s.pins.setMate input true)
    .next (refreshNotices (if t.order.phase == .run && t.mated then matesMet t else t))

/-- What the coupling monitor does when a mate input is released: MAKING returns to OPEN (R55), COUPLED and HELD enter
BREAKING (R56, R58, R59), and a freeze begins from COUPLED (R43). -/
def mateParted (s : State) : State :=
  match s.coupling.state with
  | .making => enterOpen s
  | .coupled => enterBreaking (beginFreeze s)
  | .held => enterBreaking s
  | .openState => s
  | .breaking => s

/-- MATE_RELEASED (R55, R59). -/
def execMateReleased (input : MateInput) (s : State) : Result :=
  if s.pins.mate input then
    let t := s.withPins (s.pins.setMate input false)
    .next (refreshNotices (if t.order.phase == .run then mateParted t else t))
  else .next s

/-- LOCK_ENGAGED (R58): HELD enters COUPLED. -/
def execLockEngaged (s : State) : Result :=
  if s.pins.lock then .next s
  else
    let t := s.withPins { s.pins with lock := true }
    .next (refreshNotices (if t.order.phase == .run && t.coupling.state == .held then enterCoupled t else t))

/-- LOCK_RELEASED (R56, R57): COUPLED enters HELD, and a freeze begins where the supply is RAMPING or ON (R43). -/
def execLockReleased (s : State) : Result :=
  if s.pins.lock then
    let t := s.withPins { s.pins with lock := false }
    .next (refreshNotices (if t.order.phase == .run && t.coupling.state == .coupled then enterHeld (beginFreeze t) else t))
  else .next s

/-- SUPPLY_GOOD_CHANGE (R64): its release while the supply is ON parks the tool with SUPPLY_FAULT, detail 2 (DROP). -/
def execSupplyGoodChange (level : Bool) (s : State) : Result :=
  if s.pins.supplyGood == level then .next s
  else
    let t := s.withPins { s.pins with supplyGood := level }
    .next (refreshNotices (if !level && t.coupling.supply == .on then parkOvertaking .supplyFault 2 t else t))

/-- MAKE_DEADLINE (R55): LOCK is sampled and the coupling enters COUPLED or HELD. -/
def execMakeDeadline (s : State) : Result :=
  if s.due s.coupling.make then
    let t := s.withCoupling { s.coupling with make := none }
    .next (refreshNotices (if t.coupling.state == .making then coupleByLock t else t))
  else .next s

/-- BREAK_DEADLINE (R60): the coupling enters OPEN and a teardown is performed. -/
def execBreakDeadline (s : State) : Result :=
  if s.due s.coupling.brk then .next (refreshNotices (teardown (s.withCoupling { s.coupling with brk := none })))
  else .next s

/-- SETTLE_DEADLINE (R63): with SUPPLY_GOOD asserted the supply enters ON and the census POWERING, else the tool is parked
with SUPPLY_FAULT, detail 1 (RAMP). -/
def execSettleDeadline (s : State) : Result :=
  if s.due s.coupling.settle then
    let t := s.withCoupling { s.coupling with settle := none }
    .next (refreshNotices (
      if t.pins.supplyGood then syncLine (enterPowering (t.withCoupling { t.coupling with supply := .on }))
      else parkOvertaking .supplyFault 1 t))
  else .next s

/-- HOLD_LIMIT_DEADLINE (R65): the tool is parked with PARKED, detail 2 (HOLD_LIMIT). -/
def execHoldLimitDeadline (s : State) : Result :=
  if s.due s.coupling.holdLimit then
    .next (refreshNotices (parkOvertaking .parked 2 (s.withCoupling { s.coupling with holdLimit := none })))
  else .next s

end Sys2Proof.Machine
end

