-- ==== Sys2Proof/Machine/LineEvents.lean ====
section
/-! DEFINITION. The events of plug line signalling (01): the idle line, attempts and their ends, receive errors, a stuck
line. -/

namespace Sys2Proof.Machine

/-- The line has been recessive without a break for 8 P (R8): the line state is IDLE outside LINE_FAULT, the stuck mark clears
(R17), and LINE_FAULT may end (R18). -/
def lineRecessive (s : State) : State :=
  leaveFault (s.withLine { s.line with recessive8 := true, stuck := false, rx := .hunting })

/-- LINE_IDLE (R8). No line time is counted while the line interface is disabled (R19). -/
def execLineIdle (s : State) : Result :=
  if s.receiving then .next (refreshNotices (lineRecessive s)) else .next s

/-- TRANSMIT_ATTEMPT (R9). -/
def execTransmitAttempt (s : State) : Result :=
  if s.mayTransmit then .next (refreshNotices (beginAttempt s)) else .next s

/-- The receiver after a falling edge: the 2 P without one of R19 count from it where they had not passed. -/
def State.waitsAnew (s : State) : Receiver :=
  match s.line.rx with
  | .waiting hunts => if s.due (some hunts) then .waiting hunts else s.waits 0
  | .off => .off
  | .hunting => .hunting
  | .assembling bits => .assembling bits

/-- Another station's falling edge makes the line state BUSY outside LINE_FAULT (R8), so that the part does not begin an attempt
before the line has been recessive for 8 P again, and receives (R9). A receiver that is still in the 2 P of R19 counts them
anew from this edge. The line is not sampled while the line interface is disabled (R19), and an attempt already begun goes on
whatever another station sends (R9). -/
def foreignEdge (s : State) : State :=
  if s.receiving then refreshNotices (s.withLine { s.line with recessive8 := false, rx := s.waitsAnew }) else s

/-- The frame in flight loses arbitration at this bit (R10): it keeps its place and its attempt count, and the part receives the
winner's frame, which begins with the bits sampled so far. -/
def loseArbitration (bit : Nat) (s : State) : State :=
  match s.line.inFlight with
  | some i =>
    if i.losesAt bit then
      refreshNotices (s.withLine { s.line with
        inFlight := none, rx := .assembling (i.wire.bits.take bit ++ [false]) })
    else s
  | none => s

/-- The line is lost to another station (R8 to R10). -/
def loseLine : LossPlace → State → State
  | .beforeStart, s => foreignEdge s
  | .bit place, s => loseArbitration place s

/-- ARBITRATION_LOSS (R10), and the loss of the line before the start mark (R9, log 5). -/
def execArbitrationLoss (place : LossPlace) (s : State) : Result := .next (loseLine place s)

/-- BIT_ERROR (R11). -/
def execBitError (cause : BitErrorCause) (s : State) : Result :=
  match s.line.inFlight with
  | some i => if i.isBitError cause then .next (refreshNotices (failAttempt i cause s)) else .next s
  | none => .next s

/-- ATTEMPT_SUCCESS (R12). -/
def execAttemptSuccess (s : State) : Result :=
  match s.line.inFlight with
  | some i => .next (close (completeAttempt i s))
  | none => .next s

/-- The receiver after a receive error, which counts once for its frame (R13): the rest of the frame is still on the line, its
latest edge ½ P old where a bit was sampled and just seen where it stands in the end mark's place. An early end is itself 2 P
without an edge. -/
def State.afterError (s : State) : ReceiveErrorCause → Receiver
  | .length _ _ => s.waits 1
  | .crc _ _ => s.waits 1
  | .earlyEnd => .hunting
  | .lateEdge => s.waits 0

/-- RECEIVE_ERROR (R13), of a frame that can be the one on the line (R10, R19): the frame is discarded and the line error count
rises by one (R15). -/
def execReceiveError (cause : ReceiveErrorCause) (s : State) : Result :=
  if s.mayHear cause.start cause.halves && cause.fails then
    .next (refreshNotices (checkFault (s.withLine { s.line with
      errors := satAdd Config.maxErrors s.line.errors 1, rx := s.afterError cause, recessive8 := false })))
  else .next s

/-- STUCK_DOMINANT (R17): any frame being assembled is discarded without a receive error, the stuck mark is set, and
LINE_FAULT is entered if it is not in force (R16). -/
def execStuckDominant (s : State) : Result :=
  if s.line.enabled then
    let t := s.withLine { s.line with stuck := true, rx := .waiting s.time.now, recessive8 := false }
    .next (refreshNotices (if t.line.fault then t else enterFault t))
  else .next s

/-- STUCK_MARK_CLEAR (R17, R18): the line has been recessive for 8 P with the stuck mark set. -/
def execStuckMarkClear (s : State) : Result :=
  if s.receiving && s.line.stuck then .next (refreshNotices (lineRecessive s)) else .next s

end Sys2Proof.Machine
end

