-- ==== Sys2Proof/Machine/FrameEvents.lean ====
section
/-! DEFINITION. The frames received from the plug line, each at the end of its end mark (R14, R22 to R25). -/

namespace Sys2Proof.Machine

/-- FOREIGN_FRAME (R14): a good frame of an unknown kind is counted as good and as foreign, and discarded. -/
def execForeignFrame (f : WireFrame) (s : State) : Result :=
  if (fixedLength f.kind.toNat).isNone && decide (f.payload.length ≤ 9) then
    .next (if s.mayHear (arbitrationField f.kind f.key) (receivedHalves f.payload.length) then close (countForeign (goodFrame s)) else passFrame s)
  else .next s

/-- MALFORMED_FRAME (R23): a good frame of a known kind. The part itself makes the form checks, so one that passes them is
dispatched (log 3). -/
def execMalformedFrame (f : RxFrame) (s : State) : Result := .next (receiveFrame f s)

/-- ANNOUNCE_RECEIVED (R76). -/
def execAnnounceReceived (key : Key) (path revision wish : Byte) (s : State) : Result :=
  .next (receiveFrame ⟨key, .announce path revision wish⟩ s)

/-- BEAT_RECEIVED (R83). -/
def execBeatReceived (key : Key) (sequence window : Byte) (s : State) : Result :=
  .next (receiveFrame ⟨key, .beat sequence window⟩ s)

/-- RELEASE_RECEIVED (R93). -/
def execReleaseReceived (key : Key) (holder : Identity) (s : State) : Result :=
  .next (receiveFrame ⟨key, .release holder⟩ s)

/-- RECALL_RECEIVED (R96). -/
def execRecallReceived (key : Key) (reason : Byte) (s : State) : Result :=
  .next (receiveFrame ⟨key, .recall reason⟩ s)

/-- PROBE_OF_ARM_END (R25): a PROBE whose target is name 0. -/
def execProbeOfArmEnd (key : Key) (s : State) : Result := .next (receiveFrame ⟨key, .probe 0⟩ s)

/-- PROBE_RECEIVED (R85). -/
def execProbeReceived (key : Key) (target : Byte) (s : State) : Result :=
  .next (receiveFrame ⟨key, .probe target⟩ s)

/-- CLAIM_RECEIVED (R107). -/
def execClaimReceived (key : Key) (name tryCount : Byte) (s : State) : Result :=
  .next (receiveFrame ⟨key, .claim name tryCount⟩ s)

/-- OBJECT_RECEIVED (R114). -/
def execObjectReceived (key : Key) (claimant : Identity) (name reason counter : Byte) (s : State) : Result :=
  .next (receiveFrame ⟨key, .object claimant name reason counter⟩ s)

/-- HOLD_RECEIVED (R117). -/
def execHoldReceived (key : Key) (holder : Identity) (s : State) : Result :=
  .next (receiveFrame ⟨key, .hold holder⟩ s)

/-- CALL_RECEIVED (R144). -/
def execCallReceived (key : Key) (cause : Byte) (s : State) : Result :=
  .next (receiveFrame ⟨key, .call cause⟩ s)

end Sys2Proof.Machine
end

