-- ==== Sys2Proof/Machine/ToolDeadlines.lean ====
section
/-! DEFINITION. The expiries of the tool deadlines (03 Table 1) and the match of the beat comparator. Each acts only when its
deadline is due and no freeze holds it (R41, R45); otherwise the command is no event of the part (log 3). -/

namespace Sys2Proof.Machine

/-- CLAIM_DEADLINE (R81): the entry is removed with a STALLED record. -/
def execClaimDeadline (slot : Nat) (s : State) : Result :=
  match s.entryAt slot with
  | some e =>
    if s.toolDue e.claimDl then
      .next (close (removeEntry e .stalled (queueRecord .stalled 0 (some e.identity) 0 s)))
    else .next s
  | none => .next s

/-- The entry as it enters SILENT: the loss deadline is armed from last heard (R89). -/
def Entry.toSilent (span : Nat) (e : Entry) : Entry :=
  { e with state := .silent, silenceDl := none, lossDl := some (e.lastHeard + BitVec.ofNat 32 span) }

/-- SILENCE_DEADLINE (R89): the entry goes SILENT with a SILENT record. -/
def execSilenceDeadline (slot : Nat) (s : State) : Result :=
  match s.entryAt slot with
  | some e =>
    if s.toolDue e.silenceDl then
      .next (refreshNotices (queueRecord .silent (e.name.getD 0) (some e.identity) 0
        (changeEntry e.identity (Entry.toSilent (s.cfg.loss * ms s.cfg.silence)) s)))
    else .next s
  | none => .next s

/-- LOSS_DEADLINE (R90): the entry goes LOST, and a bridge cascades to the entries behind it (R91). -/
def execLossDeadline (slot : Nat) (s : State) : Result :=
  match s.entryAt slot with
  | some e =>
    if s.toolDue e.lossDl then
      let t := loseEntry e 0 s
      .next (close (if isBridge e.identity then cascadeLoss Config.rosterCapacity (e.name.getD 0) t else t))
    else .next s
  | none => .next s

/-- PROBE_WINDOW_END (R87): the name leaves the asked set. -/
def execProbeWindowEnd (name : Name) (s : State) : Result :=
  match s.roster.asked.find? (fun a => a.name == name) with
  | some a => if s.toolDue a.window then .next (refreshNotices (leaveAsked name s)) else .next s
  | none => .next s

/-- OBJECTION_WINDOW_END (R104): the window-ended mark of the claim is set. -/
def execObjectionWindowEnd (claimant : Identity) (s : State) : Result :=
  match s.claimOf claimant with
  | some c =>
    if !c.windowEnded && s.toolDue (some c.windowEnd) then
      .next (refreshNotices (s.withNaming { s.naming with
        claims := s.naming.claims.map (fun d => if d.claimant == claimant then { d with windowEnded := true } else d) }))
    else .next s
  | none => .next s

/-- HOLD_DEADLINE (R105): the pending claim is removed and the entry returns to HEARD. -/
def execHoldDeadline (claimant : Identity) (s : State) : Result :=
  match s.claimOf claimant with
  | some c =>
    if s.toolDue (some c.hold) then .next (close (entryToHeard claimant (dropClaim claimant s))) else .next s
  | none => .next s

/-- A late objection is withdrawn and counted where the ticket's OBJECT is still in the list and has not begun (R112). -/
def withdrawLate (tag : Nat) (s : State) : State :=
  if s.line.txList.any (fun f => f.tag == tag && !f.started) then
    countTxDrop (withdraw (fun f => f.tag == tag) s)
  else s

/-- OBJECTION_TICKET_DEADLINE (R112): the ticket ends, and an OBJECT not yet started is withdrawn. -/
def execObjectionTicketDeadline (ticket : Nat) (s : State) : Result :=
  match s.naming.tickets.find? (fun t => t.tag == ticket) with
  | some k =>
    if s.toolDue (some k.deadline) then
      .next (refreshNotices (withdrawLate ticket (s.withNaming { s.naming with
        tickets := s.naming.tickets.filter (fun t => t.tag != ticket) })))
    else .next s
  | none => .next s

/-- FIRST_FRAME_DEADLINE (R128): a POWERING census enters COMPLETE. -/
def execFirstFrameDeadline (s : State) : Result :=
  if s.toolDue s.census.firstFrame then
    let t := s.withCensus { s.census with firstFrame := none }
    .next (refreshNotices (if t.census.state == .powering then enterComplete t else t))
  else .next s

/-- QUIET_DEADLINE (R132): a QUIET census enters COMPLETE. -/
def execQuietDeadline (s : State) : Result :=
  if s.toolDue s.census.quiet then
    let t := s.withCensus { s.census with quiet := none }
    .next (refreshNotices (if t.census.state == .quiet then enterComplete t else t))
  else .next s

/-- What an overrun of the census deadline does (R130): GATHERING enters OVERDUE and QUIET takes the return state OVERDUE,
each with an OVERDUE record; in any other state it has no effect. -/
def censusOverrun (s : State) : State :=
  match s.census.state with
  | .gathering => queueRecord .overdue 0 none s.seekers (s.withCensus { s.census with state := .overdue })
  | .quiet => queueRecord .overdue 0 none 0 (s.withCensus { s.census with returnState := .overdue })
  | .absent => s
  | .powering => s
  | .complete => s
  | .overdue => s
  | .parked => s

/-- CENSUS_DEADLINE (R130). -/
def execCensusDeadline (s : State) : Result :=
  if s.toolDue s.census.deadline then
    .next (refreshNotices (censusOverrun (s.withCensus { s.census with deadline := none })))
  else .next s

/-- PING_PROBE_WINDOW (R177): the running PING ends with NO_ANSWER. -/
def execPingProbeWindow (s : State) : Result :=
  if s.toolDue s.order.pingWindow then
    .next (refreshNotices (endPingOrder (some .noAnswer) 0 (s.withOrder { s.order with pingWindow := none })))
  else .next s

/-- BEAT_COMPARATOR_MATCH (R48): a BEAT is offered and the compare value advances by B, whatever becomes of the BEAT. -/
def execBeatComparatorMatch (s : State) : Result :=
  match s.time.beat with
  | some v =>
    if s.toolDue s.time.beat then
      .next (refreshNotices (offerFrame .beat .timeBase .none
        (s.withTime { s.time with beat := some (v + BitVec.ofNat 32 (ms s.cfg.beat)) })))
    else .next s
  | none => .next s

end Sys2Proof.Machine
end

