-- ==== Sys2Proof/Machine/PortCommands.lean ====
section
/-! DEFINITION. The port commands but for START ORDER (10, 09 section 9.4, 08 sections 8.6 and 8.7). Each is one whole
transaction; its bytes stand on SDO (log 8). -/

namespace Sys2Proof.Machine

/-- READ_STATUS (R179): it changes nothing. -/
def execReadStatus (s : State) : Result := .next (clockOut s (statusBlock s) s)

/-- READ_NOTICES (R165): the flags and the enables, and the seen mark of each latched flag shown set. -/
def execReadNotices (s : State) : Result :=
  .next (clockOut s [s.notices.bits, s.order.enables]
    (s.withNotices { s.notices with
      couplingSeen := s.notices.couplingSeen || s.notices.coupling
      lineSeen := s.notices.lineSeen || s.notices.line
      censusSeen := s.notices.censusSeen || s.notices.census }))

/-- The latched flags after a CLEAR NOTICES with this selection (R166): a selected flag that is set and seen is cleared with
its seen mark. -/
def Notices.cleared (n : Notices) (selection : Byte) : Notices :=
  let coupling := selection.getLsbD 3 && n.coupling && n.couplingSeen
  let line := selection.getLsbD 4 && n.line && n.lineSeen
  let census := selection.getLsbD 5 && n.census && n.censusSeen
  { n with
    coupling := n.coupling && !coupling, couplingSeen := n.couplingSeen && !coupling
    line := n.line && !line, lineSeen := n.lineSeen && !line
    census := n.census && !census, censusSeen := n.censusSeen && !census }

/-- CLEAR_NOTICES (R166). -/
def execClearNotices (selection : Byte) (s : State) : Result :=
  .next (clockOut s [] (refreshNotices (s.withNotices (s.notices.cleared selection))))

/-- WRITE_ORDER (R170, R181): taken in IDLE, refused with BUSY otherwise. With fewer data bytes than its count the command is
cut short before its last argument byte and has no effect (R169). -/
def execWriteOrder (opcode operand offset count : Byte) (data : List Byte) (s : State) : Result :=
  if data.length < dataCount count then .next (clockOut s [] s)
  else if s.order.state == .idle then
    .next (clockOut s [0x00] (s.withOrder { s.order with
      opcode, operand, data := writeData s.order.data offset.toNat (data.take (dataCount count)) }))
  else .next (clockOut s [0x01] s)

/-- READ_ORDER (R171). -/
def execReadOrder (s : State) : Result :=
  .next (clockOut s
    ([BitVec.ofNat 8 s.order.state.code, s.order.opcode, s.order.operand] ++ beBytes 2 s.order.termination.toNat
      ++ [s.order.detail]) s)

/-- RETIRE_ORDER (R171): DONE goes to IDLE; in IDLE and RUNNING it has no effect. -/
def execRetireOrder (s : State) : Result :=
  .next (clockOut s []
    (if s.order.state == .done then refreshNotices (s.withOrder { s.order with state := .idle }) else s))

/-- The copy a LATCH takes (R178). -/
def State.copied (s : State) : SnapshotCopy :=
  { entries := s.roster.entries, census := s.census.state, generation := s.census.generation,
    entryCount := s.roster.entries.length, settling := s.census.settling, time := s.time.now }

/-- LATCH (R178): in FREE it takes the copy, in LATCHED it is ignored. -/
def execLatch (s : State) : Result :=
  if s.snapshot.latched then .next (clockOut s [0x02] s)
  else .next (clockOut s [0x00] (s.withSnapshot { latched := true, copy := s.copied }))

/-- The reply of READ SNAPSHOT (R178, R182): result, slot record and census fields. -/
def snapshotReply (p : Snapshot) (slot : Nat) : List Byte :=
  if Config.rosterCapacity ≤ slot then 0x04 :: (emptySlotRecord ++ List.replicate 12 0)
  else if p.latched then
    0x00 ::
      ((match p.copy.entries.find? (fun e => e.slot == slot) with
        | some e => slotRecord e
        | none => emptySlotRecord) ++ censusFields p.copy)
  else 0x03 :: (emptySlotRecord ++ List.replicate 12 0)

/-- READ_SNAPSHOT (R178). -/
def execReadSnapshot (slot : Byte) (s : State) : Result := .next (clockOut s (snapshotReply s.snapshot slot.toNat) s)

/-- RELEASE (R178): LATCHED goes to FREE, the copy kept. -/
def execRelease (s : State) : Result :=
  .next (clockOut s [] (s.withSnapshot { s.snapshot with latched := false }))

/-- READ_CHANGE (R161): the oldest record is removed and returned, or a NONE record with the drop count. -/
def execReadChange (s : State) : Result :=
  match s.changes.queue with
  | r :: rest => .next (clockOut s (recordBytes r) (refreshNotices (s.withChanges { s.changes with queue := rest })))
  | [] => .next (clockOut s (noneRecord s.changes.drops) s)

/-- The service request unit after a TAKE hands out n (R147, R148): with auto-done off the name joins I; with auto-done and
rotation on it becomes the bottom name. -/
def Service.taken (v : Service) (c : Setup) (n : Name) : Service :=
  let w := v.dropRequest n
  if c.autoDone then (if c.rotation then { w with bottom := n } else w) else w.serve n

/-- The reply of a TAKE that hands out n: its cause and overrun mark as they stand (R147). -/
def Service.takeReply (v : Service) (n : Name) : List Byte :=
  match v.requests.find? (fun r => r.name == n) with
  | some r => [BitVec.ofNat 8 n, r.cause, if r.overrun then 0x01 else 0x00]
  | none => [BitVec.ofNat 8 n, 0, 0]

/-- TAKE (R147, R149). -/
def execTake (s : State) : Result :=
  match s.takeChoice with
  | some n =>
    .next (clockOut s (s.service.takeReply n) (refreshNotices (s.withService (s.service.taken s.cfg n))))
  | none => .next (clockOut s [0x3F, 0x00, 0x00] s)

/-- A name leaves I by a DONE, and with the rotation mode on it becomes the bottom name (R151, R153). -/
def Service.doneWith (v : Service) (c : Setup) (n : Name) : Service :=
  let w := v.finish n
  if c.rotation then { w with bottom := n } else w

/-- A DONE finishes name n (R151, R152). -/
def finishService (n : Name) (s : State) : State :=
  clockOut s [BitVec.ofNat 8 n, 0x00] (refreshNotices (s.withService (s.service.doneWith s.cfg n)))

/-- A DONE answered "not in service": name 63, and nothing changes (R151, R152). -/
def notInService (s : State) : State := clockOut s [0x3F, 0x05] s

/-- The non-specific DONE (R152): the name in I of highest priority is finished. -/
def doneHighest (s : State) : State :=
  match highest s.service.bottom s.service.inService with
  | some n => finishService n s
  | none => notInService s

/-- DONE (R151). A name byte of 0 is the non-specific form (11 Table 4). -/
def execDone (name : Byte) (s : State) : Result :=
  if name = 0 then .next (doneHighest s)
  else if s.service.inService.contains name.toNat then .next (finishService name.toNat s)
  else .next (notInService s)

/-- DONE_0 (R152). -/
def execDone0 (s : State) : Result := .next (doneHighest s)

/-- SET_MASK (R143): in RUN it replaces MK, in SETUP it is refused. -/
def execSetMask (mask : BitVec 64) (s : State) : Result :=
  if s.order.phase == .run then
    .next (clockOut s [0x00] (refreshNotices (s.withService { s.service with mask := maskOf mask })))
  else .next (clockOut s [0x06] s)

/-- RESTART (R180): the reset of the part at the rise of CS. The port status byte of its transaction shows the state before. -/
def execRestart (s : State) : Result := .next (clockOut s [] (resetPart s))

/-- UNKNOWN_COMMAND (R169): no effect, and no reply, so that a transaction clocks out 00₁₆ after the port status byte
(`clocked`). -/
def execUnknownCommand (command : Byte) (s : State) : Result :=
  if commandCodes.contains command then .next s else .next (clockOut s [] s)

end Sys2Proof.Machine
end

