-- ==== Sys2Proof/Machine/Orders.lean ====
section
/-! DEFINITION. START ORDER and the orders it begins (10 sections 10.2 to 10.4). Each order's row of the opcode table is START
ORDER taken with that order's opcode in the order record (log 9). -/

namespace Sys2Proof.Machine

/-- START ORDER taken in IDLE clears the termination word and its detail and sets RUNNING (R171). -/
def beginOrder (s : State) : State :=
  s.withOrder { s.order with state := .running, termination := 0, detail := 0 }

/-- START ORDER refused with BUSY: neither the order nor its record is changed (R171). -/
def orderBusy (s : State) : State := clockOut s [0x01] s

/-- START ORDER with this opcode in the order record (R171): refused with BUSY in RUNNING and DONE; in IDLE the order begins.
Where the record holds another opcode the row's event is not what happens, and nothing is done (log 9). -/
def startOrder (opcode : Byte) (order : State → State) (s : State) : State :=
  if s.order.state == .idle then
    if s.order.opcode = opcode then clockOut s [0x00] (close (order (beginOrder s))) else s
  else orderBusy s

/-- An order is checked for its phase as it starts (R172). -/
def inPhase (p : Phase) (order : State → State) (s : State) : State :=
  if s.order.phase = p then order s else endOrder (some .phase) 0 s

/-- The SETUP order (R173): the values are checked in order and stored, or the order ends with BAD_OPERAND at the first field
that fails. -/
def setupOrder (s : State) : State :=
  let v := setupOf s.order.data
  match firstBadField v with
  | some i => endOrder (some .badOperand) i s
  | none => endOrder none 0 (s.withOrder { s.order with setup := some v })

/-- SETUP (R173). -/
def execSetup (s : State) : Result := .next (startOrder 0x01 (inPhase .setup setupOrder) s)

/-- The PLAN order (R174, R99). -/
def planOrder (s : State) : State :=
  let count := byteAt s.order.data 0
  if 1 ≤ count ∧ count ≤ 4 then
    let batch := (List.range count).map (fun k => planEntryAt s.order.data (k + 1))
    match batch.findIdx? (fun p => !planEntryOk p) with
    | some k => endOrder (some .badOperand) (k + 1) s
    | none =>
      if planClash s.naming.plan batch then endOrder (some .planClash) 0 s
      else endOrder none 0 (s.withNaming { s.naming with plan := s.naming.plan ++ batch })
  else endOrder (some .badOperand) 0 s

/-- PLAN (R174). -/
def execPlan (s : State) : Result := .next (startOrder 0x02 (inPhase .setup planOrder) s)

/-- The CLEAR PLAN order (R174). -/
def clearPlanOrder (s : State) : State := endOrder none 0 (s.withNaming { s.naming with plan := [] })

/-- CLEAR_PLAN (R174). -/
def execClearPlan (s : State) : Result := .next (startOrder 0x03 (inPhase .setup clearPlanOrder) s)

/-- The GO order (R174, R53): the phase becomes RUN and the coupling monitor starts, in MAKING at once with both mate inputs
asserted. -/
def goOrder (s : State) : State :=
  match s.order.setup with
  | none => endOrder (some .noSetup) 0 s
  | some _ =>
    let t := s.withOrder { s.order with phase := .run }
    endOrder none 0 (if t.mated then enterMaking t else t)

/-- GO (R174). -/
def execGo (s : State) : Result := .next (startOrder 0x04 (inPhase .setup goOrder) s)

/-- The PARK order (R175): PARKED, detail 1 (ORDER). -/
def parkOrder (s : State) : State :=
  if (s.coupling.state = .coupled ∨ s.coupling.state = .held) ∧ s.census.state.lineActive = true then
    endOrder none 0 (parkTool .parked 1 s)
  else endOrder (some .phase) 0 s

/-- PARK (R175). -/
def execPark (s : State) : Result := .next (startOrder 0x10 (inPhase .run parkOrder) s)

/-- The UNPARK order (R175, R68): an UNPARK that finds the supply already RAMPING leaves the settle deadline as it is. -/
def unparkOrder (s : State) : State :=
  if s.census.state = .parked ∧ s.coupling.state = .coupled then
    endOrder none 0 (if s.coupling.supply == .off then switchSupplyOn s else s)
  else endOrder (some .phase) 0 s

/-- UNPARK (R175). -/
def execUnpark (s : State) : Result := .next (startOrder 0x11 (inPhase .run unparkOrder) s)

/-- The RECALL order (R176): it stays RUNNING once its frame is in the list. -/
def recallOrder (s : State) : State :=
  if s.census.state.lineActive then
    if s.line.fault then endOrder (some .lineDown) 0 s else offerRecall s
  else endOrder (some .phase) 0 s

/-- RECALL (R176). -/
def execRecall (s : State) : Result := .next (startOrder 0x12 (inPhase .run recallOrder) s)

/-- The operand is a tool-device name. -/
def State.operandNames (s : State) : Bool := byteIn 1 62 s.order.operand

/-- The PING order (R177): the holder's identity is recorded and a PROBE offered. -/
def pingOrder (s : State) : State :=
  let n := s.order.operand.toNat
  if s.operandNames then
    match s.holder n with
    | some e => offerPingProbe n (s.withOrder { s.order with pingIdentity := some e.identity, pingWindow := none })
    | none => endOrder (some .badOperand) 0 s
  else endOrder (some .badOperand) 0 s

/-- PING (R177). -/
def execPing (s : State) : Result := .next (startOrder 0x13 (inPhase .run pingOrder) s)

/-- The FORGET order (R175, R94): the record of the entry stands ahead of those of the entries behind it. -/
def forgetOrder (s : State) : State :=
  let n := s.order.operand.toNat
  if s.operandNames then
    match s.holder n with
    | some e =>
      if e.state == .lost then
        endOrder none 0 (removeEntry e .forgotten (queueRecord .forgotten n (some e.identity) 0 s))
      else endOrder (some .notLost) 0 s
    | none => endOrder (some .notLost) 0 s
  else endOrder (some .badOperand) 0 s

/-- FORGET (R94, R175). -/
def execForget (s : State) : Result := .next (startOrder 0x14 (inPhase .run forgetOrder) s)

/-- UNKNOWN_OPCODE (R172): an opcode that names no order ends the order at once with UNKNOWN_OP, in either phase. -/
def execUnknownOpcode (s : State) : Result :=
  if (setupOpcodes ++ runOpcodes).contains s.order.opcode then .next (if s.order.state == .idle then s else orderBusy s)
  else .next (startOrder s.order.opcode (endOrder (some .unknownOp) 0) s)

/-- START_ORDER_BUSY (R171): START ORDER taken in RUNNING or DONE. -/
def execStartOrderBusy (s : State) : Result :=
  if s.order.state == .idle then .next s else .next (orderBusy s)

end Sys2Proof.Machine
end

