-- ==== Sys2Proof/Machine/Timers.lean ====
section
/-! DEFINITION. The part's own clock: which of its deadlines are due, and what the part does of itself when no command waits
(R38, R41, R9; logs 1 and 2). -/

namespace Sys2Proof.Machine

/-- A command, if it is due. -/
def ifDue (b : Bool) (c : Instr) : List Instr := if b then [c] else []

/-- The coupling deadlines that are due; they run through a freeze (R45). -/
def State.couplingDue (s : State) : List Instr :=
  ifDue (s.due s.coupling.make) .makeDeadline ++ ifDue (s.due s.coupling.brk) .breakDeadline
    ++ ifDue (s.due s.coupling.settle) .settleDeadline ++ ifDue (s.due s.coupling.holdLimit) .holdLimitDeadline

/-- The roster unit's deadlines that are due. -/
def State.rosterDue (s : State) : List Instr :=
  s.roster.entries.flatMap (fun e =>
      ifDue (s.toolDue e.claimDl) (.claimDeadline e.slot) ++ ifDue (s.toolDue e.silenceDl) (.silenceDeadline e.slot)
        ++ ifDue (s.toolDue e.lossDl) (.lossDeadline e.slot))
    ++ s.roster.asked.flatMap (fun a => ifDue (s.toolDue a.window) (.probeWindowEnd a.name))

/-- The naming unit's deadlines that are due. -/
def State.namingDue (s : State) : List Instr :=
  s.naming.claims.flatMap (fun c =>
      ifDue (!c.windowEnded && s.toolDue (some c.windowEnd)) (.objectionWindowEnd c.claimant)
        ++ ifDue (s.toolDue (some c.hold)) (.holdDeadline c.claimant))
    ++ s.naming.tickets.flatMap (fun t => ifDue (s.toolDue (some t.deadline)) (.objectionTicketDeadline t.tag))

/-- The census deadlines, the PING probe window and the beat comparator, where they are due. -/
def State.otherDue (s : State) : List Instr :=
  ifDue (s.toolDue s.census.firstFrame) .firstFrameDeadline ++ ifDue (s.toolDue s.census.quiet) .quietDeadline
    ++ ifDue (s.toolDue s.census.deadline) .censusDeadline ++ ifDue (s.toolDue s.order.pingWindow) .pingProbeWindow
    ++ ifDue (s.toolDue s.time.beat) .beatComparatorMatch

/-- Every event the part makes of itself at this moment: its due deadlines, and an attempt that may begin (R9, R41). -/
def State.dueCommands (s : State) : List Instr :=
  s.couplingDue ++ s.rosterDue ++ s.namingDue ++ s.otherDue ++ ifDue s.mayTransmit .transmitAttempt

/-- The time base counts one microsecond, modulo 2³² (R38). -/
def tick (s : State) : State := s.withTime { s.time with now := s.time.now + 1 }

/-- What the part does while no command waits (log 1): with nothing due the time base counts on; else one due event is put
into the queue. Where several are due either may be taken first (R41), and the choice is the free value `Config.freePick`
(log 2). -/
def idleStep (s : State) : State :=
  match s.dueCommands with
  | [] => tick s
  | [c] => { s with pending := [c] }
  | c :: d :: more =>
    let all := c :: d :: more
    { s with pending := [all.getD (Config.freePick s.draws % all.length) c], draws := s.draws + 1 }

end Sys2Proof.Machine
end

