-- ==== Sys2Proof/Machine/Dispatch.lean ====
section
/-! DEFINITION. One arm per command, each one call of its meaning. -/

namespace Sys2Proof.Machine

/-- The command's effect on everything but the queue. -/
def exec (i : Instr) (s : State) : Host.Outcome State Fault Refusal :=
  match i with
  | .reset => Sys2Proof.Machine.execReset s
  | .mateAsserted input => Sys2Proof.Machine.execMateAsserted input s
  | .mateReleased input => Sys2Proof.Machine.execMateReleased input s
  | .lockEngaged => Sys2Proof.Machine.execLockEngaged s
  | .lockReleased => Sys2Proof.Machine.execLockReleased s
  | .supplyGoodChange level => Sys2Proof.Machine.execSupplyGoodChange level s
  | .makeDeadline => Sys2Proof.Machine.execMakeDeadline s
  | .breakDeadline => Sys2Proof.Machine.execBreakDeadline s
  | .settleDeadline => Sys2Proof.Machine.execSettleDeadline s
  | .holdLimitDeadline => Sys2Proof.Machine.execHoldLimitDeadline s
  | .lineIdle => Sys2Proof.Machine.execLineIdle s
  | .transmitAttempt => Sys2Proof.Machine.execTransmitAttempt s
  | .arbitrationLoss place => Sys2Proof.Machine.execArbitrationLoss place s
  | .bitError cause => Sys2Proof.Machine.execBitError cause s
  | .attemptSuccess => Sys2Proof.Machine.execAttemptSuccess s
  | .receiveError cause => Sys2Proof.Machine.execReceiveError cause s
  | .stuckDominant => Sys2Proof.Machine.execStuckDominant s
  | .stuckMarkClear => Sys2Proof.Machine.execStuckMarkClear s
  | .foreignFrame frame => Sys2Proof.Machine.execForeignFrame frame s
  | .malformedFrame frame => Sys2Proof.Machine.execMalformedFrame frame s
  | .announceReceived key path revision wish => Sys2Proof.Machine.execAnnounceReceived key path revision wish s
  | .beatReceived key sequence window => Sys2Proof.Machine.execBeatReceived key sequence window s
  | .releaseReceived key holder => Sys2Proof.Machine.execReleaseReceived key holder s
  | .recallReceived key reason => Sys2Proof.Machine.execRecallReceived key reason s
  | .probeOfArmEnd key => Sys2Proof.Machine.execProbeOfArmEnd key s
  | .probeReceived key target => Sys2Proof.Machine.execProbeReceived key target s
  | .claimReceived key name tryCount => Sys2Proof.Machine.execClaimReceived key name tryCount s
  | .objectReceived key claimant name reason counter => Sys2Proof.Machine.execObjectReceived key claimant name reason counter s
  | .holdReceived key holder => Sys2Proof.Machine.execHoldReceived key holder s
  | .callReceived key cause => Sys2Proof.Machine.execCallReceived key cause s
  | .claimDeadline slot => Sys2Proof.Machine.execClaimDeadline slot s
  | .silenceDeadline slot => Sys2Proof.Machine.execSilenceDeadline slot s
  | .lossDeadline slot => Sys2Proof.Machine.execLossDeadline slot s
  | .probeWindowEnd name => Sys2Proof.Machine.execProbeWindowEnd name s
  | .objectionWindowEnd claimant => Sys2Proof.Machine.execObjectionWindowEnd claimant s
  | .holdDeadline claimant => Sys2Proof.Machine.execHoldDeadline claimant s
  | .objectionTicketDeadline ticket => Sys2Proof.Machine.execObjectionTicketDeadline ticket s
  | .firstFrameDeadline => Sys2Proof.Machine.execFirstFrameDeadline s
  | .quietDeadline => Sys2Proof.Machine.execQuietDeadline s
  | .censusDeadline => Sys2Proof.Machine.execCensusDeadline s
  | .pingProbeWindow => Sys2Proof.Machine.execPingProbeWindow s
  | .beatComparatorMatch => Sys2Proof.Machine.execBeatComparatorMatch s
  | .readStatus => Sys2Proof.Machine.execReadStatus s
  | .readNotices => Sys2Proof.Machine.execReadNotices s
  | .clearNotices selection => Sys2Proof.Machine.execClearNotices selection s
  | .writeOrder opcode operand offset count data => Sys2Proof.Machine.execWriteOrder opcode operand offset count data s
  | .readOrder => Sys2Proof.Machine.execReadOrder s
  | .retireOrder => Sys2Proof.Machine.execRetireOrder s
  | .setup => Sys2Proof.Machine.execSetup s
  | .plan => Sys2Proof.Machine.execPlan s
  | .clearPlan => Sys2Proof.Machine.execClearPlan s
  | .go => Sys2Proof.Machine.execGo s
  | .park => Sys2Proof.Machine.execPark s
  | .unpark => Sys2Proof.Machine.execUnpark s
  | .recall => Sys2Proof.Machine.execRecall s
  | .ping => Sys2Proof.Machine.execPing s
  | .forget => Sys2Proof.Machine.execForget s
  | .unknownOpcode => Sys2Proof.Machine.execUnknownOpcode s
  | .latch => Sys2Proof.Machine.execLatch s
  | .readSnapshot slot => Sys2Proof.Machine.execReadSnapshot slot s
  | .release => Sys2Proof.Machine.execRelease s
  | .readChange => Sys2Proof.Machine.execReadChange s
  | .take => Sys2Proof.Machine.execTake s
  | .done name => Sys2Proof.Machine.execDone name s
  | .done0 => Sys2Proof.Machine.execDone0 s
  | .setMask mask => Sys2Proof.Machine.execSetMask mask s
  | .restart => Sys2Proof.Machine.execRestart s
  | .unknownCommand command => Sys2Proof.Machine.execUnknownCommand command s
  | .startOrderBusy => Sys2Proof.Machine.execStartOrderBusy s

end Sys2Proof.Machine
end

