-- ==== Sys2Proof/Machine/Port.lean ====
section
/-! DEFINITION. A transaction of the arm port: which command the bytes clocked in are, at which of them it takes effect, and
what is clocked out (R169, 11 section 11.2). -/

namespace Sys2Proof.Machine

/-- START ORDER as the row it is: refused outside IDLE, else the order whose opcode the record holds (R171, 11 section 11.3,
log 9). -/
def startOrderEvent (o : Order) : Instr :=
  if o.state == .idle then
    match o.opcode.toNat with
    | 0x01 => .setup
    | 0x02 => .plan
    | 0x03 => .clearPlan
    | 0x04 => .go
    | 0x10 => .park
    | 0x11 => .unpark
    | 0x12 => .recall
    | 0x13 => .ping
    | 0x14 => .forget
    | _ => .unknownOpcode
  else .startOrderBusy

/-- The 64 mask bits in eight argument bytes: byte k, bit j stands for name 8k + j (11 Table 4). -/
def maskOfBytes (bytes : List Byte) : BitVec 64 :=
  BitVec.ofNat 64 (bytes.foldr (fun b acc => b.toNat + 256 * acc) 0)

/-- The part has begun to clock out a reply byte: bits are clocked beyond the bytes before it (R169). -/
def replied (more : Bool) (rest : List Byte) : Bool := more || !rest.isEmpty

/-- WRITE ORDER with these argument bytes: it takes effect at the last of the data bytes it counts (R169, R181). -/
def writeOrderEvent : List Byte → Option Instr
  | opcode :: operand :: offset :: count :: data =>
    if dataCount count ≤ data.length then some (.writeOrder opcode operand offset count data) else none
  | _ => none

/-- How many argument bytes a command has, of these clocked in after its command byte (11 Table 4). -/
def argumentCount (command : Byte) (args : List Byte) : Nat :=
  match command.toNat with
  | 0x03 => 1
  | 0x10 => 4 + dataCount (args.getD 3 0)
  | 0x21 => 1
  | 0x32 => 1
  | 0x33 => 8
  | _ => 0

/-- The command that takes effect in a transaction, if one does: these whole bytes are clocked in, and `more` says that bits
of one more byte follow. A command that replies takes effect as its reply begins, one with arguments at its last argument
byte, and a transaction cut short before that has no effect (R169, 11 Table 4). -/
def portEvent (s : State) (sdi : List Byte) (more : Bool) : Option Instr :=
  match sdi with
  | [] => none
  | command :: args =>
    let replies (c : Instr) (rest : List Byte) : Option Instr := if replied more rest then some c else none
    match command.toNat with
    | 0x01 => replies .readStatus args
    | 0x02 => replies .readNotices args
    | 0x03 => args.head?.map .clearNotices
    | 0x10 => writeOrderEvent args
    | 0x11 => some (startOrderEvent s.order)
    | 0x12 => replies .readOrder args
    | 0x13 => some .retireOrder
    | 0x20 => replies .latch args
    | 0x21 => args.head?.bind (fun slot => replies (.readSnapshot slot) args.tail)
    | 0x22 => some .release
    | 0x30 => replies .readChange args
    | 0x31 => replies .take args
    | 0x32 => args.head?.map (fun n => if n = 0 then .done0 else .done n)
    | 0x33 => if 8 ≤ args.length then some (.setMask (maskOfBytes (args.take 8))) else none
    | 0xA5 => some .restart
    | _ => some (.unknownCommand command)

/-- SDO once this many bytes have been clocked out after the port status byte and the arguments: a reply cut short, or 00₁₆
beyond the reply's length (R169). -/
def clocked (count : Nat) (sdo : List Byte) : List Byte :=
  (sdo ++ List.replicate (count + 1) 0).take (count + 1)

/-- A transaction from the fall of CS to its rise (R169): the command that takes effect in it is run; with none, the port
status byte alone is clocked out. SDO holds the port status byte and the reply bytes; what is clocked out with argument bytes
is not stated and not held (log 8). -/
def transaction (sdi : List Byte) (more : Bool) (s : State) : Result :=
  match sdi with
  | [] => .next s
  | command :: args =>
    let shown (t : State) : State :=
      t.withPins { t.pins with sdo := clocked (args.length - argumentCount command args) t.pins.sdo }
    match portEvent s sdi more with
    | none => .next (clockOut s [] s)
    | some c =>
      match exec c s with
      | .next t => .next (shown t)
      | .fault f => .fault f
      | .refused r => .refused r

end Sys2Proof.Machine
end

