-- ==== Sys2Proof/Safety.lean ====
section
/-! DEFINITION. What holds of the part at the close of every event: the invariants of its blocks, each a named predicate on
the state, and what a park or a teardown leaves of the tool state. -/

namespace Sys2Proof.Machine

/-- The level flags equal their conditions, and ATTN follows the flags and their enables (R163, R167). -/
def LevelsFollow (s : State) : Prop :=
  s.notices.changes = !s.changes.queue.isEmpty
    ∧ s.notices.service = s.serviceCondition
    ∧ s.notices.order = (s.order.state == .done)
    ∧ s.pins.attn = attnAsserted s.notices s.order

/-- The notices agree: the levels follow, and only a latched flag that is set is seen (R163, R165, R167). -/
def NoticesAgree (s : State) : Prop :=
  LevelsFollow s
    ∧ (s.notices.couplingSeen → s.notices.coupling)
    ∧ (s.notices.lineSeen → s.notices.line)
    ∧ (s.notices.censusSeen → s.notices.census)

/-- The line interface has taken the enable condition, and drives the line only while enabled and outside LINE_FAULT (R9,
R19). -/
def LineAgrees (s : State) : Prop :=
  s.line.enabled = s.enableCondition
    ∧ (s.line.inFlight.isSome → s.line.enabled = true ∧ s.line.fault = false)
    ∧ (s.line.enabled = false → s.line.rx = .off)

/-- LINE_FAULT holds on a count of 32 or more or on the stuck mark, and outside it the count is below 96 and the mark is clear
(R16 to R18). -/
def FaultFollowsCount (s : State) : Prop :=
  if s.line.fault then Config.faultExit ≤ s.line.errors ∨ s.line.stuck = true
  else s.line.errors < Config.faultEntry ∧ s.line.stuck = false

/-- Every count stays within its limits, and every queue within its capacity (R11, R14, R15, R83, R99, R111, R159, R160). -/
def CountsBounded (s : State) : Prop :=
  s.line.errors ≤ Config.maxErrors ∧ s.line.txDrops ≤ Config.maxCount16 ∧ s.line.foreign ≤ Config.maxCount16
    ∧ s.changes.queue.length ≤ Config.changeCapacity ∧ s.changes.drops ≤ Config.maxCount8
    ∧ (∀ r ∈ s.changes.queue, r.droppedBefore ≤ Config.maxCount8)
    ∧ (∀ e ∈ s.roster.entries, e.gaps ≤ Config.maxCount8 ∧ e.objections ≤ Config.maxObjections)
    ∧ s.naming.plan.length ≤ Config.planCapacity
    ∧ s.order.data.length = Config.dataBytes

/-- The owner's reference fits the frame it stands on (R26). -/
def TxFrame.refFits (f : TxFrame) : Bool :=
  match f.body, f.ref with
  | .object x _ _ _, .claimObjection y _ => x == y
  | .object x _ _ _, .holdObjection y => x == y
  | .probe n, .adoptionProbe m => n == m
  | .probe n, .pingProbe m => n == m
  | .recall, .none => true
  | .hold _, .none => true
  | .beat, .none => true
  | _, _ => false

/-- The transmit list is in the order of R27, within its capacity, with at most one BEAT, no attempt count of four, and
every frame under a number of its own. -/
def TxListOk (s : State) : Prop :=
  s.line.txList.length ≤ Config.txCapacity
    ∧ s.line.txList.Pairwise (fun f g => f.body.kind.code ≤ g.body.kind.code)
    ∧ (s.line.txList.filter TxFrame.isBeat).length ≤ 1
    ∧ (∀ f ∈ s.line.txList, f.attempts < Config.maxAttempts ∧ f.tag < s.line.nextTag ∧ f.refFits = true)
    ∧ (s.line.txList.map (·.tag)).Nodup

/-- The rest of R27: at most one frame of the list is a RECALL, and frames of one kind stand in order of arrival, which is
that of their numbers (log 11). -/
def TxArrivalOk (s : State) : Prop :=
  (s.line.txList.filter TxFrame.isRecall).length ≤ 1
    ∧ s.line.txList.Pairwise (fun f g => f.body.kind.code = g.body.kind.code → f.tag < g.tag)

/-- A ticket stands for an OBJECT against a claim of its claimant: no other frame of the list has its number (R109, R112,
log 11). -/
def TicketsAgree (s : State) : Prop :=
  ∀ k ∈ s.naming.tickets, k.tag < s.line.nextTag
    ∧ ∀ f ∈ s.line.txList, f.tag = k.tag → ∃ windowEnd, f.ref = .claimObjection k.claimant windowEnd

/-- The asked set holds names of tool devices, each at most once, and a window is armed exactly while a member is OPEN
(R86). -/
def AskedOk (s : State) : Prop :=
  (s.roster.asked.map (·.name)).Nodup
    ∧ ∀ a ∈ s.roster.asked, inRange 1 Config.lastName a.name = true ∧ a.window.isSome = (a.probe == .opened)

/-- The deadlines of an entry are those its state calls for (05 Table 2). -/
def Entry.deadlinesFit (e : Entry) : Bool :=
  (e.claimDl.isSome == (e.state == .heard)) && (e.silenceDl.isSome == (e.state == .named))
    && (e.lossDl.isSome == (e.state == .silent))

/-- An entry has a name unless it is HEARD, and the name lies in 1 to 62 (R73). -/
def Entry.nameFits (e : Entry) : Bool :=
  match e.name with
  | none => e.state == .heard
  | some n => e.state != .heard && inRange 1 Config.lastName n

/-- The roster is a table of 48 slots in which identities and names are all different, and every entry has the name and the
deadlines of its state (R72, R73). -/
def RosterOk (s : State) : Prop :=
  s.roster.entries.Pairwise (fun e f => e.slot < f.slot)
    ∧ (∀ e ∈ s.roster.entries, e.slot < Config.rosterCapacity ∧ e.nameFits = true ∧ e.deadlinesFit = true)
    ∧ (s.roster.entries.map (·.identity)).Nodup
    ∧ (s.roster.entries.filterMap (·.name)).Nodup

/-- Every nonzero path is the name of a bridge of the roster, every entry behind a LOST bridge is LOST, and no entry is behind
itself (R91). -/
def StagesOk (s : State) : Prop :=
  ∀ e ∈ s.roster.entries, (e.path ≠ 0 → ∃ b ∈ s.roster.entries, b.heldName = some e.path ∧ isBridge b.identity = true
      ∧ (b.state = .lost → e.state = .lost))
    ∧ s.isBehind e e.identity = false

/-- The pending claims and the CLAIMING entries are in step (R88, R103). -/
def ClaimsInStep (s : State) : Prop :=
  s.naming.claims.length ≤ Config.claimCapacity
    ∧ (s.naming.claims.map (·.claimant)).Nodup
    ∧ (∀ c ∈ s.naming.claims, ∃ e ∈ s.roster.entries, e.identity = c.claimant ∧ e.claimedName = some c.name)
    ∧ (∀ e ∈ s.roster.entries, e.state = .claiming → ∃ c ∈ s.naming.claims, c.claimant = e.identity)

/-- No tool state stands anywhere: what a park and a teardown leave (R42, R66, R69). -/
def ToolEmpty (s : State) : Prop :=
  s.roster = Roster.reset ∧ s.naming.claims = [] ∧ s.naming.tickets = [] ∧ s.service.requests = []
    ∧ s.service.inService = [] ∧ s.line.txList = [] ∧ s.line.inFlight = none ∧ s.time.beat = none
    ∧ s.census.firstFrame = none ∧ s.census.quiet = none ∧ s.census.deadline = none ∧ s.order.pingWindow = none

/-- The tool supply and the census go together: the census is line-active exactly while the supply is ON, no tool state
stands while it is not, SUPPLY_EN is driven while the supply is not OFF, the settle deadline runs exactly while it is RAMPING,
and in the SETUP phase the supply is OFF (R52, R62, R66). -/
def SupplyAgrees (s : State) : Prop :=
  s.census.state.lineActive = (s.coupling.supply == .on)
    ∧ (s.census.state.lineActive = false → ToolEmpty s)
    ∧ s.pins.supplyEn = (s.coupling.supply != .off)
    ∧ s.coupling.settle.isSome = (s.coupling.supply == .ramping)
    ∧ (s.order.phase = .setup → s.coupling.supply = .off ∧ s.coupling.state = .openState)

/-- The make and break deadlines run exactly in MAKING and BREAKING, the hold limit runs only in an uncoupled state with the
supply up, and a freeze stands only there (R43, R53, R57, R65). -/
def CouplingAgrees (s : State) : Prop :=
  s.coupling.make.isSome = (s.coupling.state == .making)
    ∧ s.coupling.brk.isSome = (s.coupling.state == .breaking)
    ∧ (s.coupling.holdLimit.isSome →
        (s.coupling.state = .held ∨ s.coupling.state = .breaking) ∧ s.coupling.supply ≠ .off)
    ∧ (s.time.frozen = true →
        (s.coupling.state = .held ∨ s.coupling.state = .breaking) ∧ s.coupling.supply ≠ .off)

/-- Entries that seek a name, or pending claims, are there exactly while the census is GATHERING or OVERDUE (R125, R129). -/
def CensusAgrees (s : State) : Prop :=
  s.quietCondition = (s.census.state != .gathering && s.census.state != .overdue)

/-- Every request is of a name held by a NAMED or SILENT entry, every name in service is held, and the mask and bottom names are
names of tool devices (R139, R143, R154). -/
def ServiceAgrees (s : State) : Prop :=
  (s.service.requests.map (·.name)).Pairwise (· < ·)
    ∧ s.service.inService.Pairwise (· < ·)
    ∧ (∀ r ∈ s.service.requests, ∃ e ∈ s.roster.entries, e.name = some r.name ∧ (e.state = .named ∨ e.state = .silent))
    ∧ (∀ n ∈ s.service.inService, ∃ e ∈ s.roster.entries, e.heldName = some n)
    ∧ s.service.mask.getLsbD 0 = false ∧ s.service.mask.getLsbD 63 = false
    ∧ 1 ≤ s.service.bottom ∧ s.service.bottom ≤ Config.lastName

/-- Only RECALL and PING stay RUNNING, in the RUN phase, and each while what ends it stands: the RECALL in the transmit list,
the PROBE in the list or its window armed (R172, R176, R177). -/
def OrderAgrees (s : State) : Prop :=
  (s.order.state = .running → s.order.phase = .run ∧ (s.recallRunning = true ∨ s.pingRunning = true))
    ∧ s.recallRunning = s.line.txList.any TxFrame.isRecall
    ∧ (s.pingRunning = true → s.order.pingWindow.isSome = true ∨ s.line.txList.any TxFrame.isPingProbe = true)
    ∧ (s.pingRunning = false → s.order.pingWindow = none ∧ s.order.pingIdentity = none)
    ∧ (s.order.phase = .run → s.order.setup.isSome = true)

/-! ### What one event changes

Frames are written `t = { s with a := t.a, b := t.b }`: nothing but the blocks named differs. -/

/-- Of the pins only ATTN may differ. -/
def KeepsPins (s t : State) : Prop := t.pins = { s.pins with attn := t.pins.attn }

/-- Of the notices only the level flags may differ. -/
def KeepsLatched (s t : State) : Prop :=
  t.notices = { s.notices with changes := t.notices.changes, service := t.notices.service, order := t.notices.order }

/-- An event that sets no latched flag closes: the level flags and ATTN follow what it did (R163, R167). -/
def Settles (s t : State) : Prop := KeepsPins s t ∧ KeepsLatched s t ∧ LevelsFollow t

/-- The transmit list and the counts of the line interface, its BEAT sequence and its stuck mark are kept, whatever becomes of
the enable (R19). -/
def KeepsLineLists (s t : State) : Prop :=
  t.line = { s.line with enabled := t.line.enabled, recessive8 := t.line.recessive8, rx := t.line.rx,
                         inFlight := t.line.inFlight }

/-- The deadlines of the tool state stand moved later by d, as a release leaves them (R46); the other fields stand as they
were. -/
def MovedBy (d : Time) (s t : State) : Prop :=
  t.time.beat = s.time.beat.map (· + d)
    ∧ t.roster = { s.roster with
        entries := s.roster.entries.map (fun e =>
          { e with claimDl := e.claimDl.map (· + d), silenceDl := e.silenceDl.map (· + d), lossDl := e.lossDl.map (· + d) })
        asked := s.roster.asked.map (fun a => { a with window := a.window.map (· + d) }) }
    ∧ t.naming = { s.naming with
        claims := s.naming.claims.map (fun c =>
          { c with windowEnd := if c.windowEnded then c.windowEnd else c.windowEnd + d, hold := c.hold + d })
        tickets := s.naming.tickets.map (fun k => { k with deadline := k.deadline + d }) }
    ∧ t.census = { s.census with
        firstFrame := s.census.firstFrame.map (· + d), quiet := s.census.quiet.map (· + d),
        deadline := s.census.deadline.map (· + d) }
    ∧ t.order = { s.order with pingWindow := s.order.pingWindow.map (· + d) }

/-- A freeze in force is released, and with none in force no tool deadline moves (R46, R56). -/
def ReleasesFreeze (s t : State) : Prop :=
  t.time = { s.time with frozen := false, beat := t.time.beat }
    ∧ if s.time.frozen then MovedBy (s.time.now - s.time.freezeStart) s t
      else t.time.beat = s.time.beat ∧ t.roster = s.roster ∧ t.naming = s.naming ∧ t.census = s.census
        ∧ t.order = s.order

/-- A freeze begins unless one is in force or the supply is OFF (R43). -/
def BeginsFreeze (s t : State) : Prop :=
  t.time = if s.time.frozen ∨ s.coupling.supply = .off then s.time
    else { s.time with frozen := true, freezeStart := s.time.now }

/-- The entry to COUPLED in the RUN phase (R56, R62). -/
def EntersCoupled (s t : State) : Prop :=
  t.coupling.state = .coupled ∧ t.coupling.lockedOnce = true ∧ t.coupling.brk = none ∧ t.coupling.holdLimit = none
    ∧ t.coupling.mateCapture = s.coupling.mateCapture ∧ t.coupling.unmateCapture = s.coupling.unmateCapture
    ∧ (if s.coupling.supply = .off ∧ s.census.state ≠ .parked then
        t.coupling.supply = .ramping ∧ t.pins.supplyEn = true
          ∧ t.coupling.settle = some (s.time.now + BitVec.ofNat 32 (1000 * s.cfg.settle))
      else t.coupling.supply = s.coupling.supply ∧ t.pins.supplyEn = s.pins.supplyEn
          ∧ t.coupling.settle = s.coupling.settle)
    ∧ ReleasesFreeze s t ∧ t.line.enabled = t.enableCondition ∧ KeepsLineLists s t
    ∧ KeepsLatched s t ∧ LevelsFollow t
    ∧ t = { s with pins := t.pins, time := t.time, line := t.line, coupling := t.coupling, roster := t.roster,
                   naming := t.naming, census := t.census, order := t.order, notices := t.notices }

/-- The entry to HELD (R57). -/
def EntersHeld (s t : State) : Prop :=
  t.coupling.state = .held ∧ t.coupling.lockedOnce = s.coupling.lockedOnce
    ∧ t.coupling.holdLimit =
      (if s.coupling.lockedOnce = true ∧ s.coupling.supply ≠ .off ∧ s.coupling.holdLimit = none then
        some (s.time.now + BitVec.ofNat 32 (1000 * s.cfg.hold))
      else s.coupling.holdLimit)
    ∧ t.coupling.supply = s.coupling.supply ∧ t.coupling.settle = s.coupling.settle
    ∧ t.line.enabled = false ∧ KeepsLineLists s t

/-- A running order ends OVERTAKEN, with the complete, the summary error and the OVERTAKEN mark (R66, R69, R171). -/
def Overtakes (s t : State) : Prop :=
  t.order = if s.order.state = .running then
      { s.order with state := .done, termination := 0xC010, detail := 0, pingIdentity := none, pingWindow := none }
    else { s.order with pingIdentity := none, pingWindow := none }

/-- What a park and a teardown do to the part (R66, R69), but for the order and the coupling state: the supply is off, no tool
state stands, the plan, the mask, the bottom name, the generation and the counts that Table 5 of 01 keeps are kept. -/
def EmptiesTool (census : CensusState) (s t : State) : Prop :=
  t.coupling.supply = .off ∧ t.pins.supplyEn = false ∧ t.coupling.settle = none ∧ t.coupling.holdLimit = none
    ∧ t.pins.mateA = s.pins.mateA ∧ t.pins.mateB = s.pins.mateB ∧ t.pins.lock = s.pins.lock
    ∧ ToolEmpty t
    ∧ t.census = { s.census with state := census, returnState := .gathering, firstFrame := none, quiet := none,
                                 deadline := none }
    ∧ t.naming = { plan := s.naming.plan.map (fun p => if p.wildcard then { p with binding := none } else p),
                   claims := [], tickets := [] }
    ∧ t.service = { s.service with requests := [], inService := [] }
    ∧ t.time = { s.time with frozen := false, beat := none }
    ∧ t.line.enabled = false ∧ t.line.errors = 0 ∧ t.line.stuck = false ∧ t.line.fault = false
    ∧ t.line.foreign = s.line.foreign ∧ t.line.txDrops = s.line.txDrops ∧ t.line.beatSeq = s.line.beatSeq
    ∧ t.snapshot = s.snapshot ∧ LevelsFollow t

/-- The frame is a probe of the roster unit (R26). -/
def TxFrame.isAdoptionProbe (f : TxFrame) : Bool :=
  match f.ref with
  | .adoptionProbe _ => true
  | _ => false

/-- The level of the mate input that is not this one. -/
def Pins.otherMate (p : Pins) : MateInput → Bool
  | .a => p.mateB
  | .b => p.mateA

/-- The stage of a bridge: the entries behind it, at whatever depth (R91). -/
def State.stage (s : State) (x : Identity) : List Entry := s.roster.entries.filter (fun g => s.isBehind g x)

/-- The order in which entries behind a bridge are taken (R91, R92): siblings in slot order, and a bridge followed by its own
entries before the next is taken. -/
def TakenInOrder (s : State) (members order : List Entry) : Prop :=
  order.Perm members
    ∧ order.Pairwise (fun g h => s.isBehind g h.identity = false ∧ (g.path = h.path → g.slot < h.slot))
    ∧ ∀ a b c, [a, b, c].Sublist order → s.isBehind c a.identity = true → s.isBehind b a.identity = true

/-- The records of a stage that is removed (R92): after what `first` holds, one of this kind for each of its entries, with the
entry's name or 0, its identity and the name of the bridge it was directly behind. -/
def StageRecords (kind : ChangeKind) (x : Identity) (s first t : State) : Prop :=
  ∃ order : List Entry, TakenInOrder s (s.stage x) order
    ∧ t.changes = (order.foldl
        (fun u g => queueRecord kind (g.name.getD 0) (some g.identity) g.path u) first).changes

/-- The stage of bridge x goes as x leaves its name n (R92, R95, R155): its records follow that of the bridge in `first`, the
names that are left go from R and I, and the stage's pending claims fall. -/
def StageLeaves (kind : ChangeKind) (x : Identity) (n : Name) (s first t : State) : Prop :=
  StageRecords kind x s first t
    ∧ t.service = { s.service with
        requests := s.service.requests.filter
          (fun r => r.name != n && !(s.stage x).any (fun g => g.heldName == some r.name))
        inService := s.service.inService.filter
          (fun m => m != n && !(s.stage x).any (fun g => g.heldName == some m)) }
    ∧ t.naming = { s.naming with
        claims := s.naming.claims.filter (fun c => !(s.stage x).any (fun g => g.identity == c.claimant))
        tickets := t.naming.tickets }

/-- The cascade as bridge x enters LOST under name n (R91, R95, R154): x and the holders behind it are LOST, with a LOST record
each, and their names leave R; the HEARD and CLAIMING entries behind it are removed, with a STALLED record each and their pending
claims; the entries LOST before are left. The record of x comes first, and the others carry the entry's name or 0, its identity
and the name of the bridge it was directly behind. -/
def StageIsLost (x : Identity) (n : Name) (s t : State) : Prop :=
  (∃ order : List Entry, TakenInOrder s ((s.stage x).filter (fun g => g.state != .lost)) order
    ∧ t.changes = (order.foldl
        (fun u g => queueRecord (if g.state = .heard ∨ g.state = .claiming then .stalled else .lost) (g.name.getD 0)
          (some g.identity) g.path u) (queueRecord .lost n (some x) 0 s)).changes)
    ∧ t.roster = { s.roster with
        entries := (s.roster.entries.filter
            (fun g => !(s.isBehind g x && (g.state == .heard || g.state == .claiming)))).map
          (fun g => if g.identity = x ∨ s.isBehind g x = true then
            { g with state := .lost, claimDl := none, silenceDl := none, lossDl := none } else g)
        fullLatch := s.roster.fullLatch && !(s.stage x).any (fun g => g.state == .heard || g.state == .claiming) }
    ∧ t.service = { s.service with
        requests := s.service.requests.filter (fun r => r.name != n
          && !(s.stage x).any (fun g => (g.state == .named || g.state == .silent) && g.name == some r.name)) }
    ∧ t.naming = { s.naming with
        claims := s.naming.claims.filter (fun c => !(s.stage x).any (fun g => g.identity == c.claimant)) }

/-! ### The name plan -/

/-- The plan entry stands against x, the four cases of R101. -/
def StandsAgainst (m : Naming) (x : Identity) (p : PlanEntry) : Prop :=
  (p.wildcard = false ∧ p.identity ≠ x)
    ∨ (p.wildcard = true ∧ ∃ y, p.binding = some y ∧ y ≠ x)
    ∨ (p.wildcard = true ∧ p.binding = none ∧ (p.maker ≠ makerOf x ∨ p.cls ≠ classOf x))
    ∨ (p.wildcard = true ∧ p.binding = none ∧ p.maker = makerOf x ∧ p.cls = classOf x
        ∧ ((∃ q ∈ m.plan, q.wildcard = false ∧ q.identity = x) ∨ ∃ q ∈ m.plan, q.wildcard = true ∧ q.binding = some x))

/-- The reservation of x (R101): its exact entry, else the wildcard entry bound to it, else the lowest-index unbound wildcard
entry of its maker and class, else none. -/
def ReservationFollowsR101 (m : Naming) (x : Identity) : Prop :=
  match m.reservation x with
  | some p => p ∈ m.plan
    ∧ ((p.wildcard = false ∧ p.identity = x)
      ∨ ((∀ q ∈ m.plan, q.wildcard = false → q.identity ≠ x) ∧ p.wildcard = true ∧ p.binding = some x)
      ∨ ((∀ q ∈ m.plan, q.wildcard = false → q.identity ≠ x) ∧ (∀ q ∈ m.plan, q.wildcard = true → q.binding ≠ some x)
        ∧ p.wildcard = true ∧ p.binding = none ∧ p.maker = makerOf x ∧ p.cls = classOf x
        ∧ ∃ front back, m.plan = front ++ p :: back
          ∧ ∀ q ∈ front, ¬ (q.wildcard = true ∧ q.binding = none ∧ q.maker = makerOf x ∧ q.cls = classOf x)))
  | none => ∀ q ∈ m.plan, (q.wildcard = false → q.identity ≠ x) ∧ (q.wildcard = true → q.binding ≠ some x)
    ∧ ¬ (q.wildcard = true ∧ q.binding = none ∧ q.maker = makerOf x ∧ q.cls = classOf x)

/-- Name n is free for x (R102): no entry holds it, no other entry claims it, and no plan entry that reserves it stands
against x. x's own claim is left out, as R119 makes the test. -/
def FreeFor (s : State) (x : Identity) (n : Name) : Prop :=
  (∀ e ∈ s.roster.entries, e.name = some n → e.state = .claiming → e.identity = x)
    ∧ (∀ e ∈ s.roster.entries, e.name = some n → e.state ≠ .named ∧ e.state ≠ .silent ∧ e.state ≠ .lost)
    ∧ ∀ p ∈ s.naming.plan, p.name = n → ¬ StandsAgainst s.naming x p

/-- The counter-offer for x, the first of the four of R102 that applies. -/
def CounterOfferFollowsR102 (s : State) (x : Identity) : Prop :=
  let reserved (n : Name) : Prop := ∃ p, s.naming.reservation x = some p ∧ p.name = n ∧ FreeFor s x n
  let prior (n : Name) : Prop := ∃ e, s.entryOf x = some e ∧ e.prior = some n ∧ FreeFor s x n
  (∀ n, s.freeReserved x = some n ↔ reserved n) ∧ (∀ n, s.freePrior x = some n ↔ prior n)
    ∧ (∀ n, reserved n → s.counterOffer x = n)
    ∧ ((∀ n, ¬ reserved n) → (∀ n, prior n → s.counterOffer x = n)
      ∧ ((∀ n, ¬ prior n) →
        (∀ n, 1 ≤ n → n ≤ 62 → FreeFor s x n → (∀ k, 1 ≤ k → k < n → ¬ FreeFor s x k) → s.counterOffer x = n)
        ∧ ((∀ n, 1 ≤ n → n ≤ 62 → ¬ FreeFor s x n) → s.counterOffer x = 0)))

/-- The origin and the binding as x comes to hold n (R121): the plan entry that reserves n and is open to x gives the origin
its index, and an unbound wildcard entry becomes bound to x; with no such entry the origin is FREE. -/
def OriginAndBinding (m : Naming) (x : Identity) (n : Name) (origin : Origin) (plan : List PlanEntry) : Prop :=
  (∀ front p back, m.plan = front ++ p :: back → p.name = n → ¬ StandsAgainst m x p →
      (∀ q ∈ front, q.name = n → StandsAgainst m x q) →
      origin = .plan front.length
      ∧ plan = front ++ (if p.wildcard = true ∧ p.binding = none then { p with binding := some x } else p) :: back)
    ∧ ((∀ p ∈ m.plan, p.name = n → StandsAgainst m x p) → origin = .free ∧ plan = m.plan)

/-! ### The records the port returns -/

/-- The port status byte as 11 Table 3 lays it out. -/
def StatusByteLayout (s : State) : Prop :=
  (statusByte s).getLsbD 7 = decide (s.order.phase = .run)
    ∧ (statusByte s).extractLsb' 5 2 = (match s.order.state with | .idle => 0#2 | .running => 1#2 | .done => 2#2)
    ∧ (statusByte s).getLsbD 4 = s.snapshot.latched ∧ (statusByte s).getLsbD 3 = s.line.fault
    ∧ (statusByte s).getLsbD 2 = s.pins.attn ∧ (statusByte s).extractLsb' 0 2 = 0#2

/-- The status block as 11 Table 11 lays it out: 30 bytes, multi-byte fields most significant byte first. -/
def StatusBlockLayout (s : State) : Prop :=
  (statusBlock s).length = 30
    ∧ byteAt (statusBlock s) 0 = (match s.order.phase with | .setup => 0 | .run => 1)
    ∧ byteAt (statusBlock s) 1 = (match s.coupling.state with
        | .openState => 0 | .making => 1 | .coupled => 2 | .held => 3 | .breaking => 4)
    ∧ byteAt (statusBlock s) 2 = (match s.coupling.supply with | .off => 0 | .ramping => 1 | .on => 2)
    ∧ byteAt (statusBlock s) 3 = (match s.census.state with
        | .absent => 0 | .powering => 1 | .gathering => 2 | .quiet => 3 | .complete => 4 | .overdue => 5 | .parked => 6)
    ∧ numberAt (statusBlock s) 2 4 = s.census.generation.toNat
    ∧ byteAt (statusBlock s) 6 = s.roster.entries.length % 256
    ∧ numberAt (statusBlock s) 4 7 = s.census.settling.toNat
    ∧ numberAt (statusBlock s) 4 11 = s.coupling.mateCapture.toNat
    ∧ numberAt (statusBlock s) 4 15 = s.coupling.unmateCapture.toNat
    ∧ byteAt (statusBlock s) 19 = (match s.order.state with | .idle => 0 | .running => 1 | .done => 2)
    ∧ byteAt (statusBlock s) 20 = (match s.line.state with | .idle => 0 | .busy => 1 | .lineFault => 2)
    ∧ byteAt (statusBlock s) 21 = s.line.errors % 256
    ∧ numberAt (statusBlock s) 2 22 = s.line.foreign % 65536
    ∧ numberAt (statusBlock s) 2 24 = s.line.txDrops % 65536
    ∧ numberAt (statusBlock s) 4 26 = s.time.now.toNat

/-- The slot record of an entry as 11 Table 10 lays it out, bits 7 to 2 of the flags 0 (DESIGN CHOICE, log 23). -/
def SlotRecordLayout (e : Entry) : Prop :=
  (slotRecord e).length = 24
    ∧ byteAt (slotRecord e) 0 = (match e.state with
        | .heard => 1 | .claiming => 2 | .named => 3 | .silent => 4 | .lost => 5)
    ∧ numberAt (slotRecord e) 6 1 = e.identity.toNat
    ∧ byteAt (slotRecord e) 7 = (match e.name with | some n => n % 256 | none => 63)
    ∧ byteAt (slotRecord e) 8 = (match e.prior with | some n => n % 256 | none => 63)
    ∧ byteAt (slotRecord e) 9 = (match e.origin with | .plan i => i % 256 | .free => 0xFF)
    ∧ byteAt (slotRecord e) 10 = e.path % 256 ∧ byteAt (slotRecord e) 11 = e.revision.toNat
    ∧ numberAt (slotRecord e) 4 12 = e.firstHeard.toNat ∧ numberAt (slotRecord e) 4 16 = e.lastHeard.toNat
    ∧ byteAt (slotRecord e) 20 = (if e.beatSeq.isSome then 1 else 0) + (if e.storm then 2 else 0)
    ∧ byteAt (slotRecord e) 21 = (match e.beatSeq with | some q => q.toNat | none => 0)
    ∧ byteAt (slotRecord e) 22 = e.gaps % 256 ∧ byteAt (slotRecord e) 23 = e.objections % 256

/-- The census fields that follow a slot record, from byte i of a reply on (11 section 11.4). -/
def CensusFieldsAt (reply : List Byte) (i : Nat) (c : SnapshotCopy) : Prop :=
  byteAt reply i = (match c.census with
      | .absent => 0 | .powering => 1 | .gathering => 2 | .quiet => 3 | .complete => 4 | .overdue => 5 | .parked => 6)
    ∧ numberAt reply 2 (i + 1) = c.generation.toNat
    ∧ byteAt reply (i + 3) = c.entryCount % 256 ∧ numberAt reply 4 (i + 4) = c.settling.toNat
    ∧ numberAt reply 4 (i + 8) = c.time.toNat

/-- A change record as 11 Table 12 lays it out, with the codes of Table 13, bits 7 to 1 of the flags 0 (DESIGN CHOICE,
log 23). -/
def RecordLayout (r : ChangeRecord) : Prop :=
  (recordBytes r).length = 15
    ∧ byteAt (recordBytes r) 0 = (match r.kind with
        | .joined => 0x01 | .named => 0x02 | .adopted => 0x03 | .restarted => 0x04 | .silent => 0x05 | .back => 0x06
        | .lost => 0x07 | .released => 0x08 | .forgotten => 0x09 | .stalled => 0x0A | .conflict => 0x0B
        | .pathFault => 0x0C | .full => 0x0D | .storm => 0x0E | .recalled => 0x0F | .parked => 0x10
        | .supplyFault => 0x11 | .torn => 0x12 | .overdue => 0x13 | .census => 0x14)
    ∧ byteAt (recordBytes r) 1 = (if r.identity.isSome then 1 else 0)
    ∧ byteAt (recordBytes r) 2 = r.name % 256
    ∧ numberAt (recordBytes r) 6 3 = (match r.identity with | some x => x.toNat | none => 0)
    ∧ numberAt (recordBytes r) 4 9 = r.time.toNat ∧ byteAt (recordBytes r) 13 = r.detail % 256
    ∧ byteAt (recordBytes r) 14 = r.droppedBefore % 256

/-! ### Moves of the census -/

/-- The quiet condition as R129 states it. -/
abbrev State.QuietHolds (s : State) : Prop :=
  (∀ e ∈ s.roster.entries, e.state ≠ .heard ∧ e.state ≠ .claiming) ∧ s.naming.claims = []

/-- The census once a good frame has been received, before the frame's owner acts (R127): POWERING goes to GATHERING, the
first-frame deadline cancelled and the census deadline armed. -/
def State.censusHeard (s : State) : Census :=
  if s.census.state = .powering then
    { s.census with state := .gathering, firstFrame := none, deadline := some (s.toolAfter (1000 * s.cfg.census)) }
  else s.census

/-- Census c after an adoption (R134): COMPLETE goes to QUIET with return state GATHERING, QUIET counts its period anew, and any
other state is left. -/
def State.censusAdopted (s : State) (c : Census) : Census :=
  { c with
    state := if c.state = .complete then .quiet else c.state
    returnState := if c.state = .complete then .gathering else c.returnState
    quiet := if c.state = .complete ∨ c.state = .quiet then some (s.toolAfter (1000 * s.cfg.quiet)) else c.quiet }

/-- The close of an event from s that has brought the census to c (R129): where the quiet condition holds in GATHERING or
OVERDUE, the census enters QUIET, that state is its return state and the quiet deadline is armed with span Q; else it is c. -/
def CensusCloses (s : State) (c : Census) (t : State) : Prop :=
  CensusAgrees s →
    (t.QuietHolds → (c.state = .gathering → t.census = { c with
        state := .quiet, returnState := .gathering, quiet := some (s.toolAfter (1000 * s.cfg.quiet)) })
      ∧ (c.state = .overdue → t.census = { c with
        state := .quiet, returnState := .overdue, quiet := some (s.toolAfter (1000 * s.cfg.quiet)) }))
    ∧ (¬ t.QuietHolds ∨ (c.state ≠ .gathering ∧ c.state ≠ .overdue) → t.census = c)

/-! ### The part's own events -/

/-- An armed deadline that the time base has reached: its value is not ahead (R40, R41; log 16). -/
def State.Reached (s : State) (deadline : Option Time) : Prop :=
  ∃ v, deadline = some v ∧ ¬ (1 ≤ (v - s.time.now).toNat ∧ (v - s.time.now).toNat ≤ 2 ^ 31 - 1)

/-- A tool deadline that the time base has reached, no freeze holding it (R45). -/
def State.ToolReached (s : State) (deadline : Option Time) : Prop := s.time.frozen = false ∧ s.Reached deadline

/-- The events the part makes of itself: the expiries of the deadlines of 03 Table 1 that the time base has reached, and the
attempt of R9. -/
def OwnEvent (s : State) : Instr → Prop
  | .makeDeadline => s.Reached s.coupling.make
  | .breakDeadline => s.Reached s.coupling.brk
  | .settleDeadline => s.Reached s.coupling.settle
  | .holdLimitDeadline => s.Reached s.coupling.holdLimit
  | .claimDeadline k => ∃ e ∈ s.roster.entries, e.slot = k ∧ s.ToolReached e.claimDl
  | .silenceDeadline k => ∃ e ∈ s.roster.entries, e.slot = k ∧ s.ToolReached e.silenceDl
  | .lossDeadline k => ∃ e ∈ s.roster.entries, e.slot = k ∧ s.ToolReached e.lossDl
  | .probeWindowEnd n => ∃ a ∈ s.roster.asked, a.name = n ∧ s.ToolReached a.window
  | .objectionWindowEnd x => ∃ c ∈ s.naming.claims, c.claimant = x ∧ c.windowEnded = false ∧ s.ToolReached (some c.windowEnd)
  | .holdDeadline x => ∃ c ∈ s.naming.claims, c.claimant = x ∧ s.ToolReached (some c.hold)
  | .objectionTicketDeadline k => ∃ b ∈ s.naming.tickets, b.tag = k ∧ s.ToolReached (some b.deadline)
  | .firstFrameDeadline => s.ToolReached s.census.firstFrame
  | .quietDeadline => s.ToolReached s.census.quiet
  | .censusDeadline => s.ToolReached s.census.deadline
  | .pingProbeWindow => s.ToolReached s.order.pingWindow
  | .beatComparatorMatch => s.ToolReached s.time.beat
  | .transmitAttempt => s.line.enabled = true ∧ s.line.fault = false ∧ s.line.recessive8 = true
      ∧ s.line.inFlight = none ∧ s.line.txList ≠ []
  | _ => False

/-! ### Recall and frames -/

/-- What a recall leaves of the part: roster, claims, tickets, bindings, requests and service emptied, the census QUIET over a
fresh census deadline, and one RECALLED record with the sender and the entry count (R96, R122, R135, R156). -/
def RecallTaken (sender : Name) (s t : State) : Prop :=
  t.roster = Roster.reset
  ∧ t.naming = { plan := s.naming.plan.map (fun p => if p.wildcard then { p with binding := none } else p), claims := [],
                 tickets := [] }
  ∧ t.service = { s.service with requests := [], inService := [] }
  ∧ t.census = { s.census with
      state := .quiet, returnState := .gathering, firstFrame := none, quiet := some (s.toolAfter (1000 * s.cfg.quiet)),
      deadline := some (s.toolAfter (1000 * s.cfg.census)) }
  ∧ t.changes = (queueRecord .recalled sender none s.roster.entries.length s).changes
  ∧ t.line.txList.filter TxFrame.isBeat = s.line.txList.filter TxFrame.isBeat
  ∧ (∀ f ∈ t.line.txList, f.isBeat = true ∨ f.isPingProbe = true)
  ∧ t.line.txDrops = s.line.txDrops ∧ t.line.foreign = s.line.foreign ∧ t.line.beatSeq = s.line.beatSeq
  ∧ t.line.errors = s.line.errors - 1
  ∧ t.time = s.time ∧ t.coupling = s.coupling ∧ t.snapshot = s.snapshot ∧ Settles s t

/-- The bit period P of the line rate held, in µs (R1). -/
def State.linePeriod (s : State) : Nat := if s.cfg.rate = 0 then 8 else if s.cfg.rate = 1 then 4 else 2

/-- The line interface takes a change of its enable condition (R19): disabled, it receives nothing and its attempt is over;
enabled, its line is BUSY and the receiver hunts only from 2 P after that moment on. -/
def TakesEnable (s t : State) : Prop :=
  (s.line.enabled = true → t.line.enabled = false → t.line.rx = .off ∧ t.line.inFlight = none ∧ t.line.recessive8 = false)
  ∧ (s.line.enabled = false → t.line.enabled = true →
      t.line.rx = .waiting (s.time.now + BitVec.ofNat 32 (2 * s.linePeriod)) ∧ t.line.recessive8 = false)

/-- The command is the row of a received frame that brings this frame (R14, R23). -/
def Brings (f : RxFrame) : Instr → Prop
  | .malformedFrame g => f = g
  | .announceReceived key path revision wish => f = ⟨key, .announce path revision wish⟩
  | .beatReceived key sequence window => f = ⟨key, .beat sequence window⟩
  | .releaseReceived key holder => f = ⟨key, .release holder⟩
  | .recallReceived key reason => f = ⟨key, .recall reason⟩
  | .probeOfArmEnd key => f = ⟨key, .probe 0⟩
  | .probeReceived key target => f = ⟨key, .probe target⟩
  | .claimReceived key name tryCount => f = ⟨key, .claim name tryCount⟩
  | .objectReceived key claimant name reason counter => f = ⟨key, .object claimant name reason counter⟩
  | .holdReceived key holder => f = ⟨key, .hold holder⟩
  | .callReceived key cause => f = ⟨key, .call cause⟩
  | _ => False

/-- The form checks of R22, kind by kind as 02 Table 3 lists them, for a part whose own identity is `own`. A sender name key has
42 zero bits above a name of 1 to 62; a valid identity has a maker number other than 0000₁₆ and FFFF₁₆ and is not `own`. -/
def FormChecks (own : Option Identity) (f : RxFrame) : Prop :=
  let sender : Prop := f.key.extractLsb' 6 42 = 0 ∧ 1 ≤ (f.key.extractLsb' 0 6).toNat ∧ (f.key.extractLsb' 0 6).toNat ≤ 62
  let valid (x : Identity) : Prop := x.extractLsb' 32 16 ≠ 0x0000 ∧ x.extractLsb' 32 16 ≠ 0xFFFF ∧ own ≠ some x
  match f.body with
  | .object claimant name reason counter => sender ∧ valid claimant ∧ (1 ≤ name.toNat ∧ name.toNat ≤ 62)
      ∧ (1 ≤ reason.toNat ∧ reason.toNat ≤ 7) ∧ counter.toNat ≤ 62
  | .recall _ => sender
  | .call _ => sender
  | .hold holder => sender ∧ valid holder
  | .claim name _ => valid f.key ∧ name.toNat ≤ 63
  | .announce path _ wish => valid f.key ∧ path.toNat ≤ 62 ∧ wish.toNat ≤ 62
  | .probe target => sender ∧ target.toNat ≤ 62
  | .beat _ _ => sender
  | .release holder => sender ∧ valid holder

/-- The path check of R76 passes path p in an ANNOUNCE from x: it is 0, or the name of a bridge of the roster that is NAMED or
SILENT, is not x, and is not behind x (R91). -/
def PathPasses (s : State) (x : Identity) (p : Name) : Prop :=
  p = 0 ∨ ∃ b ∈ s.roster.entries, b.name = some p ∧ (b.state = .named ∨ b.state = .silent)
    ∧ b.identity.extractLsb' 24 8 = 0x7E ∧ b.identity ≠ x ∧ s.isBehind b x = false

/-- The line block after a good frame: one error fewer, and LINE_FAULT left where the count falls below 32 with the stuck mark
clear (R14, R15, R18). -/
def Line.afterGood (l : Line) : Line :=
  { l with recessive8 := false, rx := .hunting, errors := l.errors - 1,
           fault := l.fault && (decide (Config.faultExit ≤ l.errors - 1) || l.stuck) }

/-- The census after an entry to HEARD in a line-active census: QUIET goes back to its return state, its quiet deadline
cancelled and the census deadline kept, or armed where GATHERING finds it unarmed; COMPLETE and POWERING go to GATHERING with a
fresh census deadline (R127, R131, R133). -/
def CensusReopened (s t : State) : Prop :=
  t.census.state = (match s.census.state with
    | .overdue => .overdue
    | .quiet => (match s.census.returnState with | .gathering => .gathering | .overdue => .overdue)
    | _ => .gathering)
  ∧ t.census.firstFrame = (if s.census.state = .powering then none else s.census.firstFrame)
  ∧ t.census.quiet = (if s.census.state = .quiet then none else s.census.quiet)
  ∧ (s.census.state = .powering ∨ s.census.state = .complete →
      t.census.deadline = some (s.toolAfter (1000 * s.cfg.census)))
  ∧ (s.census.state = .gathering ∨ s.census.state = .overdue → t.census.deadline = s.census.deadline)
  ∧ (s.census.state = .quiet → t.census.deadline =
      (if s.census.returnState = .gathering ∧ s.census.deadline = none then some (s.toolAfter (1000 * s.cfg.census))
       else s.census.deadline))
  ∧ t.census.returnState = s.census.returnState
  ∧ t.census.generation = s.census.generation ∧ t.census.settling = s.census.settling

/-- A good frame has been counted as foreign, and nothing but the counts of the line interface and a census in POWERING has
moved (R14, R23, R127). -/
def ForeignCounted (s t : State) : Prop :=
  t.line = { s.line.afterGood with foreign := min 65535 (s.line.foreign + 1) }
  ∧ CensusCloses s s.censusHeard t
  ∧ Settles s t ∧ t = { s with pins := t.pins, line := t.line, census := t.census, notices := t.notices }

/-- The claim of x for n is judged on the state u that R107 leaves (R108 to R112). With no test applying, the entry is CLAIMING
and a pending claim stands with its window and hold deadlines. Else an OBJECT of the deciding test is offered; with room, or in
the place of a BEAT, it has a ticket that runs W; and an entry that x has stays HEARD with the objection counted. -/
def ClaimJudged (x : Identity) (n : Name) (u t : State) : Prop :=
  (claimTest x n u = none →
    t.roster = { u.roster with entries := u.roster.entries.map (fun g => if g.identity = x then
      { g with state := .claiming, name := some n, claimDl := none, lastHeard := u.time.now } else g) }
    ∧ t.naming = { u.naming with claims := u.naming.claims ++
        [{ claimant := x, name := n, windowEnd := u.time.now + BitVec.ofNat 32 u.cfg.window, windowEnded := false,
           hold := u.time.now + BitVec.ofNat 32 (2 * u.cfg.window), objectSent := false }] }
    ∧ t.changes = u.changes ∧ t.line = u.line)
  ∧ ∀ reason counter, claimTest x n u = some (reason, counter) →
    t.line = (offerFrame (.object x n reason counter) .naming
        (.claimObjection x (u.time.now + BitVec.ofNat 32 u.cfg.window)) u).line
    ∧ (u.line.txList.length < 12 ∨ (∃ g ∈ u.line.txList, g.isBeat = true ∧ u.line.flies g = false) →
        t.naming = { u.naming with tickets := u.naming.tickets ++
          [{ tag := u.line.nextTag, claimant := x, deadline := u.time.now + BitVec.ofNat 32 u.cfg.window }] })
    ∧ (12 ≤ u.line.txList.length → (∀ g ∈ u.line.txList, g.isBeat = true → u.line.flies g = true) → t.naming = u.naming)
    ∧ t.roster = { u.roster with entries := u.roster.entries.map (fun g => if g.identity = x then
        { g with objections := min 15 (g.objections + 1), storm := g.storm || decide (g.objections + 1 = 8) } else g) }
    ∧ (∀ e, u.entryOf x = some e → t.changes =
        (if e.objections + 1 = 8 ∧ e.storm = false then queueRecord .storm 0 (some x) 8 u else u).changes)
    ∧ (u.entryOf x = none → t.changes = u.changes)

/-- Name n, which nobody holds, is asked about, its frame counted as foreign (R84, R86): a name QUEUED or OPEN is left; any other
is QUEUED with a PROBE in the transmit list, or UNSENT with a drop counted where the list is full. -/
def NameAsked (n : Name) (s u : State) : Prop :=
  let asked (member : Asked) : List Asked :=
    if s.roster.asked.any (fun a => a.name == n) = true then
      s.roster.asked.map (fun a => if a.name = n then member else a)
    else s.roster.asked ++ [member]
  let line : Line := { s.line.afterGood with foreign := min 65535 (s.line.foreign + 1) }
  (s.roster.asked.any (fun a => a.name == n && a.probe != .unsent) = true → u.roster = s.roster ∧ u.line = line)
  ∧ (s.roster.asked.any (fun a => a.name == n && a.probe != .unsent) = false →
      (s.line.txList.length < 12 →
        u.roster = { s.roster with
          asked := asked { name := n, probe := .queued, window := none, tag := some s.line.nextTag } }
        ∧ u.line = { line with
          nextTag := s.line.nextTag + 1
          txList := insertFrame {
            tag := s.line.nextTag, body := .probe n, owner := .roster, ref := .adoptionProbe n, attempts := 0,
            started := false } s.line.txList })
      ∧ (12 ≤ s.line.txList.length →
        u.roster = { s.roster with asked := asked { name := n, probe := .unsent, window := none, tag := none } }
        ∧ u.line = { line with txDrops := min 65535 (s.line.txDrops + 1) }))

/-- The sender report of a good frame keyed with name n (R24): its holder is refreshed, with a BACK record from SILENT or LOST
(R82); a holder LOST behind a LOST bridge is left, and the frame is foreign (R82); a name nobody holds is asked about (R84). -/
def SenderReported (n : Name) (s u : State) : Prop :=
  u = { s with line := u.line, roster := u.roster, census := u.census, changes := u.changes }
  ∧ (∀ o, s.holder n = some o → ¬ (o.state = .lost ∧ s.behindLost o = true) →
      u.line = s.line.afterGood
      ∧ u.roster = { s.roster with entries := s.roster.entries.map (fun g => if g.identity = o.identity then
          { g with state := .named, lastHeard := s.time.now, claimDl := none,
                   silenceDl := some (s.toolAfter (1000 * s.cfg.silence)), lossDl := none } else g) }
      ∧ u.changes = (if o.state = .named then s else queueRecord .back n (some o.identity) 0 s).changes)
  ∧ (∀ o, s.holder n = some o → o.state = .lost ∧ s.behindLost o = true →
      u.line = { s.line.afterGood with foreign := min 65535 (s.line.foreign + 1) } ∧ u.roster = s.roster
      ∧ u.changes = s.changes)
  ∧ (s.holder n = none → NameAsked n s u ∧ u.changes = s.changes)

/-- An OBJECT of the part against x that is withdrawn when another station's OBJECT against x for name d is heard: every one
against a claim of x, and one disputing a hold where that OBJECT has reason CONFLICT and the same disputed name (R114). -/
def Withdrawn (x : Identity) (d : Name) (reason : Byte) (f : TxFrame) : Bool :=
  match f.ref, f.body with
  | .claimObjection y _, _ => y == x
  | .holdObjection y, .object _ n _ _ => y == x && n == d && reason == 7
  | _, _ => false

/-- Another station's OBJECT against x for name d, heard in the state u that the sender report leaves (R111, R114), where it
demotes no holder. -/
def ObjectionHeard (x : Identity) (d : Name) (reason : Byte) (u t : State) : Prop :=
  t.line = { u.line with txList := u.line.txList.filter (fun f => !Withdrawn x d reason f) }
  ∧ t.naming = { u.naming with
      claims := u.naming.claims.filter (fun c => c.claimant != x)
      tickets := u.naming.tickets.filter
        (fun k => !u.line.txList.any (fun f => Withdrawn x d reason f && f.tag == k.tag)) }
  ∧ t.roster = { u.roster with entries := u.roster.entries.map (fun g => if g.identity = x then
      (if u.claimOf x = none then
        { g with objections := min 15 (g.objections + 1), storm := g.storm || decide (g.objections + 1 = 8) }
      else
        { g with state := .heard, name := none, beatSeq := none, claimDl := some (u.toolAfter (1000 * u.cfg.claim)),
                 silenceDl := none, lossDl := none, objections := min 15 (g.objections + 1),
                 storm := g.storm || decide (g.objections + 1 = 8) })
      else g) }
  ∧ (∀ e, u.entryOf x = some e → t.changes = (if e.objections + 1 = 8 ∧ e.storm = false then
      queueRecord .storm (if u.claimOf x = none then e.name.getD 0 else 0) (some x) 8 u else u).changes)
  ∧ (u.entryOf x = none → t.changes = u.changes)

/-- An OBJECT disputing a hold of x of name n is offered to the list of l, with no ticket (R29, R119, R120): with room it enters
at its place; on a full list it takes the room of a BEAT that is not in flight, which is counted, or with no such BEAT it is
itself dropped and counted. -/
def HoldDisputed (x : Identity) (n : Name) (reason : Reason) (counter : Name) (l l' : Line) : Prop :=
  let object : TxFrame := {
    tag := l.nextTag, body := .object x n reason counter, owner := .naming, ref := .holdObjection x, attempts := 0,
    started := false }
  (l.txList.length < 12 → l' = { l with nextTag := l.nextTag + 1, txList := insertFrame object l.txList })
  ∧ (12 ≤ l.txList.length →
      (∀ g ∈ l.txList, g.isBeat = true → l.flies g = false → (∀ h ∈ l.txList, h.isBeat = true → h = g) →
        l' = { l with
          nextTag := l.nextTag + 1
          txList := insertFrame object (l.txList.filter (fun h => h.tag != g.tag))
          txDrops := min 65535 (l.txDrops + 1) })
      ∧ ((∀ g ∈ l.txList, g.isBeat = true → l.flies g = true) → l' = { l with txDrops := min 65535 (l.txDrops + 1) }))

/-- What a HOLD of name n carrying identity x does to the order (R177): a running PING of n whose window is armed ends, OK with
the state code of the holder of n as the HOLD found it, or 0 where nobody holds n, if x is the recorded identity, and MISMATCH
with detail 0 if not. Any other order stands. -/
def HoldAnswersPing (n : Name) (x : Identity) (s t : State) : Prop :=
  t.order =
    if s.pingRunning = true ∧ s.order.operand.toNat = n ∧ s.order.pingWindow.isSome = true then
      { s.order with
        state := .done
        termination := if s.order.pingIdentity = some x then 0x8000 else 0xC100
        detail := if s.order.pingIdentity = some x then
            (match s.holder n with
            | some e => match e.state with | .heard => 1 | .claiming => 2 | .named => 3 | .silent => 4 | .lost => 5
            | none => 0)
          else 0
        pingIdentity := none, pingWindow := none }
    else s.order

/-! ### The setup record and the plan entries -/

/-- The setup record as 11 Table 8 lays it out in the data area. -/
def SetupRecordLayout (d : List Byte) : Prop :=
  let b (i : Nat) : Nat := (d.getD i 0).toNat
  let v := setupOf d
  v.rate = b 0
    ∧ v.identity.toNat = ((((b 1 * 256 + b 2) * 256 + b 3) * 256 + b 4) * 256 + b 5) * 256 + b 6
    ∧ v.beat = b 7 * 256 + b 8 ∧ v.silence = b 9 * 256 + b 10 ∧ v.loss = b 11 ∧ v.window = b 12 * 256 + b 13
    ∧ v.claim = b 14 * 256 + b 15 ∧ v.first = b 16 * 256 + b 17 ∧ v.quiet = b 18 * 256 + b 19
    ∧ v.census = b 20 * 256 + b 21 ∧ v.make = b 22 ∧ v.brk = b 23 ∧ v.settle = b 24 * 256 + b 25
    ∧ v.hold = b 26 * 256 + b 27
    ∧ v.rotation = (d.getD 28 0).getLsbD 0 ∧ v.autoDone = (d.getD 28 0).getLsbD 1
    ∧ ∀ k, k < 8 → v.enables.getLsbD k = ((d.getD 29 0).getLsbD k && decide (k < 6))

/-- The setup fields are checked in the order of 10 Table 2 against the ranges of 00 Table 7, and the first that fails is
named; W is also at least 2 × 147 bit periods of 8, 4 or 2 µs (R1, R173). -/
def SetupFieldsChecked (v : Setup) : Prop :=
  firstBadField v =
    if ¬ v.rate ≤ 2 then some 1
    else if v.identity.toNat / 2 ^ 32 = 0x0000 ∨ v.identity.toNat / 2 ^ 32 = 0xFFFF then some 2
    else if ¬ (10 ≤ v.beat ∧ v.beat ≤ 500) then some 3
    else if ¬ (20 ≤ v.silence ∧ v.silence ≤ 1000) then some 4
    else if ¬ (2 ≤ v.loss ∧ v.loss ≤ 8) then some 5
    else if ¬ (1000 ≤ v.window ∧ v.window ≤ 20000
        ∧ 2 * 147 * (if v.rate = 0 then 8 else if v.rate = 1 then 4 else 2) ≤ v.window) then some 6
    else if ¬ (10 ≤ v.claim ∧ v.claim ≤ 2000) then some 7
    else if ¬ (10 ≤ v.first ∧ v.first ≤ 2000) then some 8
    else if ¬ (5 ≤ v.quiet ∧ v.quiet ≤ 1000) then some 9
    else if ¬ (100 ≤ v.census ∧ v.census ≤ 10000) then some 10
    else if ¬ (1 ≤ v.make ∧ v.make ≤ 100) then some 11
    else if ¬ (1 ≤ v.brk ∧ v.brk ≤ 100) then some 12
    else if ¬ (1 ≤ v.settle ∧ v.settle ≤ 500) then some 13
    else if ¬ (100 ≤ v.hold ∧ v.hold ≤ 30000) then some 14
    else none

/-- A plan entry of a batch, counted from 0, as 11 Table 9 lays it out after the count byte; an exact entry is bound to its own
identity and a wildcard entry to none (R100). -/
def PlanEntryLayout (d : List Byte) (k : Nat) : Prop :=
  let b (i : Nat) : Nat := (d.getD (8 * k + 1 + i) 0).toNat
  let p := planEntryAt d (k + 1)
  p.maker.toNat = b 0 * 256 + b 1 ∧ p.cls.toNat = b 2 ∧ p.serial.toNat = (b 3 * 256 + b 4) * 256 + b 5
    ∧ p.wildcard = (d.getD (8 * k + 7) 0).getLsbD 0 ∧ p.name = b 7
    ∧ p.identity.toNat = (p.maker.toNat * 256 + p.cls.toNat) * 2 ^ 24 + p.serial.toNat
    ∧ p.binding = if p.wildcard = true then none else some p.identity

/-! ### Orders -/

/-- A START ORDER taken whose order ended in the same event: the answer is accepted, the ORDER notice is set, and what no
SETUP-phase order touches stands (R171, R172). -/
def OrderEndsAtOnce (s t : State) : Prop :=
  t.pins = { s.pins with sdo := [statusByte s, 0x00], attn := t.pins.attn }
  ∧ t.notices.order = true ∧ LevelsFollow t
  ∧ t.time = s.time ∧ t.roster = s.roster ∧ t.service = s.service ∧ t.changes = s.changes ∧ t.snapshot = s.snapshot
  ∧ (CensusAgrees s → t.census = s.census) ∧ KeepsLineLists s t

end Sys2Proof.Machine
end

