-- ==== Sys2Proof/WellFormed.lean ====
section
/-! DEFINITION. Which commands are well formed: the operand checks the spec states for a row whatever the part's state is.
A command that is not well formed is no event the rows describe; its meaning is total all the same (log 3). -/

namespace Sys2Proof

open Machine

/-- The line is lost before the start mark or inside the arbitration field (R9, R10). -/
def LossPlace.wellFormed : LossPlace → Bool
  | .beforeStart => true
  | .bit place => decide (place < Config.arbitrationBits)

/-- A bit error's place lies inside the longest frame the part sends: 57 bits of kind, key and length, 9 payload bytes and
the CRC (01 section 1.4, R11). -/
def BitErrorCause.wellFormed : BitErrorCause → Bool
  | .mismatch bit => decide (bit < 4 + 48 + 4 + 72 + 16)
  | .startMark => true
  | .endMark => true

/-- The operand checks of each row. For a received frame they are the form checks of R22 but for the part's own identity,
which is a setup value. -/
def Instr.wellFormed : Instr → Bool
  | .reset => true
  | .mateAsserted _ => true
  | .mateReleased _ => true
  | .lockEngaged => true
  | .lockReleased => true
  | .supplyGoodChange _ => true
  | .makeDeadline => true
  | .breakDeadline => true
  | .settleDeadline => true
  | .holdLimitDeadline => true
  | .lineIdle => true
  | .transmitAttempt => true
  | .arbitrationLoss place => place.wellFormed
  | .bitError cause => cause.wellFormed
  | .attemptSuccess => true
  | .receiveError cause => cause.fails
  | .stuckDominant => true
  | .stuckMarkClear => true
  | .foreignFrame f => (fixedLength f.kind.toNat).isNone && decide (f.payload.length ≤ 9)
  | .malformedFrame _ => true
  | .announceReceived key path revision wish => formOk none ⟨key, .announce path revision wish⟩
  | .beatReceived key sequence window => formOk none ⟨key, .beat sequence window⟩
  | .releaseReceived key holder => formOk none ⟨key, .release holder⟩
  | .recallReceived key reason => formOk none ⟨key, .recall reason⟩
  | .probeOfArmEnd key => formOk none ⟨key, .probe 0⟩
  | .probeReceived key target => formOk none ⟨key, .probe target⟩ && target != 0
  | .claimReceived key name tryCount => formOk none ⟨key, .claim name tryCount⟩
  | .objectReceived key claimant name reason counter => formOk none ⟨key, .object claimant name reason counter⟩
  | .holdReceived key holder => formOk none ⟨key, .hold holder⟩
  | .callReceived key cause => formOk none ⟨key, .call cause⟩
  | .claimDeadline slot => decide (slot < Config.rosterCapacity)
  | .silenceDeadline slot => decide (slot < Config.rosterCapacity)
  | .lossDeadline slot => decide (slot < Config.rosterCapacity)
  | .probeWindowEnd name => inRange 1 62 name
  | .objectionWindowEnd _ => true
  | .holdDeadline _ => true
  | .objectionTicketDeadline _ => true
  | .firstFrameDeadline => true
  | .quietDeadline => true
  | .censusDeadline => true
  | .pingProbeWindow => true
  | .beatComparatorMatch => true
  | .readStatus => true
  | .readNotices => true
  | .clearNotices _ => true
  | .writeOrder _ _ _ count data => decide (dataCount count ≤ data.length)
  | .readOrder => true
  | .retireOrder => true
  | .setup => true
  | .plan => true
  | .clearPlan => true
  | .go => true
  | .park => true
  | .unpark => true
  | .recall => true
  | .ping => true
  | .forget => true
  | .unknownOpcode => true
  | .latch => true
  | .readSnapshot _ => true
  | .release => true
  | .readChange => true
  | .take => true
  | .done name => name != 0
  | .done0 => true
  | .setMask _ => true
  | .restart => true
  | .unknownCommand command => !commandCodes.contains command
  | .startOrderBusy => true

end Sys2Proof
end

