-- ==== Sys2Proof/Certificates/Slice0/Obligations.lean ====
section
/-! DEFINITION. The statements for the provers. Each says what an event of the HN-2410 does, in the fields of the next state,
and what it leaves alone; `Safety.lean` names the shapes they share. -/

open Sys2Proof Sys2Proof.Machine

/-! ### The queue and the part's own clock -/

/-- A step runs the command at the front of the queue on the state with the queue's rest. -/
def Obligations.StepRunsFrontCommand : Prop :=
  ∀ (s : State) (c : Instr) (rest : List Instr),
    s.pending = c :: rest → step s = exec c { s with pending := rest }

/-- On an empty queue the part counts one microsecond while nothing is due, and otherwise puts one due event into the queue.
Which of several due events comes first is free (R38, R41; DESIGN CHOICE, logs 1 and 2). The due events are the expiries of
the armed deadlines of 03 Table 1 that are not ahead of the time base, those of the tool deadlines only outside a freeze, and
an attempt that may begin (R9, R40, R41, R45; DEDUCED, log 16). -/
def Obligations.EmptyQueueStep : Prop :=
  (∀ s : State, s.pending = [] →
    (s.dueCommands = [] → step s = .next { s with time := { s.time with now := s.time.now + 1 } })
    ∧ (s.dueCommands ≠ [] → ∃ c ∈ s.dueCommands, ∃ d, step s = .next { s with pending := [c], draws := d }))
  ∧ (∀ (s : State) (c : Instr), c ∈ s.dueCommands ↔ OwnEvent s c)

/-- While a freeze is in force only coupling deadlines are due (R45), and a tool deadline's expiry given as a command, which
is then no event, leaves the state unchanged (DESIGN CHOICE, log 3). -/
def Obligations.ToolDeadlinesWaitInFreeze : Prop :=
  ∀ s : State, s.time.frozen = true →
    (∀ c ∈ s.dueCommands, c = .makeDeadline ∨ c = .breakDeadline ∨ c = .settleDeadline ∨ c = .holdLimitDeadline
      ∨ c = .transmitAttempt)
    ∧ (∀ slot : Nat, exec (.claimDeadline slot) s = .next s ∧ exec (.silenceDeadline slot) s = .next s
        ∧ exec (.lossDeadline slot) s = .next s)
    ∧ (∀ (n : Name) (x : Identity) (k : Nat), exec (.probeWindowEnd n) s = .next s
        ∧ exec (.objectionWindowEnd x) s = .next s ∧ exec (.holdDeadline x) s = .next s
        ∧ exec (.objectionTicketDeadline k) s = .next s)
    ∧ exec .firstFrameDeadline s = .next s ∧ exec .quietDeadline s = .next s ∧ exec .censusDeadline s = .next s
    ∧ exec .pingProbeWindow s = .next s ∧ exec .beatComparatorMatch s = .next s

/-- Every command answers a next state, in every state and with every operand, and leaves the queue to the step. No command
but a reset changes the time base, and a reset sets it to 0 (R38). That a command which is no event answers a next state, and
that a reset keeps the commands that wait, are the model's choices (DESIGN CHOICE, logs 3 and 7). -/
def Obligations.EveryCommandCompletes : Prop :=
  (∀ (c : Instr) (s : State), ∃ t, exec c s = .next t ∧ t.pending = s.pending ∧ t.draws = s.draws)
  ∧ (∀ (c : Instr) (s : State), ∃ t, exec c s = .next t ∧
    t.time.now = if c = .reset ∨ c = .restart then 0 else s.time.now)

/-! ### Reset -/

/-- The values the spec gives for reset (R180; 01 Table 5, 04 R71, 05 R97, 06 Table 4, 07 R125, 08 R139, 09 R168, 10 Table 4).
A reset by the pin and one by RESTART leave every block at its reset values, the time base at 0 and both outputs released;
RESTART's transaction shows the status byte of the state before (R180). That the input levels and the waiting commands stay is
the model's choice (logs 6 and 7). The transaction is one step, and its status byte shows the state before it (R169; DESIGN
CHOICE, log 8). -/
def Obligations.ResetLeavesItsValues : Prop :=
  (State.reset.time = { now := 0, frozen := false, freezeStart := 0, beat := none }
  ∧ State.reset.line.state = .idle ∧ State.reset.line.enabled = false ∧ State.reset.line.errors = 0
  ∧ State.reset.line.fault = false ∧ State.reset.line.stuck = false ∧ State.reset.line.inFlight = none
  ∧ State.reset.line.txList = [] ∧ State.reset.line.foreign = 0 ∧ State.reset.line.txDrops = 0
  ∧ State.reset.line.beatSeq = 0
  ∧ State.reset.coupling = {
      state := .openState, lockedOnce := false, supply := .off, mateCapture := 0,
      unmateCapture := 0, make := none, brk := none, settle := none, holdLimit := none }
  ∧ State.reset.pins.supplyEn = false ∧ State.reset.pins.attn = false
  ∧ State.reset.roster = { entries := [], asked := [], fullLatch := false }
  ∧ State.reset.naming = { plan := [], claims := [], tickets := [] }
  ∧ State.reset.census = {
      state := .absent, returnState := .gathering, generation := 0, settling := 0,
      firstFrame := none, quiet := none, deadline := none }
  ∧ State.reset.service = { requests := [], inService := [], mask := 0, bottom := 62 }
  ∧ State.reset.changes = { queue := [], drops := 0 }
  ∧ State.reset.notices.bits = 0 ∧ State.reset.notices.couplingSeen = false ∧ State.reset.notices.lineSeen = false
  ∧ State.reset.notices.censusSeen = false
  ∧ State.reset.order.phase = .setup ∧ State.reset.order.setup = none ∧ State.reset.order.state = .idle
  ∧ State.reset.order.opcode = 0 ∧ State.reset.order.operand = 0 ∧ State.reset.order.data = List.replicate 40 0
  ∧ State.reset.order.termination = 0 ∧ State.reset.order.detail = 0 ∧ State.reset.order.pingWindow = none
  ∧ State.reset.snapshot.latched = false)
  ∧ (∀ s : State, ∃ t,
    exec .reset s = .next t
    ∧ exec .restart s = .next { t with pins := { t.pins with sdo := [statusByte s] } }
    ∧ t = { State.reset with
        pins := { State.reset.pins with mateA := s.pins.mateA, mateB := s.pins.mateB, lock := s.pins.lock,
                                        supplyGood := s.pins.supplyGood },
        draws := s.draws, pending := s.pending }
    ∧ t.pins.supplyEn = false ∧ t.pins.attn = false)

/-- Every invariant of the part holds right after reset. -/
def Obligations.InvariantsHoldAtReset : Prop :=
  NoticesAgree State.reset ∧ LineAgrees State.reset ∧ FaultFollowsCount State.reset ∧ CountsBounded State.reset
  ∧ TxListOk State.reset ∧ RosterOk State.reset ∧ ClaimsInStep State.reset ∧ SupplyAgrees State.reset
  ∧ CouplingAgrees State.reset ∧ CensusAgrees State.reset ∧ ServiceAgrees State.reset ∧ OrderAgrees State.reset
  ∧ TxArrivalOk State.reset ∧ TicketsAgree State.reset ∧ AskedOk State.reset ∧ StagesOk State.reset

/-! ### Invariants of every step -/

/-- Every step keeps the notices and ATTN in agreement with their conditions (R163, R165, R167). -/
def Obligations.NoticesStayInAgreement : Prop :=
  ∀ s t : State, NoticesAgree s → step s = .next t → NoticesAgree t

/-- Every step keeps the line interface enabled exactly under R19, and driving only while it may (R9, R16); a command that
disables it ends what it receives and sends, and one that enables it leaves the line BUSY and the receiver not hunting before
2 P have passed (R8, R19; the 2 P by the time base, DESIGN CHOICE, log 22). Every step keeps LINE_FAULT and the line error
count in the relation of R16 to R18. -/
def Obligations.LineAndFaultStayInAgreement : Prop :=
  (∀ s t : State, LineAgrees s → step s = .next t → LineAgrees t)
  ∧ (∀ (c : Instr) (s t : State), exec c s = .next t → TakesEnable s t)
  ∧ (∀ s t : State, FaultFollowsCount s → step s = .next t → FaultFollowsCount t)

/-- Every step keeps every count within its limits and every queue within its capacity. -/
def Obligations.CountsStayBounded : Prop :=
  ∀ s t : State, CountsBounded s → step s = .next t → CountsBounded t

/-- Every step keeps the transmit list in the order, the capacity and the composition of R27: kind codes lowest first and
frames of one kind in order of arrival, at most 12 frames, at most one BEAT and at most one RECALL. Every step keeps a ticket
for an OBJECT against a claim only (R109, R112). The numbers by which a report finds its frame are the model's own (DESIGN
CHOICE, log 11). -/
def Obligations.TransmitListStaysOrdered : Prop :=
  (∀ s t : State, TxListOk s → step s = .next t → TxListOk t)
  ∧ (∀ s t : State, TxListOk s → OrderAgrees s → TxArrivalOk s → step s = .next t → TxArrivalOk t)
  ∧ (∀ s t : State, TxListOk s → TicketsAgree s → step s = .next t → TicketsAgree t)

/-- Every step keeps the roster a table of 48 slots with distinct identities and names, each entry with the name and deadlines
of its state (R72, R73, 05 Table 2). Every step keeps every path the name of a bridge, the entries behind a LOST bridge LOST,
and no entry behind itself (R91); and the asked set a set of names, each at most once, with a window armed exactly while OPEN
(R86). -/
def Obligations.RosterStaysATable : Prop :=
  (∀ s t : State, RosterOk s → step s = .next t → RosterOk t)
  ∧ (∀ s t : State, RosterOk s → ClaimsInStep s → StagesOk s → step s = .next t → StagesOk t)
  ∧ (∀ s t : State, AskedOk s → step s = .next t → AskedOk t)

/-- Every step keeps the pending claims and the CLAIMING entries in step (R88, R103). -/
def Obligations.ClaimsStayInStep : Prop :=
  ∀ s t : State, RosterOk s → ClaimsInStep s → step s = .next t → ClaimsInStep t

/-- Every step keeps the census line-active exactly while the supply is ON, and the tool state empty while it is not (R62,
R66). -/
def Obligations.ToolStateNeedsSupply : Prop :=
  ∀ s t : State, LineAgrees s → CouplingAgrees s → SupplyAgrees s → step s = .next t → SupplyAgrees t

/-- Every step keeps the make and break deadlines, the hold limit and the freeze to the coupling states they belong to. -/
def Obligations.CouplingStaysInAgreement : Prop :=
  ∀ s t : State, SupplyAgrees s → CouplingAgrees s → step s = .next t → CouplingAgrees t

/-- Every step keeps the census QUIET or COMPLETE only while no entry is HEARD or CLAIMING, and GATHERING or OVERDUE only
while the quiet condition fails (R125, R129; the events that test it, DEDUCED, log 13). -/
def Obligations.CensusStaysWithRoster : Prop :=
  ∀ s t : State, LineAgrees s → SupplyAgrees s → RosterOk s → ClaimsInStep s → CensusAgrees s →
    step s = .next t → CensusAgrees t

/-- Every step keeps every request with a NAMED or SILENT holder and every name in service with a holder (R154). -/
def Obligations.ServiceStaysWithHolders : Prop :=
  ∀ s t : State, RosterOk s → ClaimsInStep s → ServiceAgrees s → step s = .next t → ServiceAgrees t

/-- Every step keeps a running order to one that something still standing will end (R172, R176, R177). -/
def Obligations.RunningOrderStaysAwaited : Prop :=
  ∀ s t : State, TxListOk s → TxArrivalOk s → TicketsAgree s → OrderAgrees s → step s = .next t → OrderAgrees t

/-! ### The coupling monitor -/

/-- MATE_ASSERTED (R54, R59): in the RUN phase the second mate input to be asserted takes OPEN to MAKING, with the capture and
the make deadline, and BREAKING back to COUPLED or HELD by LOCK; else only the level changes. MATE_RELEASED (R55, R59): in the
RUN phase MAKING returns to OPEN with its capture kept, and COUPLED and HELD enter BREAKING with the unmate capture and the
break deadline, a freeze beginning from COUPLED (R43). In the SETUP phase only the level changes (R52). -/
def Obligations.MateInputsMoveCoupling : Prop :=
  (∀ (i : MateInput) (s : State), s.pins.mate i = false →
    ∃ t, exec (.mateAsserted i) s = .next t ∧ t.pins.mate i = true ∧ t.pins.otherMate i = s.pins.otherMate i
      ∧ t.pins.lock = s.pins.lock ∧ t.pins.supplyGood = s.pins.supplyGood ∧ LevelsFollow t
      ∧ (s.order.phase = .run ∧ s.pins.otherMate i = true →
          (s.coupling.state = .openState →
            t.coupling = { s.coupling with
              state := .making, mateCapture := s.time.now,
              make := some (s.time.now + BitVec.ofNat 32 (1000 * s.cfg.make)) }
            ∧ t.notices.coupling = true ∧ t.notices.couplingSeen = false
            ∧ t = { s with pins := t.pins, coupling := t.coupling, line := t.line, notices := t.notices })
          ∧ (s.coupling.state = .breaking ∧ s.pins.lock = true → EntersCoupled s t)
          ∧ (s.coupling.state = .breaking ∧ s.pins.lock = false → EntersHeld s t ∧ t.coupling.brk = none
            ∧ t = { s with pins := t.pins, coupling := t.coupling, line := t.line, notices := t.notices }))
      ∧ (s.order.phase = .setup ∨ s.pins.otherMate i = false
          ∨ (s.coupling.state ≠ .openState ∧ s.coupling.state ≠ .breaking) →
          t = { s with pins := t.pins, notices := t.notices } ∧ KeepsLatched s t))
  ∧ (∀ (i : MateInput) (s : State), s.pins.mate i = true → s.order.phase = .run →
    ∃ t, exec (.mateReleased i) s = .next t ∧ t.pins.mate i = false ∧ LevelsFollow t
      ∧ t = { s with pins := t.pins, time := t.time, coupling := t.coupling, line := t.line, notices := t.notices }
      ∧ KeepsLineLists s t
      ∧ (s.coupling.state = .making →
          t.coupling = { s.coupling with state := .openState, lockedOnce := false, make := none, holdLimit := none }
          ∧ KeepsLatched s t ∧ t.time = s.time)
      ∧ (s.coupling.state = .coupled ∨ s.coupling.state = .held →
          t.coupling = { s.coupling with
            state := .breaking, unmateCapture := s.time.now,
            brk := some (s.time.now + BitVec.ofNat 32 (100 * s.cfg.brk)) }
          ∧ t.line.enabled = false ∧ t.notices.coupling = true ∧ t.notices.couplingSeen = false
          ∧ (s.coupling.state = .coupled → BeginsFreeze s t) ∧ (s.coupling.state = .held → t.time = s.time))
      ∧ (s.coupling.state = .openState ∨ s.coupling.state = .breaking →
          t.coupling = s.coupling ∧ t.line = s.line ∧ t.time = s.time ∧ KeepsLatched s t))
  ∧ (∀ (i : MateInput) (s : State), s.pins.mate i = true → s.order.phase = .setup →
    ∃ t, exec (.mateReleased i) s = .next t ∧ t.pins.mate i = false ∧ t.pins.otherMate i = s.pins.otherMate i
      ∧ t = { s with pins := t.pins, notices := t.notices } ∧ KeepsLatched s t ∧ LevelsFollow t)

/-- LOCK_ENGAGED takes HELD to COUPLED and releases the freeze; LOCK_RELEASED takes COUPLED to HELD and begins one (R43, R46,
R57, R58). MAKE_DEADLINE samples LOCK: engaged, the coupling enters COUPLED; released, HELD with no freeze begun (R55). A
change of LOCK that the coupling does not act on moves only the level (R54). -/
def Obligations.LockAndMakeDeadline : Prop :=
  (∀ s : State, s.pins.lock = false → s.order.phase = .run → s.coupling.state = .held →
    ∃ t, exec .lockEngaged s = .next t ∧ t.pins.lock = true ∧ t.coupling.make = s.coupling.make ∧ EntersCoupled s t)
  ∧ (∀ s : State, s.pins.lock = true → s.order.phase = .run → s.coupling.state = .coupled →
    ∃ t, exec .lockReleased s = .next t ∧ t.pins.lock = false ∧ EntersHeld s t ∧ BeginsFreeze s t ∧ LevelsFollow t
      ∧ KeepsLatched s t
      ∧ t = { s with pins := t.pins, time := t.time, coupling := t.coupling, line := t.line, notices := t.notices })
  ∧ (∀ s : State, s.due s.coupling.make = true → s.order.phase = .run → s.coupling.state = .making →
    ∃ t, exec .makeDeadline s = .next t ∧ t.coupling.make = none
      ∧ (s.pins.lock = true → EntersCoupled s t)
      ∧ (s.pins.lock = false → EntersHeld s t ∧ KeepsLatched s t ∧ LevelsFollow t
          ∧ t = { s with pins := t.pins, coupling := t.coupling, line := t.line, notices := t.notices }))
  ∧ (∀ (s : State) (level : Bool), s.pins.lock = !level →
      s.order.phase = .setup ∨ (level = true ∧ s.coupling.state ≠ .held) ∨ (level = false ∧ s.coupling.state ≠ .coupled) →
    ∃ t, exec (if level then .lockEngaged else .lockReleased) s = .next t ∧ t.pins.lock = level
      ∧ t = { s with pins := t.pins, notices := t.notices } ∧ KeepsLatched s t ∧ LevelsFollow t)

/-- The park of a lost supply and of the hold limit: the tool state is emptied under one record, a running order is overtaken,
and the coupling state and the captures are kept (R64 to R66). -/
def Obligations.SupplyLossAndHoldLimitPark : Prop :=
  (∀ s : State, s.pins.supplyGood = true → s.coupling.supply = .on →
    ∃ t, exec (.supplyGoodChange false) s = .next t ∧ t.pins.supplyGood = false ∧ EmptiesTool .parked s t
      ∧ Overtakes s t ∧ t.coupling = { s.coupling with supply := .off, settle := none, holdLimit := none }
      ∧ t.changes = (queueRecord .supplyFault 0 none 2 s).changes ∧ KeepsLatched s t)
  ∧ (∀ s : State, s.due s.coupling.holdLimit = true →
    ∃ t, exec .holdLimitDeadline s = .next t ∧ EmptiesTool .parked s t
      ∧ Overtakes s t ∧ t.coupling = { s.coupling with supply := .off, settle := none, holdLimit := none }
      ∧ t.changes = (queueRecord .parked 0 none 2 s).changes ∧ KeepsLatched s t)
  ∧ (∀ (s : State) (level : Bool), s.pins.supplyGood ≠ level → s.coupling.supply ≠ .on ∨ level = true →
    ∃ t, exec (.supplyGoodChange level) s = .next t ∧ t.pins.supplyGood = level
      ∧ t = { s with pins := t.pins, notices := t.notices } ∧ KeepsLatched s t ∧ LevelsFollow t)

/-- BREAK_DEADLINE tears down: the tool state is emptied, one TORN record carries the entry count, and with both mate inputs
asserted again MAKING follows in the same event (R54, R60, R69). -/
def Obligations.BreakDeadlineTearsDown : Prop :=
  ∀ s : State, s.due s.coupling.brk = true →
    ∃ t, exec .breakDeadline s = .next t ∧ EmptiesTool .absent s t ∧ Overtakes s t
      ∧ t.changes = (queueRecord .torn 0 none s.roster.entries.length s).changes
      ∧ t.coupling.lockedOnce = false ∧ t.coupling.brk = none
      ∧ t.coupling.unmateCapture = s.coupling.unmateCapture
      ∧ (if s.pins.mateA = true ∧ s.pins.mateB = true then
          t.coupling.state = .making ∧ t.coupling.mateCapture = s.time.now
            ∧ t.coupling.make = some (s.time.now + BitVec.ofNat 32 (1000 * s.cfg.make))
            ∧ t.notices.coupling = true ∧ t.notices.couplingSeen = false
        else t.coupling.state = .openState ∧ t.coupling.mateCapture = s.coupling.mateCapture
            ∧ t.coupling.make = none ∧ KeepsLatched s t)

/-- SETTLE_DEADLINE: with power good the supply is ON, the census POWERING and the comparator armed; without it the tool is
parked with SUPPLY_FAULT, detail 1 (R47, R63, R126). -/
def Obligations.SettleDeadlineDecidesSupply : Prop :=
  ∀ s : State, s.due s.coupling.settle = true →
    (s.pins.supplyGood = true → ∃ t, exec .settleDeadline s = .next t
      ∧ t.coupling = { s.coupling with supply := .on, settle := none }
      ∧ t.census = { s.census with
          state := .powering, returnState := .gathering,
          firstFrame := some (s.toolAfter (1000 * s.cfg.first)), quiet := none, deadline := none }
      ∧ t.time = { s.time with beat := some (s.toolAfter (1000 * s.cfg.beat)) }
      ∧ t.line.enabled = (s.coupling.state == .coupled) ∧ KeepsLineLists s t ∧ Settles s t
      ∧ t = { s with pins := t.pins, time := t.time, line := t.line, coupling := t.coupling, census := t.census,
                     notices := t.notices })
    ∧ (s.pins.supplyGood = false → ∃ t, exec .settleDeadline s = .next t ∧ EmptiesTool .parked s t ∧ Overtakes s t
      ∧ t.coupling = { s.coupling with supply := .off, settle := none, holdLimit := none }
      ∧ t.changes = (queueRecord .supplyFault 0 none 1 s).changes ∧ KeepsLatched s t)

/-! ### The line interface -/

/-- The CRC is the register of R7: it starts at FFFF₁₆, each bit is compared with the top bit before the shift, 1021₁₆ is
exclusive-ORed where they differ; it covers kind, key, length and payload in that order, goes on the wire most significant bit
first, and a frame received with another CRC than the computed one is a receive error. -/
def Obligations.CrcFollowsR7 : Prop :=
  crcOf [] = 0xFFFF
  ∧ (∀ (bits : List Bool) (b : Bool), crcOf (bits ++ [b])
      = (crcOf bits <<< 1) ^^^ (if (crcOf bits).msb = b then 0x0000 else 0x1021))
  ∧ (∀ f : WireFrame, f.crc = crcOf (msbBits 4 f.kind ++ msbBits 48 f.key ++ msbBits 4 (BitVec.ofNat 4 f.payload.length)
      ++ f.payload.flatMap (msbBits 8)))
  ∧ (∀ f : WireFrame, f.bits = f.bodyBits ++ msbBits 16 f.crc)
  ∧ (∀ (n : Nat) (x : BitVec n), (msbBits n x).length = n ∧ ∀ i, i < n → (msbBits n x)[i]? = some (x.getLsbD (n - 1 - i)))
  ∧ (∀ (f : WireFrame) (received : BitVec 16), lengthOk f.kind.toNat f.payload.length = true →
      ((ReceiveErrorCause.crc f received).fails = true ↔ received ≠ f.crc))

/-- A line recessive for 8 P clears the stuck mark and makes the line IDLE outside LINE_FAULT, and LINE_FAULT ends there
exactly on a count below 32 (R8, R17, R18). Another station's falling edge before the part has begun its start mark makes the
line BUSY, and the part does not begin (R8, R9; that it comes under the row ARBITRATION_LOSS is DESIGN CHOICE, log 5); where
the 2 P of R19 have not passed they count anew from it. A receive error adds one to the line error count, which stops at 255
and enters LINE_FAULT at 96; a stuck line sets the stuck mark, discards what is being received and enters LINE_FAULT whatever
the count; the entry sets the LINE flag unseen (R13, R15 to R17). A receiver that does not hunt yet receives no frame and no
error of a frame that had begun before it could hunt; at the end of such a frame it hunts (R4, R5, R17, R19). The rest of a
frame in error is such a frame, so that each counts one receive error (R13). A received frame is complete 2 P after the edge
of its last bit (R5). That it began as many bit periods ago as it has at the rate held is the model's choice (DESIGN CHOICE,
log 22). -/
def Obligations.LineErrorsAndRecovery : Prop :=
  (∀ s : State, s.receiving = true →
    ∃ t, exec .lineIdle s = .next t ∧ (s.line.stuck = true → exec .stuckMarkClear s = .next t)
      ∧ t.line = { s.line with recessive8 := true, stuck := false, rx := .hunting,
                               fault := s.line.fault && decide (Config.faultExit ≤ s.line.errors) }
      ∧ t.line.state = (if t.line.fault then .lineFault else .idle)
      ∧ Settles s t ∧ t = { s with pins := t.pins, line := t.line, notices := t.notices })
  ∧ (∀ s : State, s.receiving = true →
    ∃ t, exec (.arbitrationLoss .beforeStart) s = .next t
      ∧ t.line = { s.line with recessive8 := false, rx := t.line.rx }
      ∧ ((∀ m, s.line.rx = .waiting m → s.Reached (some m)) → t.line.rx = s.line.rx)
      ∧ (∀ m, s.line.rx = .waiting m → ¬ s.Reached (some m) →
          t.line.rx = .waiting (s.time.now + BitVec.ofNat 32 (2 * s.linePeriod)))
      ∧ t.line.state = (if s.line.fault then .lineFault else .busy) ∧ t.mayTransmit = false ∧ t.receiving = true
      ∧ Settles s t ∧ t = { s with pins := t.pins, line := t.line, notices := t.notices })
  ∧ (∀ (s : State) (cause : ReceiveErrorCause), s.mayHear cause.start cause.halves = true → cause.fails = true →
    ∃ t, exec (.receiveError cause) s = .next t ∧ t.line.errors = min 255 (s.line.errors + 1)
      ∧ t.line.fault = (s.line.fault || decide (96 ≤ t.line.errors))
      ∧ t.line.rx = (match cause with
          | .earlyEnd => .hunting
          | .lateEdge => .waiting (s.time.now + BitVec.ofNat 32 (2 * s.linePeriod))
          | _ => .waiting (s.time.now + BitVec.ofNat 32 (3 * s.linePeriod / 2)))
      ∧ (s.line.fault = t.line.fault → Settles s t ∧ t.order = s.order ∧ t.line.txList = s.line.txList)
      ∧ (s.line.fault = false ∧ t.line.fault = true → t.notices.line = true ∧ t.notices.lineSeen = false)
      ∧ t.line.txDrops = s.line.txDrops ∧ t.line.foreign = s.line.foreign ∧ t.line.stuck = s.line.stuck
      ∧ LevelsFollow t ∧ t = { s with pins := t.pins, line := t.line, notices := t.notices, order := t.order })
  ∧ (∀ (s : State) (m : Time), s.line.rx = .waiting m → s.receiving = true →
    (∀ start n, s.mayHear start n = true ↔ s.Reached (some (m + BitVec.ofNat 32 (n * (s.linePeriod / 2)))))
    ∧ (∀ (f : RxFrame) (c : Instr), Brings f c → s.hears f = false →
        exec c s = .next { s with line := { s.line with recessive8 := false, rx := .hunting } })
    ∧ (∀ f : WireFrame, s.mayHear (arbitrationField f.kind f.key) (receivedHalves f.payload.length) = false → fixedLength f.kind.toNat = none →
        f.payload.length ≤ 9 →
        exec (.foreignFrame f) s = .next { s with line := { s.line with recessive8 := false, rx := .hunting } })
    ∧ (∀ cause, s.mayHear cause.start cause.halves = false → exec (.receiveError cause) s = .next s))
  ∧ (∀ (s : State) (start : List Bool) (n : Nat), s.line.rx = .hunting → s.mayHear start n = s.receiving)
  ∧ ((∀ f : WireFrame, f.bitPeriods = 75 + 8 * f.payload.length) ∧ (∀ n, receivedHalves n = 2 * (74 + 8 * n))
    ∧ (∀ f : RxFrame, frameHalves f = 2 * (match f.body with
        | .object _ _ _ _ => 146 | .recall _ => 82 | .call _ => 82 | .hold _ => 122 | .claim _ _ => 90
        | .announce _ _ _ => 98 | .probe _ => 82 | .beat _ _ => 90 | .release _ => 122))
    ∧ (∀ kind length, (ReceiveErrorCause.length kind length).halves = 113)
    ∧ (∀ (f : WireFrame) (received : BitVec 16),
        (ReceiveErrorCause.crc f received).halves = 2 * (72 + 8 * f.payload.length) + 1)
    ∧ ReceiveErrorCause.earlyEnd.halves = 4 ∧ ReceiveErrorCause.lateEdge.halves = 144)
  ∧ (∀ s : State, s.line.enabled = true →
    ∃ t, exec .stuckDominant s = .next t ∧ t.line.stuck = true ∧ t.line.fault = true ∧ t.line.rx = .waiting s.time.now
      ∧ t.line.errors = s.line.errors ∧ (s.line.fault = false → t.line.inFlight = none)
      ∧ (s.line.fault = true → Settles s t ∧ t.order = s.order ∧ t.line.txList = s.line.txList)
      ∧ (s.line.fault = false → t.notices.line = true ∧ t.notices.lineSeen = false
          ∧ (s.recallRunning = true → t.order.state = .done ∧ t.order.termination = 0xC040)
          ∧ (s.recallRunning = false → t.order = s.order ∧ t.line.txList = s.line.txList))
      ∧ t.line.txDrops = s.line.txDrops ∧ t.line.foreign = s.line.foreign
      ∧ LevelsFollow t ∧ t = { s with pins := t.pins, line := t.line, notices := t.notices, order := t.order })

/-- An attempt takes the head of the list, sets its started mark and puts the frame under name key 0 on the wire, a BEAT with
the sequence and window of the moment, every other frame with the fields its owner gave it; a lost arbitration leaves list and
counts as they are and the part receives, the bits sampled so far being the start of the frame it can receive (R9, R10, R21,
R25, R26, R34 to R37). That a frame with another start is no event is the model's choice (DESIGN CHOICE, log 3). The numbers
by which a report finds its frame are the model's own (DESIGN CHOICE, log 11). -/
def Obligations.AttemptTakesHead : Prop :=
  (∀ (s : State) (f : TxFrame) (rest : List TxFrame), s.mayTransmit = true → s.line.txList = f :: rest →
    ∃ t i, exec .transmitAttempt s = .next t
      ∧ t.line = { s.line with txList := { f with started := true } :: rest, inFlight := some i, recessive8 := false,
                               rx := .hunting }
      ∧ i.tag = f.tag ∧ i.wire.key = 0 ∧ i.wire.kind = BitVec.ofNat 4 f.body.kind.code
      ∧ (f.body = .beat → i.wire.payload = [s.line.beatSeq, BitVec.ofNat 8 ((s.cfg.window + 99) / 100)])
      ∧ (∀ x n reason counter, f.body = .object x n reason counter → i.wire.payload =
          (List.range 6).map (fun k => (x >>> (8 * (5 - k))).setWidth 8)
            ++ [BitVec.ofNat 8 n,
                (match reason with
                  | .taken => 1 | .pending => 2 | .reserved => 3 | .range => 4 | .full => 5 | .wrong => 6 | .conflict => 7),
                BitVec.ofNat 8 counter])
      ∧ (f.body = .recall → i.wire.payload = [1])
      ∧ (∀ x, f.body = .hold x → i.wire.payload = (List.range 6).map (fun k => (x >>> (8 * (5 - k))).setWidth 8))
      ∧ (∀ n, f.body = .probe n → i.wire.payload = [BitVec.ofNat 8 n])
      ∧ Settles s t ∧ t = { s with pins := t.pins, line := t.line, notices := t.notices })
  ∧ (∀ (s : State) (i : InFlight) (bit : Nat), s.line.inFlight = some i → bit < 52 → i.wire.bits[bit]? = some true →
    ∃ t, exec (.arbitrationLoss (.bit bit)) s = .next t
      ∧ t.line = { s.line with inFlight := none, rx := .assembling (i.wire.bits.take bit ++ [false]) }
      ∧ (∀ f : RxFrame, t.hears f = true ↔
          s.line.enabled = true ∧ (i.wire.bits.take bit ++ [false]) <+: frameStart f)
      ∧ Settles s t ∧ t = { s with pins := t.pins, line := t.line, notices := t.notices })
  ∧ (∀ (s : State) (f : RxFrame), frameStart f = msbBits 4 (BitVec.ofNat 4 (bodyKind f.body).code) ++ msbBits 48 f.key
      ∧ (s.hears f = false → (∀ m, s.line.rx ≠ .waiting m) → exec (.malformedFrame f) s = .next s))

/-- A bit error ends the attempt: the line error count rises by 8 and stops at 255; the frame's attempt count rises, and at
the fourth the frame leaves the list, the transmit drop count rises and its owner is told: the name an adoption PROBE asked
for becomes UNSENT, an OBJECT's ticket ends, a PING or RECALL order ends with LINE_DOWN; a count of 96 or more enters
LINE_FAULT, which ends a running RECALL with its frame withdrawn; the other frames of the list stay as they are; the rest of
what is on the line is not received, since no start mark is recognised before 2 P after the latest edge, which
`LineErrorsAndRecovery` takes up (R3, R4, R11, R15, R16, R32, R86, R113, R176, R177; the 2 P by the time base, DESIGN CHOICE,
log 22). The numbers by which a report finds its frame are the model's own (DESIGN CHOICE, log 11). -/
def Obligations.BitErrorCountsAttempt : Prop :=
  ∀ (s : State) (i : InFlight) (cause : BitErrorCause), TxArrivalOk s → s.line.inFlight = some i →
    i.isBitError cause = true →
    ∃ t, exec (.bitError cause) s = .next t
      ∧ t.line.errors = min 255 (s.line.errors + 8) ∧ t.line.inFlight = none
      ∧ t.line.rx = (match cause with
          | .endMark => .waiting (s.time.now + BitVec.ofNat 32 (2 * s.linePeriod))
          | _ => .waiting (s.time.now + BitVec.ofNat 32 (3 * s.linePeriod / 2)))
      ∧ t.line.fault = (s.line.fault || decide (96 ≤ t.line.errors))
      ∧ (s.line.fault = false ∧ t.line.fault = true → t.notices.line = true ∧ t.notices.lineSeen = false)
      ∧ (s.line.frame i.tag = none → t.line.txDrops = s.line.txDrops ∧ t.naming = s.naming ∧ t.roster = s.roster)
      ∧ (∀ f, s.line.frame i.tag = some f → f.attempts + 1 < 4 →
          t.line.txDrops = s.line.txDrops ∧ t.naming = s.naming ∧ t.roster = s.roster)
      ∧ (∀ (recallGone : Bool) (list : List TxFrame),
          recallGone = (s.recallRunning && !s.line.fault && decide (96 ≤ t.line.errors)) →
          list = (match s.line.frame i.tag with
            | none => s.line.txList
            | some f =>
              if f.attempts + 1 < 4 then
                s.line.txList.map (fun g => if g.tag = i.tag then { g with attempts := g.attempts + 1 } else g)
              else s.line.txList.filter (fun g => g.tag != i.tag)) →
          t.line.txList = list.filter (fun g => !(recallGone && g.isRecall)))
      ∧ (∀ f, s.line.frame i.tag = some f → 4 ≤ f.attempts + 1 →
          t.line.txDrops = min 65535 (s.line.txDrops + 1)
          ∧ (∀ n, f.ref = .adoptionProbe n → t.naming = s.naming
              ∧ t.roster = { s.roster with asked := s.roster.asked.map (fun a => if a.tag = some i.tag then
                  { a with probe := .unsent, window := none, tag := none } else a) })
          ∧ (∀ x w, f.ref = .claimObjection x w → t.roster = s.roster
              ∧ t.naming = { s.naming with tickets := s.naming.tickets.filter (fun k => k.tag != i.tag) })
          ∧ ((∀ n, f.ref ≠ .adoptionProbe n) → (∀ x w, f.ref ≠ .claimObjection x w) →
              t.roster = s.roster ∧ t.naming = s.naming)
          ∧ (s.pingRunning = true → (∃ n, f.ref = .pingProbe n) →
              t.order.state = .done ∧ t.order.termination = 0xC040)
          ∧ (s.recallRunning = true → f.ref = .none → f.body = .recall →
              t.order.state = .done ∧ t.order.termination = 0xC040))
      ∧ (s.recallRunning = true → s.line.fault = false → 96 ≤ t.line.errors →
          t.order.state = .done ∧ t.order.termination = 0xC040 ∧ t.line.txList.any TxFrame.isRecall = false)
      ∧ (s.recallRunning = false → s.pingRunning = false → t.order = s.order)
      ∧ t.line.foreign = s.line.foreign ∧ t.line.beatSeq = s.line.beatSeq ∧ t.line.stuck = s.line.stuck
      ∧ LevelsFollow t ∧ KeepsPins s t
      ∧ t = { s with pins := t.pins, line := t.line, roster := t.roster, naming := t.naming, notices := t.notices,
                     order := t.order }

/-- A frame sent leaves the list, the line error count falls by one, and its owner acts: an OBJECT marks the claims it bears
on, a PROBE of the roster unit opens its window, one of a running PING arms the PING's, a BEAT advances the own BEAT sequence,
a HOLD changes nothing more (R12, R32, R49, R86, R106, R177). A frame that was withdrawn while in flight brings no report:
only the error count falls, which may end LINE_FAULT (R12, R15, R18, R31). The numbers by which a report finds its frame are
the model's own (DESIGN CHOICE, log 11). The sent mark of a claim is the model's form of its objection state (DEDUCED, log
12). -/
def Obligations.FrameSentIsReported : Prop :=
  (∀ (s : State) (i : InFlight) (f : TxFrame), CensusAgrees s → s.line.inFlight = some i → s.line.frame i.tag = some f →
    f.isRecall = false → f.refFits = true →
    ∃ t, exec .attemptSuccess s = .next t
      ∧ t.line = { s.line with
          inFlight := none, rx := .hunting, errors := s.line.errors - 1,
          fault := s.line.fault && (decide (Config.faultExit ≤ s.line.errors - 1) || s.line.stuck),
          txList := s.line.txList.filter (fun g => g.tag != i.tag),
          beatSeq := if f.body = .beat then s.line.beatSeq + 1 else s.line.beatSeq }
      ∧ t.naming = { s.naming with
          claims := s.naming.claims.map (fun c =>
            if f.objectsTo c.claimant = true then { c with objectSent := true } else c) }
      ∧ t.roster = { s.roster with
          asked := s.roster.asked.map (fun a =>
            if f.isAdoptionProbe = true ∧ a.tag = some f.tag then
              { a with probe := .opened, window := some (s.toolAfter 20000) }
            else a) }
      ∧ t.order = { s.order with
          pingWindow := if f.isPingProbe = true ∧ s.pingRunning = true then some (s.toolAfter 20000)
            else s.order.pingWindow }
      ∧ Settles s t
      ∧ t = { s with pins := t.pins, line := t.line, roster := t.roster, naming := t.naming, notices := t.notices,
                     order := t.order })
  ∧ (∀ (s : State) (i : InFlight), CensusAgrees s → s.line.inFlight = some i → s.line.frame i.tag = none →
    ∃ t, exec .attemptSuccess s = .next t
      ∧ t.line = { s.line with
          inFlight := none, rx := .hunting, errors := s.line.errors - 1,
          fault := s.line.fault && (decide (Config.faultExit ≤ s.line.errors - 1) || s.line.stuck) }
      ∧ Settles s t ∧ t = { s with pins := t.pins, line := t.line, notices := t.notices })

/-- A recall is taken in any line-active census, from another station's RECALL and from the part's own RECALL sent; it ends a
running RECALL order OK, with detail 1 where another station's came first, and leaves a running PING, whose PROBE is offered
again and whose armed window stands (R37, R96, R176, R177). The numbers by which a report finds its frame are the model's own
(DESIGN CHOICE, log 11). -/
def Obligations.RecallReachesEveryOwner : Prop :=
  (∀ (s : State) (key : Key) (reason : Byte), s.hears ⟨key, .recall reason⟩ = true → senderKeyOk key = true →
    s.census.state.lineActive = true → s.line.txList.length ≤ 12 → (s.line.txList.filter TxFrame.isBeat).length ≤ 1 →
    ∃ t, exec (.recallReceived key reason) s = .next t ∧ RecallTaken key.toNat s t
      ∧ (s.recallRunning = true → s.line.txList.any TxFrame.isRecall = true →
          t.order.state = .done ∧ t.order.termination = 0x8000 ∧ t.order.detail = 1)
      ∧ (s.pingRunning = true → s.line.txList.any TxFrame.isPingProbe = true →
          t.order = s.order ∧ t.line.txList.any TxFrame.isPingProbe = true)
      ∧ (s.recallRunning = false → s.line.txList.any TxFrame.isPingProbe = false → t.order = s.order))
  ∧ (∀ (s : State) (i : InFlight) (f : TxFrame), s.census.state.lineActive = true → s.recallRunning = true →
    s.line.inFlight = some i → s.line.frame i.tag = some f → f.body = .recall → TxListOk s →
    ∃ t, exec .attemptSuccess s = .next t ∧ RecallTaken 0 s t
      ∧ t.order.state = .done ∧ t.order.termination = 0x8000 ∧ t.order.detail = 0)

/-- A good frame the part does not know, and one of a known kind that fails its form checks, lower the line error count by
one, which may end LINE_FAULT, raise the foreign count by one up to 65535, and take a POWERING census to GATHERING and, where
the quiet condition holds, on to QUIET. Everything else stays. The form checks are those of R22 and 02 Table 3, kind by kind
(R14, R15, R18, R22, R23, R127, R129). -/
def Obligations.ForeignFramesAreCounted : Prop :=
  (∀ s : State,
    (∀ f : WireFrame, s.mayHear (arbitrationField f.kind f.key) (receivedHalves f.payload.length) = true → fixedLength f.kind.toNat = none →
      f.payload.length ≤ 9 → ∃ t, exec (.foreignFrame f) s = .next t ∧ ForeignCounted s t)
    ∧ (∀ f : RxFrame, s.hears f = true → formOk s.ownIdentity f = false →
      ∃ t, exec (.malformedFrame f) s = .next t ∧ ForeignCounted s t))
  ∧ (∀ (own : Option Identity) (f : RxFrame), formOk own f = true ↔ FormChecks own f)

/-! ### Frames: the roster unit -/

/-- ANNOUNCE from an identity without an entry: with its path passed it joins in the lowest free slot with a claim deadline
and a JOINED record, on a full roster it sets the full latch with one FULL record for each filling, and with its path refused
it brings a PATH_FAULT record only. A refused path from any identity, with an entry or without, is recorded with name 0, that
identity and the path; the entry stays as it was and no deadline is armed. A path passes where it is 0 or held by a NAMED or
SILENT bridge that is not the announcer and not behind it (R74 to R77). -/
def Obligations.AnnounceOfStranger : Prop :=
  (∀ (s : State) (x : Key) (path revision wish : Byte), s.hears ⟨x, .announce path revision wish⟩ = true →
    s.census.state.lineActive = true → formOk s.ownIdentity ⟨x, .announce path revision wish⟩ = true → s.entryOf x = none →
    ∃ t, exec (.announceReceived x path revision wish) s = .next t ∧ t.line = s.line.afterGood ∧ Settles s t
      ∧ (pathOk x path.toNat s = true → ∀ k, s.freeSlot = some k →
          t.roster = { s.roster with
            entries := insertBy (fun g => decide (k < g.slot))
              { slot := k, identity := x, state := .heard, name := none, prior := none, origin := .free,
                path := path.toNat, revision := revision, firstHeard := s.time.now, lastHeard := s.time.now,
                beatSeq := none, gaps := 0, objections := 0, storm := false,
                claimDl := some (s.toolAfter (1000 * s.cfg.claim)), silenceDl := none, lossDl := none }
              s.roster.entries }
          ∧ t.changes = (queueRecord .joined 0 (some x) path.toNat s).changes ∧ CensusReopened s t)
      ∧ (pathOk x path.toNat s = true → s.freeSlot = none →
          t.roster = { s.roster with fullLatch := true }
          ∧ t.changes = (if s.roster.fullLatch then s else queueRecord .full 0 (some x) 0 s).changes
          ∧ CensusCloses s s.censusHeard t)
      ∧ (pathOk x path.toNat s = false →
          t.roster = s.roster ∧ t.changes = (queueRecord .pathFault 0 (some x) path.toNat s).changes
          ∧ CensusCloses s s.censusHeard t)
      ∧ t = { s with pins := t.pins, line := t.line, roster := t.roster, census := t.census, changes := t.changes,
                     notices := t.notices })
  ∧ (∀ (s : State) (x : Key) (path revision wish : Byte), s.hears ⟨x, .announce path revision wish⟩ = true →
    formOk s.ownIdentity ⟨x, .announce path revision wish⟩ = true → pathOk x path.toNat s = false →
    ∃ t, exec (.announceReceived x path revision wish) s = .next t ∧ t.line = s.line.afterGood ∧ Settles s t
      ∧ t.changes = (queueRecord .pathFault 0 (some x) path.toNat s).changes ∧ CensusCloses s s.censusHeard t
      ∧ t = { s with pins := t.pins, line := t.line, census := t.census, changes := t.changes, notices := t.notices })
  ∧ (∀ (s : State) (x : Identity) (p : Name), RosterOk s → (pathOk x p s = true ↔ PathPasses s x p))

/-- ANNOUNCE from an identity with an entry, its path passed: a HEARD entry has its claim deadline re-armed, a CLAIMING one
keeps its claim, a NAMED or SILENT one restarts with a RESTARTED record, and a LOST one returns with a JOINED record; a
restart and a return leave the name, which becomes the prior name and goes from R and I (R78 to R80, R92, R155). A refused
path is in `AnnounceOfStranger`. Said of devices that are no bridges; what a bridge takes with it is in `ReleaseAndItsStage`.
-/
def Obligations.AnnounceOfKnown : Prop :=
  ∀ (s : State) (x : Key) (path revision wish : Byte) (e : Entry),
    s.hears ⟨x, .announce path revision wish⟩ = true → RosterOk s → s.census.state.lineActive = true →
    formOk s.ownIdentity ⟨x, .announce path revision wish⟩ = true →
    pathOk x path.toNat s = true → s.entryOf x = some e → isBridge x = false →
    ∃ t, exec (.announceReceived x path revision wish) s = .next t ∧ t.line = s.line.afterGood ∧ Settles s t
      ∧ (e.state = .heard ∨ e.state = .claiming →
          t.roster = { s.roster with entries := s.roster.entries.map (fun g => if g.identity = x then
            { g with path := path.toNat, revision := revision, lastHeard := s.time.now,
                     claimDl := if e.state = .heard then some (s.toolAfter (1000 * s.cfg.claim)) else g.claimDl }
            else g) }
          ∧ t.changes = s.changes ∧ t.service = s.service ∧ CensusCloses s s.censusHeard t)
      ∧ (e.state = .named ∨ e.state = .silent ∨ e.state = .lost → ∀ n, e.name = some n →
          t.roster = { s.roster with entries := s.roster.entries.map (fun g => if g.identity = x then
            { g with state := .heard, name := none, prior := some n, path := path.toNat, revision := revision,
                     lastHeard := s.time.now, beatSeq := none,
                     claimDl := some (s.toolAfter (1000 * s.cfg.claim)), silenceDl := none, lossDl := none }
            else g) }
          ∧ t.changes = (if e.state = .lost then queueRecord .joined 0 (some x) path.toNat s
              else queueRecord .restarted n (some x) 0 s).changes
          ∧ t.service = { s.service with requests := s.service.requests.filter (fun r => r.name != n),
                                         inService := s.service.inService.filter (fun m => m != n) }
          ∧ CensusReopened s t)
      ∧ t = { s with pins := t.pins, line := t.line, roster := t.roster, census := t.census, service := t.service,
                     changes := t.changes, notices := t.notices }

/-- BEAT and PROBE keyed with a held name refresh its entry: NAMED with its silence deadline re-armed, BACK with a record from
SILENT or LOST; a BEAT also checks the sequence and counts a gap. The entry of a LOST device behind a LOST bridge is left, and
the frame is foreign (R82, R83, R85). -/
def Obligations.FrameOfHolderRefreshes : Prop :=
  ∀ (s : State) (key : Key) (e : Entry), RosterOk s → CensusAgrees s →
    s.census.state ≠ .powering → senderKeyOk key = true → s.holder key.toNat = some e →
    (∀ sequence window : Byte, s.hears ⟨key, .beat sequence window⟩ = true →
      ∃ t, exec (.beatReceived key sequence window) s = .next t
      ∧ (if e.state = .lost ∧ s.behindLost e = true then ForeignCounted s t else
          t.line = s.line.afterGood
          ∧ t.roster = { s.roster with entries := s.roster.entries.map (fun g => if g.identity = e.identity then
              { g with state := .named, lastHeard := s.time.now, claimDl := none,
                       silenceDl := some (s.toolAfter (1000 * s.cfg.silence)), lossDl := none,
                       beatSeq := some sequence,
                       gaps := if g.beatSeq = none ∨ g.beatSeq = some (sequence - 1) then g.gaps
                         else min 255 (g.gaps + 1) }
              else g) }
          ∧ t.changes = (if e.state = .named then s else queueRecord .back key.toNat (some e.identity) 0 s).changes
          ∧ Settles s t
          ∧ t = { s with pins := t.pins, line := t.line, roster := t.roster, changes := t.changes, notices := t.notices }))
    ∧ (∀ target : Byte, s.hears ⟨key, .probe target⟩ = true → 1 ≤ target.toNat → target.toNat ≤ 62 →
      ∃ t, exec (.probeReceived key target) s = .next t
      ∧ (if e.state = .lost ∧ s.behindLost e = true then ForeignCounted s t else
          t.line = s.line.afterGood
          ∧ t.roster = { s.roster with entries := s.roster.entries.map (fun g => if g.identity = e.identity then
              { g with state := .named, lastHeard := s.time.now, claimDl := none,
                       silenceDl := some (s.toolAfter (1000 * s.cfg.silence)), lossDl := none }
              else g) }
          ∧ t.changes = (if e.state = .named then s else queueRecord .back key.toNat (some e.identity) 0 s).changes
          ∧ Settles s t
          ∧ t = { s with pins := t.pins, line := t.line, roster := t.roster, changes := t.changes, notices := t.notices }))

/-- BEAT, PROBE and CALL keyed with a name nobody holds are counted as foreign and change no entry and no request; the name is
asked about once, with a PROBE of the roster unit in the list where there is room, and asked about again while it is UNSENT
(R84, R86). The numbers by which a report finds its frame are the model's own (DESIGN CHOICE, log 11). -/
def Obligations.StrangerIsAsked : Prop :=
  ∀ (s : State) (key : Key), AskedOk s → senderKeyOk key = true → s.holder key.toNat = none →
    ∀ c : Instr, (∃ q w, s.hears ⟨key, .beat q w⟩ = true ∧ c = .beatReceived key q w)
        ∨ (∃ b : Byte, s.hears ⟨key, .probe b⟩ = true ∧ 1 ≤ b.toNat ∧ b.toNat ≤ 62 ∧ c = .probeReceived key b)
        ∨ (∃ b, s.hears ⟨key, .call b⟩ = true ∧ c = .callReceived key b) →
      ∃ t, exec c s = .next t
        ∧ t.line.foreign = min 65535 (s.line.foreign + 1) ∧ t.line.errors = s.line.errors - 1
        ∧ t.roster.entries = s.roster.entries ∧ t.roster.fullLatch = s.roster.fullLatch
        ∧ CensusCloses s s.censusHeard t ∧ Settles s t
        ∧ (s.roster.asked.any (fun a => a.name == key.toNat && a.probe != .unsent) = true →
            t.roster = s.roster ∧ t.line.txList = s.line.txList ∧ t.line.txDrops = s.line.txDrops)
        ∧ (s.roster.asked.all (fun a => a.name != key.toNat) = true → s.line.txList.length < 12 →
            t.roster.asked = s.roster.asked ++
              [{ name := key.toNat, probe := .queued, window := none, tag := some s.line.nextTag }]
            ∧ t.line.txList = insertFrame {
                tag := s.line.nextTag, body := .probe key.toNat, owner := .roster,
                ref := .adoptionProbe key.toNat, attempts := 0, started := false } s.line.txList
            ∧ t.line.txDrops = s.line.txDrops)
        ∧ (s.roster.asked.all (fun a => a.name != key.toNat) = true → s.line.txList.length = 12 →
            t.roster.asked = s.roster.asked ++ [{ name := key.toNat, probe := .unsent, window := none, tag := none }]
            ∧ t.line.txList = s.line.txList ∧ t.line.txDrops = min 65535 (s.line.txDrops + 1))
        ∧ (∀ a ∈ s.roster.asked, a.name = key.toNat → a.probe = .unsent →
            (s.line.txList.length < 12 →
              t.roster.asked = s.roster.asked.map (fun b => if b.name = key.toNat then
                { b with probe := .queued, tag := some s.line.nextTag } else b)
              ∧ t.line.txList = insertFrame {
                  tag := s.line.nextTag, body := .probe key.toNat, owner := .roster,
                  ref := .adoptionProbe key.toNat, attempts := 0, started := false } s.line.txList
              ∧ t.line.txDrops = s.line.txDrops)
            ∧ (s.line.txList.length = 12 →
              t.roster.asked = s.roster.asked.map (fun b => if b.name = key.toNat then { b with tag := none } else b)
              ∧ t.line.txList = s.line.txList ∧ t.line.txDrops = min 65535 (s.line.txDrops + 1)))
        ∧ t = { s with pins := t.pins, line := t.line, roster := t.roster, census := t.census, notices := t.notices }

/-- A PROBE of name 0 is answered with a HOLD of the part's identity, unless one waits already; on a full list the HOLD is
dropped and counted. The sender, whoever it is, is first reported as for any frame keyed by a name: a holder is refreshed, one
LOST behind a LOST bridge makes the frame foreign, and a stranger is asked about, with its own PROBE in the list ahead of the
offer (R24, R25, R82, R84). The numbers by which a report finds its frame are the model's own (DESIGN CHOICE, log 11). -/
def Obligations.ArmEndAnswersProbe : Prop :=
  (∀ (s : State) (key : Key) (v : Setup) (e : Entry), s.hears ⟨key, .probe 0⟩ = true → senderKeyOk key = true →
    s.order.setup = some v → s.holder key.toNat = some e → e.state = .named →
    ∃ t, exec (.probeOfArmEnd key) s = .next t
      ∧ (s.line.txList.any TxFrame.isHold = false → s.line.txList.length < 12 →
          t.line.txList = insertFrame {
            tag := s.line.nextTag, body := .hold v.identity, owner := .line, ref := .none,
            attempts := 0, started := false } s.line.txList
          ∧ t.line.txDrops = s.line.txDrops)
      ∧ (s.line.txList.any TxFrame.isHold = true →
          t.line.txList = s.line.txList ∧ t.line.txDrops = s.line.txDrops)
      ∧ (s.line.txList.any TxFrame.isHold = false → 12 ≤ s.line.txList.length →
          t.line.txList = s.line.txList ∧ t.line.txDrops = min 65535 (s.line.txDrops + 1))
      ∧ t.line.errors = s.line.errors - 1 ∧ t.line.foreign = s.line.foreign
      ∧ t.roster.entries = s.roster.entries.map (fun g => if g.identity = e.identity then
          { g with state := .named, lastHeard := s.time.now, claimDl := none,
                   silenceDl := some (s.toolAfter (1000 * s.cfg.silence)), lossDl := none } else g)
      ∧ t.changes = s.changes ∧ CensusCloses s s.censusHeard t ∧ Settles s t
      ∧ t = { s with pins := t.pins, line := t.line, roster := t.roster, census := t.census, notices := t.notices })
  ∧ (∀ (s : State) (key : Key) (v : Setup), s.hears ⟨key, .probe 0⟩ = true → RosterOk s → AskedOk s →
    senderKeyOk key = true → s.order.setup = some v →
    ∃ t u, exec (.probeOfArmEnd key) s = .next t ∧ Settles s t ∧ SenderReported key.toNat s u
      ∧ (u.line.txList.any TxFrame.isHold = true → t.line = u.line)
      ∧ (u.line.txList.any TxFrame.isHold = false → u.line.txList.length < 12 →
          t.line = { u.line with
            nextTag := u.line.nextTag + 1
            txList := insertFrame {
              tag := u.line.nextTag, body := .hold v.identity, owner := .line, ref := .none, attempts := 0,
              started := false } u.line.txList })
      ∧ (u.line.txList.any TxFrame.isHold = false → 12 ≤ u.line.txList.length →
          t.line = { u.line with txDrops := min 65535 (u.line.txDrops + 1) })
      ∧ CensusCloses s s.censusHeard t
      ∧ t = { u with pins := t.pins, line := t.line, census := t.census, notices := t.notices })

/-- RELEASE of a name by its holder removes the entry with a RELEASED record, frees the name in R and I and clears the full
latch; any other RELEASE is foreign (R93, R95, R155). Said of devices that are no bridges. A device that leaves its name takes
its whole stage with it where it is a bridge (R91, R92): the entries behind it go and the others stay, its own record comes
first, and one record for each entry removed carries that entry's name, identity and path. The records are RELEASED at a
RELEASE, FORGOTTEN at a FORGET, and STALLED at a restart or return by ANNOUNCE or CLAIM and at a conflict demotion by a HOLD
of another name or a heard OBJECT of reason CONFLICT (R79, R80, R88, R94, R107, R115, R120). The sender of that OBJECT,
whoever it is, is reported first, the part's own OBJECTs that R114 names are withdrawn with their tickets, and the objection
is counted ahead of the demotion, with a STORM record at the eighth (R24, R111, R114). The HOLD of another name has its
objection counted whatever becomes of the OBJECT, which on a full list takes the room of a BEAT that is not in flight or is
dropped, either loss counted; a STORM record comes after those of the stage; and a running PING that awaits the HOLD ends with
it (R29, R111, R120, R177). An entry to HEARD reopens the census, and the removal of entries that sought a name may bring the
quiet condition about (R129, R131, R133). A demotion leaves last heard as it stood (DEDUCED, log 18). A CLAIM by a holder, a
bridge or not, is judged on the roster that its restart or return leaves, its path kept (R107 to R112). The transaction is one
step, and its status byte shows the state before it (R169; DESIGN CHOICE, log 8). The numbers by which a report finds its
frame are the model's own (DESIGN CHOICE, log 11). The sent mark of a claim is the model's form of its objection state
(DEDUCED, log 12). -/
def Obligations.ReleaseAndItsStage : Prop :=
  (∀ (s : State) (key : Key) (x : Identity), s.hears ⟨key, .release x⟩ = true → RosterOk s →
    formOk s.ownIdentity ⟨key, .release x⟩ = true →
    (∀ e, s.holder key.toNat = some e → e.identity = x → isBridge x = false →
      ∃ t, exec (.releaseReceived key x) s = .next t
        ∧ t.line = s.line.afterGood
        ∧ t.roster = { s.roster with entries := s.roster.entries.filter (fun g => g.identity != x), fullLatch := false }
        ∧ t.changes = (queueRecord .released key.toNat (some x) 0 s).changes
        ∧ t.service = { s.service with requests := s.service.requests.filter (fun r => r.name != key.toNat),
                                       inService := s.service.inService.filter (fun m => m != key.toNat) }
        ∧ t.naming = { s.naming with claims := s.naming.claims.filter (fun c => c.claimant != x) }
        ∧ CensusCloses s s.censusHeard t ∧ Settles s t
        ∧ t = { s with pins := t.pins, line := t.line, roster := t.roster, naming := t.naming, census := t.census,
                       service := t.service, changes := t.changes, notices := t.notices })
    ∧ ((∀ e, s.holder key.toNat = some e → e.identity ≠ x) →
      ∃ t, exec (.releaseReceived key x) s = .next t ∧ ForeignCounted s t))
  ∧ (∀ (s : State) (e b : Entry), RosterOk s → StagesOk s → e ∈ s.roster.entries → b ∈ s.roster.entries →
    (s.isBehind e b.identity = true ↔
      ∃ d ∈ s.roster.entries, e.path ≠ 0 ∧ d.heldName = some e.path ∧ (d = b ∨ s.isBehind d b.identity = true)))
  ∧ (∀ (s : State) (key : Key) (x : Identity) (e : Entry), s.hears ⟨key, .release x⟩ = true → RosterOk s → StagesOk s →
    ClaimsInStep s → formOk s.ownIdentity ⟨key, .release x⟩ = true → s.holder key.toNat = some e → e.identity = x →
    ∃ t, exec (.releaseReceived key x) s = .next t
      ∧ t.roster.entries = s.roster.entries.filter (fun g => g.identity != x && !s.isBehind g x)
      ∧ t.roster.fullLatch = false ∧ t.roster.asked = s.roster.asked
      ∧ StageLeaves .released x key.toNat s (queueRecord .released key.toNat (some x) 0 s) t
      ∧ t.naming.tickets = s.naming.tickets ∧ t.line = s.line.afterGood ∧ CensusCloses s s.censusHeard t ∧ Settles s t
      ∧ t = { s with pins := t.pins, line := t.line, roster := t.roster, naming := t.naming, census := t.census,
                     service := t.service, changes := t.changes, notices := t.notices })
  ∧ (∀ (s : State) (e : Entry) (n : Name), n = s.order.operand.toNat → s.order.state = .idle → s.order.phase = .run →
    s.order.opcode = 0x14 → RosterOk s → StagesOk s → ClaimsInStep s → 1 ≤ n → n ≤ 62 → s.holder n = some e →
    e.state = .lost →
    ∃ t, exec .forget s = .next t
      ∧ t.roster.entries = s.roster.entries.filter (fun g => g.identity != e.identity && !s.isBehind g e.identity)
      ∧ t.roster.fullLatch = false ∧ t.roster.asked = s.roster.asked
      ∧ StageLeaves .forgotten e.identity n s (queueRecord .forgotten n (some e.identity) 0 s) t
      ∧ (CensusAgrees s → t.census = s.census)
      ∧ t.order = { s.order with state := .done, termination := 0x8000, detail := 0, pingIdentity := none,
                                 pingWindow := none }
      ∧ t.naming.tickets = s.naming.tickets ∧ t.pins.sdo = [statusByte s, 0x00] ∧ KeepsLatched s t ∧ LevelsFollow t
      ∧ t = { s with pins := t.pins, roster := t.roster, naming := t.naming, census := t.census, service := t.service,
                     changes := t.changes, notices := t.notices, order := t.order })
  ∧ (∀ (s : State) (x : Key) (path revision wish : Byte) (e : Entry) (n : Name),
    s.hears ⟨x, .announce path revision wish⟩ = true → RosterOk s → StagesOk s → ClaimsInStep s →
    formOk s.ownIdentity ⟨x, .announce path revision wish⟩ = true → pathOk x path.toNat s = true →
    s.entryOf x = some e → e.heldName = some n →
    ∃ t, exec (.announceReceived x path revision wish) s = .next t
      ∧ t.roster.entries = (s.roster.entries.filter (fun g => !s.isBehind g x)).map (fun g => if g.identity = x then
          { g with state := .heard, name := none, prior := some n, path := path.toNat, revision := revision,
                   lastHeard := s.time.now, beatSeq := none,
                   claimDl := some (s.toolAfter (1000 * s.cfg.claim)), silenceDl := none, lossDl := none }
          else g)
      ∧ StageLeaves .stalled x n s
          (if e.state = .lost then queueRecord .joined 0 (some x) path.toNat s else queueRecord .restarted n (some x) 0 s) t
      ∧ t.roster.fullLatch = (s.roster.fullLatch && (s.stage x).isEmpty)
      ∧ t.roster.asked = s.roster.asked ∧ t.naming.tickets = s.naming.tickets ∧ t.line = s.line.afterGood
      ∧ (s.census.state.lineActive = true → CensusReopened s t) ∧ Settles s t
      ∧ t = { s with pins := t.pins, line := t.line, roster := t.roster, naming := t.naming, census := t.census,
                     service := t.service, changes := t.changes, notices := t.notices })
  ∧ (∀ (s : State) (x : Key) (n tryCount : Byte) (e : Entry) (m : Name), s.hears ⟨x, .claim n tryCount⟩ = true →
    RosterOk s → StagesOk s → ClaimsInStep s → s.census.state.lineActive = true →
    formOk s.ownIdentity ⟨x, .claim n tryCount⟩ = true → s.entryOf x = some e → e.heldName = some m →
    (e.state = .lost → s.behindLost e = false) →
    ∃ t u, exec (.claimReceived x n tryCount) s = .next t ∧ ClaimJudged x n.toNat u t
      ∧ u.roster.entries = (s.roster.entries.filter (fun g => !s.isBehind g x)).map (fun g => if g.identity = x then
          { g with state := .heard, name := none, prior := some m, lastHeard := s.time.now, beatSeq := none,
                   claimDl := some (s.toolAfter (1000 * s.cfg.claim)), silenceDl := none, lossDl := none }
          else g)
      ∧ StageLeaves .stalled x m s
          (if e.state = .lost then queueRecord .joined 0 (some x) e.path s else queueRecord .restarted m (some x) 0 s) u
      ∧ u.roster.fullLatch = (s.roster.fullLatch && (s.stage x).isEmpty)
      ∧ u.roster.asked = s.roster.asked ∧ u.naming.tickets = s.naming.tickets ∧ u.line = s.line.afterGood
      ∧ CensusReopened s u
      ∧ u = { s with line := u.line, roster := u.roster, naming := u.naming, census := u.census, service := u.service,
                     changes := u.changes }
      ∧ Settles s t
      ∧ t = { u with pins := t.pins, line := t.line, roster := t.roster, naming := t.naming, changes := t.changes,
                     notices := t.notices })
  ∧ (∀ (s : State) (key : Key) (x : Identity) (e : Entry) (m : Name), s.hears ⟨key, .hold x⟩ = true →
    RosterOk s → StagesOk s → ClaimsInStep s → formOk s.ownIdentity ⟨key, .hold x⟩ = true →
    s.entryOf x = some e → e.heldName = some m → m ≠ key.toNat → (e.state = .lost → s.behindLost e = false) →
    ∃ t v, exec (.holdReceived key x) s = .next t ∧ HoldAnswersPing key.toNat x s t
      ∧ t.roster.entries = (s.roster.entries.filter (fun g => !s.isBehind g x)).map (fun g => if g.identity = x then
          { g with state := .heard, name := none, prior := some m, beatSeq := none,
                   objections := min 15 (g.objections + 1), storm := g.storm || decide (g.objections + 1 = 8),
                   claimDl := some (s.toolAfter (1000 * s.cfg.claim)), silenceDl := none, lossDl := none }
          else g)
      ∧ StageLeaves .stalled x m s (queueRecord .conflict key.toNat (some x) m s) v
      ∧ v = { s with naming := t.naming, service := t.service, changes := v.changes }
      ∧ t.changes = (if e.objections + 1 = 8 ∧ e.storm = false then queueRecord .storm 0 (some x) 8 v else v).changes
      ∧ t.roster.fullLatch = (s.roster.fullLatch && (s.stage x).isEmpty)
      ∧ t.roster.asked = s.roster.asked.filter (fun a => a.name != key.toNat) ∧ t.naming.tickets = s.naming.tickets
      ∧ HoldDisputed x key.toNat .conflict (t.counterOffer x) s.line.afterGood t.line
      ∧ (s.census.state.lineActive = true → CensusReopened s t) ∧ Settles s t
      ∧ t = { s with pins := t.pins, line := t.line, roster := t.roster, naming := t.naming, census := t.census,
                     service := t.service, changes := t.changes, notices := t.notices, order := t.order })
  ∧ (∀ (s : State) (key : Key) (x : Identity) (d counter : Byte), s.hears ⟨key, .object x d 7 counter⟩ = true →
    RosterOk s → StagesOk s → ClaimsInStep s → AskedOk s → formOk s.ownIdentity ⟨key, .object x d 7 counter⟩ = true →
    ∃ t u, exec (.objectReceived key x d 7 counter) s = .next t ∧ SenderReported key.toNat s u ∧ Settles s t
      ∧ ∀ e, u.holder d.toNat = some e → e.identity = x → (e.state = .lost → u.behindLost e = false) →
        t.roster.entries = (u.roster.entries.filter (fun g => !u.isBehind g x)).map (fun g => if g.identity = x then
          { g with state := .heard, name := none, prior := some d.toNat, beatSeq := none,
                   objections := min 15 (g.objections + 1), storm := g.storm || decide (g.objections + 1 = 8),
                   claimDl := some (s.toolAfter (1000 * s.cfg.claim)), silenceDl := none, lossDl := none }
          else g)
        ∧ (∀ v, v = (if e.objections + 1 = 8 ∧ e.storm = false then queueRecord .storm d.toNat (some x) 8 u else u) →
            StageLeaves .stalled x d.toNat u (queueRecord .conflict d.toNat (some x) 0 v) t)
        ∧ t.line = { u.line with txList := u.line.txList.filter (fun f => !Withdrawn x d.toNat 7 f) }
        ∧ t.naming.tickets = u.naming.tickets.filter
            (fun k => !u.line.txList.any (fun f => Withdrawn x d.toNat 7 f && f.tag == k.tag))
        ∧ t.roster.fullLatch = (u.roster.fullLatch && (u.stage x).isEmpty) ∧ t.roster.asked = u.roster.asked
        ∧ (s.census.state.lineActive = true → CensusReopened s t)
        ∧ t = { u with pins := t.pins, line := t.line, roster := t.roster, naming := t.naming, census := t.census,
                       service := t.service, changes := t.changes, notices := t.notices })

/-! ### Frames: the naming unit and the service unit -/

/-- CLAIM by a HEARD entry: a claim that passes every test of R108 is accepted in silence, with its window and hold deadlines;
one that fails is objected to, with the OBJECT of the failing test, a ticket that runs W where it enters the transmit list,
and the objection counted either way, while the entry stays HEARD (R108 to R112). A CLAIMING entry that claims again gives up
its pending claim, returns to HEARD with its claim deadline armed, and the new claim is judged so. A CLAIM of an entry LOST
behind a LOST bridge is foreign (R107). The CLAIM of a holder is in `ReleaseAndItsStage`, and that of an identity without an
entry in `ClaimOfStrangerJoins`. The numbers by which a report finds its frame are the model's own (DESIGN CHOICE, log 11).
The sent mark of a claim is the model's form of its objection state (DEDUCED, log 12). -/
def Obligations.ClaimIsJudged : Prop :=
  (∀ (s : State) (x : Key) (n tryCount : Byte) (e : Entry), s.hears ⟨x, .claim n tryCount⟩ = true → RosterOk s →
    formOk s.ownIdentity ⟨x, .claim n tryCount⟩ = true → s.entryOf x = some e → e.state = .heard →
    ∃ t, exec (.claimReceived x n tryCount) s = .next t ∧ Settles s t ∧ t.service = s.service ∧ t.time = s.time
      ∧ t.line.errors = s.line.errors - 1 ∧ t.line.foreign = s.line.foreign
      ∧ (claimTest x n.toNat s = none →
          t.roster.entries = s.roster.entries.map (fun g => if g.identity = x then
            { g with state := .claiming, name := some n.toNat, claimDl := none, lastHeard := s.time.now } else g)
          ∧ t.naming = { s.naming with claims := s.naming.claims ++
              [{ claimant := x, name := n.toNat, windowEnd := s.time.now + BitVec.ofNat 32 s.cfg.window,
                 windowEnded := false, hold := s.time.now + BitVec.ofNat 32 (2 * s.cfg.window),
                 objectSent := false }] }
          ∧ t.changes = s.changes ∧ t.line = s.line.afterGood)
      ∧ (∀ reason counter, claimTest x n.toNat s = some (reason, counter) →
          t.naming.claims = s.naming.claims ∧ t.naming.plan = s.naming.plan
          ∧ t.line = (offerFrame (.object x n.toNat reason counter) .naming
              (.claimObjection x (s.time.now + BitVec.ofNat 32 s.cfg.window)) (s.withLine s.line.afterGood)).line
          ∧ (s.line.txList.length < 12 ∨ (∃ g ∈ s.line.txList, g.isBeat = true ∧ s.line.flies g = false) →
              t.naming.tickets = s.naming.tickets ++
                [{ tag := s.line.nextTag, claimant := x, deadline := s.time.now + BitVec.ofNat 32 s.cfg.window }])
          ∧ (12 ≤ s.line.txList.length → (∀ g ∈ s.line.txList, g.isBeat = true → s.line.flies g = true) →
              t.naming.tickets = s.naming.tickets)
          ∧ t.roster.entries = s.roster.entries.map (fun g => if g.identity = x then
              { g with lastHeard := s.time.now, objections := min 15 (g.objections + 1),
                       storm := g.storm || decide (g.objections + 1 = 8) } else g)
          ∧ t.changes = (if e.objections + 1 = 8 ∧ e.storm = false then queueRecord .storm 0 (some x) 8 s else s).changes)
      ∧ t = { s with pins := t.pins, line := t.line, roster := t.roster, naming := t.naming, census := t.census,
                     changes := t.changes, notices := t.notices })
  ∧ (∀ (s : State) (x : Key) (n tryCount : Byte) (e : Entry), s.hears ⟨x, .claim n tryCount⟩ = true → RosterOk s →
    s.census.state.lineActive = true → formOk s.ownIdentity ⟨x, .claim n tryCount⟩ = true → s.entryOf x = some e →
    e.state = .claiming →
    ∃ t u, exec (.claimReceived x n tryCount) s = .next t ∧ ClaimJudged x n.toNat u t
      ∧ u = { s with
          line := s.line.afterGood
          roster := { s.roster with entries := s.roster.entries.map (fun g => if g.identity = x then
            { g with state := .heard, name := none, lastHeard := s.time.now, beatSeq := none,
                     claimDl := some (s.toolAfter (1000 * s.cfg.claim)), silenceDl := none, lossDl := none } else g) }
          naming := { s.naming with claims := s.naming.claims.filter (fun c => c.claimant != x) }
          census := u.census }
      ∧ CensusReopened s u ∧ Settles s t
      ∧ t = { u with pins := t.pins, line := t.line, roster := t.roster, naming := t.naming, changes := t.changes,
                     notices := t.notices })
  ∧ (∀ (s : State) (x : Key) (n tryCount : Byte) (e : Entry), s.hears ⟨x, .claim n tryCount⟩ = true →
    formOk s.ownIdentity ⟨x, .claim n tryCount⟩ = true → s.entryOf x = some e → e.state = .lost → s.behindLost e = true →
    ∃ t, exec (.claimReceived x n tryCount) s = .next t ∧ ForeignCounted s t)

/-- The tests of R108 in their order: out of range, no entry, held, claimed, reserved against the claimant, another name meant
for it, and a full pending list. The first that applies decides the objection, and when none applies the claim is accepted.
Which plan entries stand against an identity, its reservation, when a name is free for it, and its counter-offer are as R101
and R102 say. -/
def Obligations.ClaimTestsInOrder : Prop :=
  ∀ (s : State) (x : Identity) (n : Name),
    (claimTest x n s =
      if n = 0 ∨ n = 63 then some (.range, s.counterOffer x)
      else if ∀ e ∈ s.roster.entries, e.identity ≠ x then some (.full, 0)
      else if ∃ e ∈ s.roster.entries, e.name = some n ∧ (e.state = .named ∨ e.state = .silent ∨ e.state = .lost) then
        some (.taken, s.counterOffer x)
      else if ∃ e ∈ s.roster.entries, e.name = some n ∧ e.state = .claiming then some (.pending, s.counterOffer x)
      else if ∃ p ∈ s.naming.plan, p.name = n ∧ s.naming.standsAgainst x p = true then
        some (.reserved, s.counterOffer x)
      else if s.freeReserved x ≠ none ∧ s.freeReserved x ≠ some n then some (.wrong, (s.freeReserved x).getD 0)
      else if s.freeReserved x = none ∧ s.freePrior x ≠ none ∧ s.freePrior x ≠ some n then
        some (.wrong, (s.freePrior x).getD 0)
      else if 8 ≤ s.naming.claims.length then some (.pending, 0)
      else none)
    ∧ (∀ reason counter, claimTest x n s = some (reason, counter) → judgeClaim x n s = raiseObjection x n reason counter s)
    ∧ (claimTest x n s = none → judgeClaim x n s = acceptClaim x n s)
    ∧ (∀ p : PlanEntry, s.naming.standsAgainst x p = true ↔ StandsAgainst s.naming x p)
    ∧ ReservationFollowsR101 s.naming x ∧ (s.freeFor x n = true ↔ FreeFor s x n) ∧ CounterOfferFollowsR102 s x

/-- CLAIM by an identity without an entry: with a free slot it joins, HEARD or CLAIMING, with a JOINED record of detail 0; on
a full roster a claim for a name of 1 to 62 is objected to with FULL and counter-offer 0. Either way the claim is judged on
the roster that the creation, or its failure, leaves (R74, R75, R107, R108). The numbers by which a report finds its frame are
the model's own (DESIGN CHOICE, log 11). The sent mark of a claim is the model's form of its objection state (DEDUCED, log
12). -/
def Obligations.ClaimOfStrangerJoins : Prop :=
  (∀ (s : State) (x : Key) (n tryCount : Byte), s.hears ⟨x, .claim n tryCount⟩ = true →
    formOk s.ownIdentity ⟨x, .claim n tryCount⟩ = true → s.entryOf x = none →
    ∃ t, exec (.claimReceived x n tryCount) s = .next t ∧ Settles s t
      ∧ (∀ k, s.freeSlot = some k →
          t.changes = (queueRecord .joined 0 (some x) 0 s).changes
          ∧ ∃ e ∈ t.roster.entries, e.slot = k ∧ e.identity = x ∧ e.path = 0 ∧ e.revision = 0
              ∧ (e.state = .heard ∨ (e.state = .claiming ∧ e.name = some n.toNat))
              ∧ t.roster.entries.filter (fun g => g.identity != x) = s.roster.entries)
      ∧ (s.freeSlot = none → 1 ≤ n.toNat → n.toNat ≤ 62 →
          t.roster = { s.roster with fullLatch := true }
          ∧ t.changes = (if s.roster.fullLatch then s else queueRecord .full 0 (some x) 0 s).changes
          ∧ t.naming.claims = s.naming.claims
          ∧ (s.line.txList.length < 12 → t.line.txList = insertFrame
              { tag := s.line.nextTag, body := .object x n.toNat .full 0, owner := .naming,
                ref := .claimObjection x (s.time.now + BitVec.ofNat 32 s.cfg.window), attempts := 0, started := false }
              s.line.txList))
      ∧ t = { s with pins := t.pins, line := t.line, roster := t.roster, naming := t.naming, census := t.census,
                     changes := t.changes, notices := t.notices })
  ∧ (∀ (s : State) (x : Key) (n tryCount : Byte), s.hears ⟨x, .claim n tryCount⟩ = true →
    s.census.state.lineActive = true → formOk s.ownIdentity ⟨x, .claim n tryCount⟩ = true → s.entryOf x = none →
    ∃ t u, exec (.claimReceived x n tryCount) s = .next t ∧ ClaimJudged x n.toNat u t
      ∧ (∀ k, s.freeSlot = some k →
          u.roster = { s.roster with
            entries := insertBy (fun g => decide (k < g.slot))
              { slot := k, identity := x, state := .heard, name := none, prior := none, origin := .free, path := 0,
                revision := 0, firstHeard := s.time.now, lastHeard := s.time.now, beatSeq := none, gaps := 0,
                objections := 0, storm := false, claimDl := some (s.toolAfter (1000 * s.cfg.claim)), silenceDl := none,
                lossDl := none } s.roster.entries }
          ∧ u.changes = (queueRecord .joined 0 (some x) 0 s).changes ∧ CensusReopened s u ∧ t.census = u.census)
      ∧ (s.freeSlot = none →
          u.roster = { s.roster with fullLatch := true }
          ∧ u.changes = (if s.roster.fullLatch then s else queueRecord .full 0 (some x) 0 s).changes
          ∧ CensusCloses s s.censusHeard t)
      ∧ u = { s with line := s.line.afterGood, roster := u.roster, census := u.census, changes := u.changes }
      ∧ Settles s t
      ∧ t = { u with pins := t.pins, line := t.line, roster := t.roster, naming := t.naming, census := t.census,
                     changes := t.changes, notices := t.notices })

/-- OBJECT from another station is acted on after the sender report for the objector: a holder is refreshed, with a BACK
record where it was SILENT or LOST; the frame of a LOST one behind a LOST bridge is foreign; and so is that of a name nobody
holds, which is asked about (R24, R82, R84, R86). Whoever objects, and whether or not the identity has a claim or an entry,
the pending claim falls and its entry returns to HEARD with its prior name as it stood, the part's own OBJECTs against claims
of that identity are withdrawn uncounted with their tickets, an OBJECT disputing a hold of it for the same name is withdrawn
only at reason CONFLICT, and an entry of that identity has the objection counted, with a STORM record at the eighth (R111,
R114). The demotion of a holder of the disputed name, at reason CONFLICT, is in `ReleaseAndItsStage` (R115). A ticket whose
OBJECT is not withdrawn stays. The numbers by which a report finds its frame are the model's own (DESIGN CHOICE, log 11). -/
def Obligations.ObjectDropsClaim : Prop :=
  (∀ (s : State) (key : Key) (x : Identity) (d reason counter : Byte) (o e : Entry) (c : PendingClaim),
    s.hears ⟨key, .object x d reason counter⟩ = true → RosterOk s → ClaimsInStep s →
    formOk s.ownIdentity ⟨key, .object x d reason counter⟩ = true →
    s.holder key.toNat = some o → (o.state = .lost → s.behindLost o = false) → s.claimOf x = some c → s.entryOf x = some e →
    ∃ t, exec (.objectReceived key x d reason counter) s = .next t ∧ Settles s t
      ∧ t.naming.claims = s.naming.claims.filter (fun b => b.claimant != x)
      ∧ t.naming.plan = s.naming.plan
      ∧ (∀ f ∈ t.line.txList, f ∈ s.line.txList ∧ ∀ w, f.ref ≠ .claimObjection x w)
      ∧ (∀ f ∈ s.line.txList, (∀ w, f.ref ≠ .claimObjection x w) → (∀ y, f.ref ≠ .holdObjection y) → f ∈ t.line.txList)
      ∧ t.naming.tickets = s.naming.tickets.filter (fun k =>
          s.line.txList.all (fun f => f.tag != k.tag || t.line.txList.contains f))
      ∧ t.line.txDrops = s.line.txDrops
      ∧ t.entryOf x = some { e with
          state := .heard, name := none, beatSeq := none, claimDl := some (s.toolAfter (1000 * s.cfg.claim)),
          silenceDl := none, lossDl := none, objections := min 15 (e.objections + 1),
          storm := e.storm || decide (e.objections + 1 = 8) }
      ∧ t.roster = { s.roster with entries := s.roster.entries.map (fun g =>
          if g.identity = x then
            { g with state := .heard, name := none, beatSeq := none, claimDl := some (s.toolAfter (1000 * s.cfg.claim)),
                     silenceDl := none, lossDl := none, objections := min 15 (g.objections + 1),
                     storm := g.storm || decide (g.objections + 1 = 8) }
          else if g.identity = o.identity then
            { g with state := .named, lastHeard := s.time.now, claimDl := none,
                     silenceDl := some (s.toolAfter (1000 * s.cfg.silence)), lossDl := none }
          else g) }
      ∧ (∀ u : State, u = (if o.state = .named then s else queueRecord .back key.toNat (some o.identity) 0 s) →
          t.changes = (if e.objections + 1 = 8 ∧ e.storm = false then queueRecord .storm 0 (some x) 8 u else u).changes)
      ∧ t.service = s.service
      ∧ t = { s with pins := t.pins, line := t.line, roster := t.roster, naming := t.naming, census := t.census,
                     changes := t.changes, notices := t.notices })
  ∧ (∀ (s : State) (key : Key) (x : Identity) (d reason counter : Byte),
    s.hears ⟨key, .object x d reason counter⟩ = true → RosterOk s → ClaimsInStep s → AskedOk s →
    formOk s.ownIdentity ⟨key, .object x d reason counter⟩ = true →
    ∃ t u, exec (.objectReceived key x d reason counter) s = .next t ∧ Settles s t ∧ SenderReported key.toNat s u
      ∧ ((reason = 7 → ∀ e, u.holder d.toNat = some e → e.identity = x → e.state = .lost ∧ u.behindLost e = true) →
          ObjectionHeard x d.toNat reason u t
          ∧ (s.claimOf x = none → CensusCloses s s.censusHeard t)
          ∧ (s.claimOf x ≠ none → s.census.state.lineActive = true → CensusReopened s t)
          ∧ t = { u with pins := t.pins, line := t.line, roster := t.roster, naming := t.naming, census := t.census,
                         changes := t.changes, notices := t.notices }))

/-- HOLD of the claimed name after its window, with no objection against the claimant: acceptance. The entry is NAMED with its
silence deadline and origin, the claim is gone, a wildcard entry that reserves the name is bound, and a NAMED record is
queued; origin and binding are as R121 says, and the census goes QUIET where no entry is left that seeks a name (R100, R117,
R121, R129). A HOLD by the entry that already holds the name refreshes it, with a BACK record where it was SILENT or LOST, and
changes neither origin nor prior name (R118). A HOLD by an entry LOST behind a LOST bridge takes the name out of the asked set
and is foreign (R87, R117). A running PING that awaits the HOLD ends with it, and the HOLD is judged as any (R177). -/
def Obligations.HoldIsAccepted : Prop :=
  (∀ (s : State) (key : Key) (x : Identity), s.hears ⟨key, .hold x⟩ = true → RosterOk s →
    formOk s.ownIdentity ⟨key, .hold x⟩ = true → s.acceptable x key.toNat = true →
    ∃ t, exec (.holdReceived key x) s = .next t ∧ Settles s t ∧ HoldAnswersPing key.toNat x s t ∧ t.line = s.line.afterGood
      ∧ t.roster = { s.roster with
          entries := s.roster.entries.map (fun g => if g.identity = x then
            { g with state := .named, name := some key.toNat, prior := none,
                     origin := s.naming.originOf x key.toNat, lastHeard := s.time.now, claimDl := none,
                     silenceDl := some (s.toolAfter (1000 * s.cfg.silence)), lossDl := none } else g)
          asked := s.roster.asked.filter (fun a => a.name != key.toNat) }
      ∧ t.naming = ({ s.naming with claims := s.naming.claims.filter (fun c => c.claimant != x) }).bind x key.toNat
      ∧ OriginAndBinding s.naming x key.toNat (s.naming.originOf x key.toNat) t.naming.plan
      ∧ t.changes = (queueRecord .named key.toNat (some x) 0 s).changes ∧ CensusCloses s s.censusHeard t
      ∧ t = { s with pins := t.pins, line := t.line, roster := t.roster, naming := t.naming, census := t.census,
                     changes := t.changes, notices := t.notices, order := t.order })
  ∧ (∀ (s : State) (key : Key) (x : Identity) (e : Entry), s.hears ⟨key, .hold x⟩ = true → RosterOk s →
    formOk s.ownIdentity ⟨key, .hold x⟩ = true → s.entryOf x = some e →
    e.heldName = some key.toNat → (e.state = .lost → s.behindLost e = false) →
    ∃ t, exec (.holdReceived key x) s = .next t ∧ Settles s t ∧ HoldAnswersPing key.toNat x s t ∧ t.line = s.line.afterGood
      ∧ t.roster = { s.roster with
          entries := s.roster.entries.map (fun g => if g.identity = x then
            { g with state := .named, lastHeard := s.time.now, claimDl := none,
                     silenceDl := some (s.toolAfter (1000 * s.cfg.silence)), lossDl := none } else g)
          asked := s.roster.asked.filter (fun a => a.name != key.toNat) }
      ∧ t.changes = (if e.state = .named then s else queueRecord .back key.toNat (some x) 0 s).changes
      ∧ CensusCloses s s.censusHeard t
      ∧ t = { s with pins := t.pins, line := t.line, roster := t.roster, census := t.census, changes := t.changes,
                     notices := t.notices, order := t.order })
  ∧ (∀ (s : State) (key : Key) (x : Identity) (e : Entry), s.hears ⟨key, .hold x⟩ = true →
    formOk s.ownIdentity ⟨key, .hold x⟩ = true → s.entryOf x = some e → e.state = .lost → s.behindLost e = true →
    ∃ t, exec (.holdReceived key x) s = .next t
      ∧ HoldAnswersPing key.toNat x s t
      ∧ ForeignCounted { s with
          roster := { s.roster with asked := s.roster.asked.filter (fun a => a.name != key.toNat) }
          order := t.order } t)

/-- HOLD of a name free for its sender, from a HEARD entry, from a CLAIMING one whose pending claim is removed first, or from
an identity without an entry: adoption, with an ADOPTED record, origin and binding as R121 says; an identity without an entry
takes the lowest free slot, and on a full roster its hold is disputed with FULL: with room the OBJECT enters the transmit
list, and on a full list it takes the room of a BEAT that is not in flight or is dropped, either loss counted (R29). A running
PING that awaits the HOLD ends with it, and the HOLD is judged as any (R177). An adoption takes a COMPLETE census to QUIET and
counts a quiet period anew (R74, R75, R119, R121, R129, R134). The numbers by which a report finds its frame are the model's
own (DESIGN CHOICE, log 11). -/
def Obligations.HoldIsAdopted : Prop :=
  ∀ (s : State) (key : Key) (x : Identity), s.hears ⟨key, .hold x⟩ = true → RosterOk s →
    formOk s.ownIdentity ⟨key, .hold x⟩ = true → s.freeFor x key.toNat = true →
    (∀ e, s.entryOf x = some e → e.state = .heard ∨ (e.state = .claiming ∧ s.acceptable x key.toNat = false) →
      ∃ t, exec (.holdReceived key x) s = .next t ∧ Settles s t ∧ HoldAnswersPing key.toNat x s t ∧ t.line = s.line.afterGood
        ∧ t.roster = { s.roster with
            entries := s.roster.entries.map (fun g => if g.identity = x then
              { g with state := .named, name := some key.toNat, prior := none,
                       origin := s.naming.originOf x key.toNat, lastHeard := s.time.now, claimDl := none,
                       silenceDl := some (s.toolAfter (1000 * s.cfg.silence)), lossDl := none } else g)
            asked := s.roster.asked.filter (fun a => a.name != key.toNat) }
        ∧ t.naming = { s.naming with claims := s.naming.claims.filter (fun c => c.claimant != x), plan := t.naming.plan }
        ∧ OriginAndBinding s.naming x key.toNat (s.naming.originOf x key.toNat) t.naming.plan
        ∧ t.changes = (queueRecord .adopted key.toNat (some x) 0 s).changes ∧ t.service = s.service
        ∧ CensusCloses s (s.censusAdopted s.censusHeard) t
        ∧ t = { s with pins := t.pins, line := t.line, roster := t.roster, naming := t.naming, census := t.census,
                       changes := t.changes, notices := t.notices, order := t.order })
    ∧ (∀ k, s.entryOf x = none → s.freeSlot = some k →
      ∃ t, exec (.holdReceived key x) s = .next t ∧ Settles s t ∧ HoldAnswersPing key.toNat x s t ∧ t.line = s.line.afterGood
        ∧ t.roster = { s.roster with
            entries := insertBy (fun g => decide (k < g.slot))
              { slot := k, identity := x, state := .named, name := some key.toNat, prior := none,
                origin := s.naming.originOf x key.toNat, path := 0, revision := 0, firstHeard := s.time.now,
                lastHeard := s.time.now, beatSeq := none, gaps := 0, objections := 0, storm := false, claimDl := none,
                silenceDl := some (s.toolAfter (1000 * s.cfg.silence)), lossDl := none } s.roster.entries
            asked := s.roster.asked.filter (fun a => a.name != key.toNat) }
        ∧ t.naming = { s.naming with plan := t.naming.plan }
        ∧ OriginAndBinding s.naming x key.toNat (s.naming.originOf x key.toNat) t.naming.plan
        ∧ t.changes = (queueRecord .adopted key.toNat (some x) 0 s).changes ∧ t.service = s.service
        ∧ CensusCloses s (s.censusAdopted s.censusHeard) t
        ∧ t = { s with pins := t.pins, line := t.line, roster := t.roster, naming := t.naming, census := t.census,
                       changes := t.changes, notices := t.notices, order := t.order })
    ∧ (s.entryOf x = none → s.freeSlot = none →
      ∃ t, exec (.holdReceived key x) s = .next t ∧ Settles s t ∧ HoldAnswersPing key.toNat x s t
        ∧ t.roster.entries = s.roster.entries ∧ t.roster.fullLatch = true
        ∧ HoldDisputed x key.toNat .full 0 s.line.afterGood t.line
        ∧ t.roster.asked = s.roster.asked.filter (fun a => a.name != key.toNat)
        ∧ t.changes = (if s.roster.fullLatch then s else queueRecord .full 0 (some x) 0 s).changes
        ∧ t.naming = s.naming ∧ CensusCloses s s.censusHeard t
        ∧ t = { s with pins := t.pins, line := t.line, roster := t.roster, census := t.census, changes := t.changes,
                       notices := t.notices, order := t.order })

/-- HOLD of a name that is not free for its sender, being held, claimed by another or reserved against it, from an identity
that holds no name: conflict. Every holder and every pending claim of another identity for the name keeps its place, an OBJECT
of reason CONFLICT with the counter-offer is offered without a ticket, on a full list in the room of a BEAT that is not in
flight or to be dropped, either loss counted (R29), and a CONFLICT record is queued. A HEARD entry stays so; a CLAIMING one
loses its pending claim and returns to HEARD; either has the objection counted, whatever becomes of the OBJECT, with a STORM
record last at the eighth; an identity without an entry is given none (R111, R120). That the record of a HEARD or CLAIMING
identity has detail 0 is DEDUCED, log 18. A running PING that awaits the HOLD ends with it, and the HOLD is judged as any
(R177). What a HOLD of another name does to a holder is in `ReleaseAndItsStage`. The numbers by which a report finds its frame
are the model's own (DESIGN CHOICE, log 11). -/
def Obligations.HoldConflicts : Prop :=
  ∀ (s : State) (key : Key) (x : Identity), s.hears ⟨key, .hold x⟩ = true → RosterOk s →
    formOk s.ownIdentity ⟨key, .hold x⟩ = true → s.freeFor x key.toNat = false →
    (∀ e, s.entryOf x = some e → e.state = .heard ∨ (e.state = .claiming ∧ s.acceptable x key.toNat = false
        ∧ s.census.state.lineActive = true) →
      ∃ t, exec (.holdReceived key x) s = .next t ∧ Settles s t ∧ HoldAnswersPing key.toNat x s t
        ∧ t.roster = { s.roster with
            entries := s.roster.entries.map (fun g => if g.identity = x then
              (if e.state = .heard then
                { g with objections := min 15 (g.objections + 1), storm := g.storm || decide (g.objections + 1 = 8) }
              else
                { g with state := .heard, name := none, beatSeq := none, objections := min 15 (g.objections + 1),
                         storm := g.storm || decide (g.objections + 1 = 8),
                         claimDl := some (s.toolAfter (1000 * s.cfg.claim)), silenceDl := none, lossDl := none })
              else g)
            asked := s.roster.asked.filter (fun a => a.name != key.toNat) }
        ∧ HoldDisputed x key.toNat .conflict (t.counterOffer x) s.line.afterGood t.line ∧ t.line.errors = s.line.errors - 1 ∧ t.line.foreign = s.line.foreign
        ∧ t.naming = { s.naming with claims :=
            if e.state = .heard then s.naming.claims else s.naming.claims.filter (fun c => c.claimant != x) }
        ∧ (∀ u, u = queueRecord .conflict key.toNat (some x) 0 s →
            t.changes = (if e.objections + 1 = 8 ∧ e.storm = false then queueRecord .storm 0 (some x) 8 u else u).changes)
        ∧ (e.state = .heard → CensusCloses s s.censusHeard t) ∧ (e.state = .claiming → CensusReopened s t)
        ∧ t = { s with pins := t.pins, line := t.line, roster := t.roster, naming := t.naming, census := t.census,
                       changes := t.changes, notices := t.notices, order := t.order })
    ∧ (s.entryOf x = none →
      ∃ t, exec (.holdReceived key x) s = .next t ∧ Settles s t ∧ HoldAnswersPing key.toNat x s t
        ∧ t.roster = { s.roster with asked := s.roster.asked.filter (fun a => a.name != key.toNat) }
        ∧ HoldDisputed x key.toNat .conflict (t.counterOffer x) s.line.afterGood t.line ∧ t.line.errors = s.line.errors - 1 ∧ t.line.foreign = s.line.foreign
        ∧ t.changes = (queueRecord .conflict key.toNat (some x) 0 s).changes ∧ CensusCloses s s.censusHeard t
        ∧ t = { s with pins := t.pins, line := t.line, roster := t.roster, census := t.census, changes := t.changes,
                       notices := t.notices, order := t.order })

/-- A PING whose window is armed ends with a HOLD of its name: OK with the state code of the holder as the HOLD found it, or 0
where nobody holds the name, where the HOLD carries the recorded identity, MISMATCH with detail 0 otherwise. A HOLD of another
name, or one before the window is armed, leaves the order. In each case the HOLD is judged as any HOLD: what that does to the
roster, the claims, the transmit list and the records is in `HoldIsAccepted`, `HoldIsAdopted`, `HoldConflicts` and
`ReleaseAndItsStage`, none of which asks that no PING run (R117, R177). -/
def Obligations.HoldEndsPing : Prop :=
  (∀ (s : State) (key : Key) (x y : Identity), s.hears ⟨key, .hold x⟩ = true → s.pingRunning = true →
    s.order.pingWindow.isSome = true →
    s.order.operand.toNat = key.toNat → s.order.pingIdentity = some y → formOk s.ownIdentity ⟨key, .hold x⟩ = true →
    ∃ t, exec (.holdReceived key x) s = .next t ∧ t.order.state = .done ∧ t.order.pingWindow = none
      ∧ t.notices.order = true
      ∧ (x = y → t.order.termination = 0x8000
          ∧ ∀ e, s.holder key.toNat = some e → t.order.detail = BitVec.ofNat 8 e.state.code)
      ∧ (x = y → s.holder key.toNat = none → t.order.detail = 0)
      ∧ (x ≠ y → t.order.termination = 0xC100 ∧ t.order.detail = 0))
  ∧ (∀ (s : State) (key : Key) (x : Identity), s.hears ⟨key, .hold x⟩ = true → formOk s.ownIdentity ⟨key, .hold x⟩ = true →
    ∃ t, exec (.holdReceived key x) s = .next t ∧ HoldAnswersPing key.toNat x s t ∧ Settles s t
      ∧ t = { s with pins := t.pins, line := t.line, roster := t.roster, naming := t.naming, census := t.census,
                     service := t.service, changes := t.changes, notices := t.notices, order := t.order })

/-- CALL from a name held by a NAMED or SILENT entry joins R with its cause, or replaces the cause of a waiting request and
sets its overrun mark; I, MK and the bottom name stay. The caller is first reported: a SILENT or LOST one comes BACK and its
CALL is then taken, that of one LOST behind a LOST bridge and of a name nobody holds is foreign and not taken (R24, R82, R84,
R144). The numbers by which a report finds its frame are the model's own (DESIGN CHOICE, log 11). -/
def Obligations.CallJoinsRequests : Prop :=
  (∀ (s : State) (key : Key) (cause : Byte) (e : Entry), s.hears ⟨key, .call cause⟩ = true → RosterOk s →
    senderKeyOk key = true →
    s.holder key.toNat = some e → e.state = .named ∨ e.state = .silent →
    ∃ t, exec (.callReceived key cause) s = .next t ∧ Settles s t ∧ t.line = s.line.afterGood
      ∧ t.service.inService = s.service.inService ∧ t.service.mask = s.service.mask
      ∧ t.service.bottom = s.service.bottom
      ∧ (s.service.requests.any (fun r => r.name == key.toNat) = false →
          t.service.requests = insertBy (fun r => decide (key.toNat < r.name))
            { name := key.toNat, cause := cause, overrun := false } s.service.requests)
      ∧ (s.service.requests.any (fun r => r.name == key.toNat) = true →
          t.service.requests = s.service.requests.map (fun r => if r.name = key.toNat then
            { r with cause := cause, overrun := true } else r))
      ∧ t = { s with pins := t.pins, line := t.line, roster := t.roster, census := t.census, service := t.service,
                     changes := t.changes, notices := t.notices })
  ∧ (∀ (s : State) (key : Key) (cause : Byte), s.hears ⟨key, .call cause⟩ = true → RosterOk s → AskedOk s →
    senderKeyOk key = true →
    ∃ t u, exec (.callReceived key cause) s = .next t ∧ Settles s t ∧ SenderReported key.toNat s u
      ∧ (∀ e, s.holder key.toNat = some e → ¬ (e.state = .lost ∧ s.behindLost e = true) →
          t.service = { s.service with
            requests := if s.service.requests.any (fun r => r.name == key.toNat) = true then
              s.service.requests.map (fun r => if r.name = key.toNat then { r with cause := cause, overrun := true } else r)
            else insertBy (fun r => decide (key.toNat < r.name)) { name := key.toNat, cause := cause, overrun := false }
              s.service.requests })
      ∧ ((∀ e, s.holder key.toNat = some e → e.state = .lost ∧ s.behindLost e = true) → t.service = s.service)
      ∧ CensusCloses s s.censusHeard t
      ∧ t = { u with pins := t.pins, census := t.census, service := t.service, notices := t.notices })

/-! ### Deadlines -/

/-- CLAIM_DEADLINE removes its HEARD entry with a STALLED record; SILENCE_DEADLINE takes a NAMED entry to SILENT with the loss
deadline counted from last heard (R81, R89). LOSS_DEADLINE takes its entry to LOST with a LOST record, its name leaving R and
staying in I; where it is a bridge, the loss runs through its whole stage: the holders behind it, at whatever depth, are LOST
with a LOST record each and leave R, the HEARD and CLAIMING entries are removed with a STALLED record each, and an entry LOST
before is left; the bridge's record comes first, and the others follow in slot order, each bridge's own before the next, with
the name of the bridge above as detail (R90, R91, R95, R154). -/
def Obligations.EntryDeadlinesMoveEntries : Prop :=
  (∀ (s : State) (k : Nat) (e : Entry), RosterOk s → s.entryAt k = some e → s.toolDue e.claimDl = true →
    ∃ t, exec (.claimDeadline k) s = .next t ∧ Settles s t
      ∧ t.roster = { s.roster with entries := s.roster.entries.filter (fun g => g.identity != e.identity),
                                   fullLatch := false }
      ∧ t.changes = (queueRecord .stalled 0 (some e.identity) 0 s).changes ∧ t.service = s.service ∧ t.line = s.line
      ∧ t.naming = { s.naming with claims := s.naming.claims.filter (fun c => c.claimant != e.identity) }
      ∧ CensusCloses s s.census t
      ∧ t = { s with pins := t.pins, roster := t.roster, naming := t.naming, census := t.census, changes := t.changes,
                     notices := t.notices })
  ∧ (∀ (s : State) (k : Nat) (e : Entry) (n : Name), RosterOk s → s.entryAt k = some e → e.name = some n →
    s.toolDue e.silenceDl = true →
    ∃ t, exec (.silenceDeadline k) s = .next t ∧ Settles s t
      ∧ t.roster = { s.roster with entries := s.roster.entries.map (fun g => if g.identity = e.identity then
          { g with state := .silent, silenceDl := none,
                   lossDl := some (g.lastHeard + BitVec.ofNat 32 (s.cfg.loss * (1000 * s.cfg.silence))) } else g) }
      ∧ t.changes = (queueRecord .silent n (some e.identity) 0 s).changes
      ∧ t = { s with pins := t.pins, roster := t.roster, changes := t.changes, notices := t.notices })
  ∧ (∀ (s : State) (k : Nat) (e : Entry) (n : Name), RosterOk s → s.entryAt k = some e → e.name = some n →
    s.toolDue e.lossDl = true →
    ∃ t, exec (.lossDeadline k) s = .next t ∧ Settles s t
      ∧ (∃ g ∈ t.roster.entries, g.identity = e.identity ∧ g.state = .lost ∧ g.name = some n ∧ g.lossDl = none)
      ∧ (∀ r ∈ t.service.requests, r ∈ s.service.requests ∧ r.name ≠ n)
      ∧ (isBridge e.identity = false →
          t.roster.entries = s.roster.entries.map (fun g => if g.identity = e.identity then
            { g with state := .lost, claimDl := none, silenceDl := none, lossDl := none } else g)
          ∧ t.changes = (queueRecord .lost n (some e.identity) 0 s).changes
          ∧ t.service = { s.service with requests := s.service.requests.filter (fun r => r.name != n) })
      ∧ (isBridge e.identity = true → ∀ g ∈ t.roster.entries, g.path = n → g.state = .lost)
      ∧ t.line = s.line ∧ t.time = s.time ∧ t.coupling = s.coupling ∧ t.order = s.order)
  ∧ (∀ (s : State) (k : Nat) (e : Entry) (n : Name), RosterOk s → StagesOk s → ClaimsInStep s → s.entryAt k = some e →
    e.name = some n → s.toolDue e.lossDl = true → isBridge e.identity = true →
    ∃ t, exec (.lossDeadline k) s = .next t ∧ Settles s t ∧ StageIsLost e.identity n s t ∧ CensusCloses s s.census t
      ∧ t = { s with pins := t.pins, roster := t.roster, naming := t.naming, census := t.census, service := t.service,
                     changes := t.changes, notices := t.notices })

/-- OBJECTION_WINDOW_END sets the window-ended mark and nothing else; HOLD_DEADLINE drops the claim and returns its entry to
HEARD with the claim deadline, with no record (R104, R105). PROBE_WINDOW_END takes its name out of the asked set;
PING_PROBE_WINDOW ends a running PING with NO_ANSWER; OBJECTION_TICKET_DEADLINE ends its ticket and withdraws an OBJECT not
yet started, counting a drop (R87, R112, R177). The numbers by which a report finds its frame are the model's own (DESIGN
CHOICE, log 11). -/
def Obligations.WindowDeadlinesEndTheirWatch : Prop :=
  (∀ (s : State) (x : Identity) (c : PendingClaim), s.claimOf x = some c → c.windowEnded = false →
    s.toolDue (some c.windowEnd) = true →
    ∃ t, exec (.objectionWindowEnd x) s = .next t ∧ Settles s t
      ∧ t.naming = { s.naming with claims := s.naming.claims.map (fun d =>
          if d.claimant = x then { d with windowEnded := true } else d) }
      ∧ t = { s with pins := t.pins, naming := t.naming, notices := t.notices })
  ∧ (∀ (s : State) (x : Identity) (c : PendingClaim), s.claimOf x = some c → s.toolDue (some c.hold) = true →
    ∃ t, exec (.holdDeadline x) s = .next t ∧ Settles s t
      ∧ t.naming = { s.naming with claims := s.naming.claims.filter (fun d => d.claimant != x) }
      ∧ t.roster = { s.roster with entries := s.roster.entries.map (fun g => if g.identity = x then
          { g with state := .heard, name := none, beatSeq := none,
                   claimDl := some (s.toolAfter (1000 * s.cfg.claim)), silenceDl := none, lossDl := none } else g) }
      ∧ t = { s with pins := t.pins, naming := t.naming, roster := t.roster, census := t.census, notices := t.notices })
  ∧ (∀ (s : State) (n : Name) (a : Asked), s.roster.asked.find? (fun b => b.name == n) = some a → s.toolDue a.window = true →
    ∃ t, exec (.probeWindowEnd n) s = .next t ∧ Settles s t
      ∧ t.roster = { s.roster with asked := s.roster.asked.filter (fun b => b.name != n) }
      ∧ t = { s with pins := t.pins, roster := t.roster, notices := t.notices })
  ∧ (∀ s : State, s.pingRunning = true → s.toolDue s.order.pingWindow = true →
    ∃ t, exec .pingProbeWindow s = .next t ∧ Settles s t
      ∧ t.order = { s.order with state := .done, termination := 0xC020, detail := 0, pingIdentity := none,
                                 pingWindow := none }
      ∧ t = { s with pins := t.pins, order := t.order, notices := t.notices })
  ∧ (∀ (s : State) (k : Ticket), s.naming.tickets.find? (fun b => b.tag == k.tag) = some k →
    s.toolDue (some k.deadline) = true →
    ∃ t, exec (.objectionTicketDeadline k.tag) s = .next t ∧ Settles s t
      ∧ t.naming = { s.naming with tickets := s.naming.tickets.filter (fun b => b.tag != k.tag) }
      ∧ t.line = (if s.line.txList.any (fun f => f.tag == k.tag && !f.started) then
          { s.line with txList := s.line.txList.filter (fun f => f.tag != k.tag),
                        txDrops := min 65535 (s.line.txDrops + 1) }
        else s.line)
      ∧ t = { s with pins := t.pins, line := t.line, naming := t.naming, notices := t.notices })

/-- The census completes at the first-frame deadline in POWERING and at the quiet deadline in QUIET: the generation advances,
the settling time is taken, the CENSUS flag is set unseen and one CENSUS record carries the count of NAMED entries. The census
deadline takes GATHERING to OVERDUE, and QUIET's return state, with an OVERDUE record (R128, R130, R132). -/
def Obligations.CensusDeadlines : Prop :=
  (∀ (s : State) (c : Instr),
    (c = .firstFrameDeadline ∧ s.toolDue s.census.firstFrame = true ∧ s.census.state = .powering)
      ∨ (c = .quietDeadline ∧ s.toolDue s.census.quiet = true ∧ s.census.state = .quiet) →
    ∃ t, exec c s = .next t
      ∧ t.census = { s.census with
          state := .complete, firstFrame := none, quiet := none, deadline := none,
          generation := s.census.generation + 1, settling := s.time.now - s.coupling.mateCapture }
      ∧ t.changes = (queueRecord .census 0 none (s.roster.entries.filter (fun e => e.state == .named)).length s).changes
      ∧ t.notices.census = true ∧ t.notices.censusSeen = false ∧ t.notices.coupling = s.notices.coupling
      ∧ t.notices.line = s.notices.line ∧ KeepsPins s t ∧ LevelsFollow t
      ∧ t = { s with pins := t.pins, census := t.census, changes := t.changes, notices := t.notices })
  ∧ (∀ s : State, s.toolDue s.census.deadline = true → s.census.state = .gathering →
    ∃ t, exec .censusDeadline s = .next t ∧ Settles s t
      ∧ t.census = { s.census with state := .overdue, deadline := none }
      ∧ t.changes = (queueRecord .overdue 0 none
          (s.roster.entries.filter (fun e => e.state == .heard || e.state == .claiming)).length s).changes
      ∧ t = { s with pins := t.pins, census := t.census, changes := t.changes, notices := t.notices })
  ∧ (∀ s : State, s.toolDue s.census.deadline = true → s.census.state = .quiet →
    ∃ t, exec .censusDeadline s = .next t ∧ Settles s t
      ∧ t.census = { s.census with returnState := .overdue, deadline := none }
      ∧ t.changes = (queueRecord .overdue 0 none 0 s).changes
      ∧ t = { s with pins := t.pins, census := t.census, changes := t.changes, notices := t.notices })

/-! ### The transmit list and the change queue -/

/-- An arriving frame: a BEAT is refused while one is in the list; with fewer than 12 frames it enters behind the frames of
its own and of lower kind code and ahead of those of higher (R27); on a full list an OBJECT displaces a BEAT that is not in
flight, and anything else is dropped; each loss is counted, and the frames kept stay (R28, R29). BEAT_COMPARATOR_MATCH moves
the compare value on by B whatever becomes of the BEAT it offers: inserted with room, refused uncounted while one waits,
dropped and counted on a full list without one; the own BEAT sequence stays (R28, R29, R48, R49). The numbers by which a
report finds its frame are the model's own (DESIGN CHOICE, log 11). -/
def Obligations.OffersAndTheBeatComparator : Prop :=
  (∀ (s : State) (b : TxBody) (owner : Owner) (ref : OwnerRef), TxListOk s →
    (b = .beat → s.line.txList.any TxFrame.isBeat = true → offerFrame b owner ref s = s)
    ∧ ((b ≠ .beat ∨ s.line.txList.any TxFrame.isBeat = false) → s.line.txList.length < 12 →
        (∃ front back, s.line.txList = front ++ back
          ∧ (offerFrame b owner ref s).line.txList = front ++
              { tag := s.line.nextTag, body := b, owner := owner, ref := ref, attempts := 0, started := false } :: back
          ∧ (∀ g ∈ front, g.body.kind.code ≤ b.kind.code) ∧ ∀ g ∈ back, b.kind.code < g.body.kind.code)
        ∧ (offerFrame b owner ref s).line.txDrops = s.line.txDrops)
    ∧ (s.line.txList.length = 12 → b.kind = .object →
        (∀ g ∈ s.line.txList, g.isBeat = true → s.line.flies g = false →
          (∃ front back, s.line.txList.filter (fun f => f.tag != g.tag) = front ++ back
            ∧ (offerFrame b owner ref s).line.txList = front ++
                { tag := s.line.nextTag, body := b, owner := owner, ref := ref, attempts := 0, started := false } :: back
            ∧ (∀ g ∈ front, g.body.kind.code ≤ b.kind.code) ∧ ∀ g ∈ back, b.kind.code < g.body.kind.code)
          ∧ (offerFrame b owner ref s).line.txDrops = min 65535 (s.line.txDrops + 1)
          ∧ (offerFrame b owner ref s).line.beatSeq = s.line.beatSeq)
        ∧ ((∀ g ∈ s.line.txList, g.isBeat = true → s.line.flies g = true) →
          (offerFrame b owner ref s).line = { s.line with txDrops := min 65535 (s.line.txDrops + 1) }))
    ∧ (offerFrame b owner ref s).line.inFlight = s.line.inFlight
    ∧ (s.line.txList.length = 12 → b.kind ≠ .object → b ≠ .beat →
        (offerFrame b owner ref s).line = { s.line with txDrops := min 65535 (s.line.txDrops + 1) }))
  ∧ (∀ (s : State) (v : Time), s.time.beat = some v → s.toolDue (some v) = true →
    ∃ t, exec .beatComparatorMatch s = .next t ∧ Settles s t
      ∧ t.time = { s.time with beat := some (v + BitVec.ofNat 32 (1000 * s.cfg.beat)) }
      ∧ (s.line.txList.any TxFrame.isBeat = true → t.line = s.line)
      ∧ (s.line.txList.any TxFrame.isBeat = false → s.line.txList.length < 12 →
          t.line.txList.any TxFrame.isBeat = true ∧ t.line.txList.length = s.line.txList.length + 1
          ∧ t.line.txDrops = s.line.txDrops)
      ∧ (s.line.txList.any TxFrame.isBeat = false → 12 ≤ s.line.txList.length →
          t.line = { s.line with txDrops := min 65535 (s.line.txDrops + 1) })
      ∧ t.line.beatSeq = s.line.beatSeq
      ∧ t = { s with pins := t.pins, time := t.time, line := t.line, notices := t.notices })

/-- A record with room enters at the tail with the time base and the drop count, which returns to 0; on a full queue it is
lost and counted up to 255, and what the queue holds stays (R158 to R160). -/
def Obligations.RecordEntersOrIsCounted : Prop :=
  ∀ (s : State) (kind : ChangeKind) (name : Name) (identity : Option Identity) (detail : Nat),
    (s.changes.queue.length < 32 → queueRecord kind name identity detail s = { s with
      changes := { queue := s.changes.queue ++ [{ kind := kind, name := name, identity := identity, time := s.time.now,
                                                  detail := detail, droppedBefore := s.changes.drops }],
                   drops := 0 } })
    ∧ (32 ≤ s.changes.queue.length → queueRecord kind name identity detail s = { s with
      changes := { queue := s.changes.queue, drops := min 255 (s.changes.drops + 1) } })
    ∧ (s.changes.drops ≤ 255 → (queueRecord kind name identity detail s).changes.drops ≤ 255)

/-! ### Port commands -/

/-- READ_STATUS, READ_ORDER, READ_SNAPSHOT and a code that names no command change nothing but SDO, which carries the port
status byte and the reply; START ORDER taken while the order is RUNNING or DONE answers BUSY and changes nothing (R169, R171,
R178, R179, R182). LATCH takes the whole copy in FREE and is ignored in LATCHED; RELEASE frees it (R178). The status byte, the
status block, the slot record and the census fields are laid out as 11 Tables 3, 10 and 11 say, the bits of the slot record's
flags that Table 10 leaves open being 0 (DESIGN CHOICE, log 23). A transaction runs the command its bytes spell by 11 Table 4,
where the command reaches the point at which it takes effect: a reply begun, or its last argument byte; cut short before that
it changes nothing but SDO, arguments beyond the command's are ignored, and bytes clocked out beyond its reply, or after a
code that names no command, are 00₁₆ (R169). The transaction is one step, and its status byte shows the state before it (R169;
DESIGN CHOICE, log 8). -/
def Obligations.ReadsAndSnapshot : Prop :=
  (∀ s : State,
    exec .readStatus s = .next { s with pins := { s.pins with sdo := statusByte s :: statusBlock s } }
    ∧ StatusBlockLayout s ∧ StatusByteLayout s ∧ (∀ e : Entry, SlotRecordLayout e)
    ∧ exec .readOrder s = .next { s with pins := { s.pins with sdo :=
        [statusByte s, BitVec.ofNat 8 s.order.state.code, s.order.opcode, s.order.operand,
         (s.order.termination >>> 8).setWidth 8, s.order.termination.setWidth 8, s.order.detail] } }
    ∧ (∀ slot : Byte, ∃ t, exec (.readSnapshot slot) s = .next t
        ∧ t = { s with pins := { s.pins with sdo := t.pins.sdo } } ∧ t.pins.sdo.length = 38
        ∧ (48 ≤ slot.toNat → t.pins.sdo[1]? = some 0x04)
        ∧ (slot.toNat < 48 → s.snapshot.latched = false → t.pins.sdo[1]? = some 0x03)
        ∧ (slot.toNat < 48 → s.snapshot.latched = true → t.pins.sdo[1]? = some 0x00
            ∧ CensusFieldsAt (t.pins.sdo.drop 2) 24 s.snapshot.copy
            ∧ ∀ e, s.snapshot.copy.entries.find? (fun g => g.slot == slot.toNat) = some e →
                (t.pins.sdo.drop 2).take 24 = slotRecord e)
        ∧ (48 ≤ slot.toNat ∨ s.snapshot.latched = false ∨ (∀ g ∈ s.snapshot.copy.entries, g.slot ≠ slot.toNat) →
            (t.pins.sdo.drop 2).take 24 = [0, 0, 0, 0, 0, 0, 0, 63, 63, 0xFF] ++ List.replicate 14 0)
        ∧ (48 ≤ slot.toNat ∨ s.snapshot.latched = false → (t.pins.sdo.drop 26) = List.replicate 12 0))
    ∧ (∀ command : Byte, commandCodes.contains command = false →
        exec (.unknownCommand command) s = .next { s with pins := { s.pins with sdo := [statusByte s] } })
    ∧ (s.order.state ≠ .idle →
        exec .startOrderBusy s = .next { s with pins := { s.pins with sdo := [statusByte s, 0x01] } }))
  ∧ (∀ s : State, s.snapshot.latched = false → exec .latch s = .next { s with
    pins := { s.pins with sdo := [statusByte s, 0x00] },
    snapshot := { latched := true, copy :=
      { entries := s.roster.entries, census := s.census.state, generation := s.census.generation,
        entryCount := s.roster.entries.length, settling := s.census.settling, time := s.time.now } } })
  ∧ (∀ s : State, s.snapshot.latched = true →
      exec .latch s = .next { s with pins := { s.pins with sdo := [statusByte s, 0x02] } })
  ∧ (∀ s : State, exec .release s = .next { s with
      pins := { s.pins with sdo := [statusByte s] }, snapshot := { s.snapshot with latched := false } })
  ∧ (∀ (s : State) (sdi : List Byte) (more : Bool),
      (portEvent s sdi more = none →
        transaction sdi more s =
          .next (if sdi = [] then s else { s with pins := { s.pins with sdo := [statusByte s] } }))
      ∧ (∀ c, portEvent s sdi more = some c → ∃ t u, exec c s = .next t ∧ transaction sdi more s = .next u
        ∧ u = { t with pins := { t.pins with sdo := u.pins.sdo } }
        ∧ u.pins.sdo.length = sdi.length - argumentCount (sdi.headD 0) sdi.tail
        ∧ ∀ i, i < u.pins.sdo.length → u.pins.sdo[i]? = some (t.pins.sdo.getD i 0)))
  ∧ (∀ (s : State) (args : List Byte) (more : Bool), (replied more args = true ↔ more = true ∨ args ≠ [])
      ∧ portEvent s (0x01 :: args) more = (if replied more args then some .readStatus else none)
      ∧ portEvent s (0x02 :: args) more = (if replied more args then some .readNotices else none)
      ∧ portEvent s (0x12 :: args) more = (if replied more args then some .readOrder else none)
      ∧ portEvent s (0x20 :: args) more = (if replied more args then some .latch else none)
      ∧ portEvent s (0x30 :: args) more = (if replied more args then some .readChange else none)
      ∧ portEvent s (0x31 :: args) more = (if replied more args then some .take else none)
      ∧ portEvent s [] more = none
      ∧ (∀ command : Byte, command = 0x03 ∨ command = 0x10 ∨ command = 0x21 ∨ command = 0x32 ∨ command = 0x33 →
          portEvent s [command] more = none)
      ∧ (∀ slot, portEvent s (0x21 :: slot :: args) more = if replied more args then some (.readSnapshot slot) else none)
      ∧ (∀ selection, portEvent s (0x03 :: selection :: args) more = some (.clearNotices selection))
      ∧ (∀ name, portEvent s (0x32 :: name :: args) more = some (if name = 0 then .done0 else .done name))
      ∧ (∀ opcode operand offset count,
          portEvent s (0x10 :: opcode :: operand :: offset :: count :: args) more =
            if min count.toNat 40 ≤ args.length then some (.writeOrder opcode operand offset count args) else none)
      ∧ (args.length < 4 → portEvent s (0x10 :: args) more = none)
      ∧ (args.length < 8 → portEvent s (0x33 :: args) more = none)
      ∧ (8 ≤ args.length → ∃ mask, portEvent s (0x33 :: args) more = some (.setMask mask)
          ∧ ∀ k j, k < 8 → j < 8 → mask.getLsbD (8 * k + j) = (args.getD k 0).getLsbD j)
      ∧ portEvent s (0x11 :: args) more = some (startOrderEvent s.order)
      ∧ portEvent s (0x13 :: args) more = some .retireOrder ∧ portEvent s (0x22 :: args) more = some .release
      ∧ portEvent s (0xA5 :: args) more = some .restart
      ∧ (∀ command : Byte, commandCodes.contains command = false →
          portEvent s (command :: args) more = some (.unknownCommand command)))
  ∧ (∀ o : Order, o.state ≠ .idle → startOrderEvent o = .startOrderBusy)
  ∧ (∀ (o : Order) (c : Instr), o.state = .idle →
      (o.opcode, c) ∈ ([(0x01, .setup), (0x02, .plan), (0x03, .clearPlan), (0x04, .go), (0x10, .park), (0x11, .unpark),
          (0x12, .recall), (0x13, .ping), (0x14, .forget)] : List (Byte × Instr))
        ∨ ((setupOpcodes ++ runOpcodes).contains o.opcode = false ∧ c = .unknownOpcode) →
      startOrderEvent o = c)

/-- READ_NOTICES answers the flags and the enables and marks the latched flags it shows set as seen; CLEAR_NOTICES clears a
selected latched flag exactly where it is set and seen, and ATTN follows (R165 to R167). READ_CHANGE takes the oldest record
out of the queue and answers it in 15 bytes, laid out as 11 Tables 12 and 13 say, the bits of its flags that Table 12 leaves
open being 0 (DESIGN CHOICE, log 23); on an empty queue it answers a NONE record that carries the drop count, which stays
(R161, R182). The transaction is one step, and its status byte shows the state before it (R169; DESIGN CHOICE, log 8). -/
def Obligations.ChangesAndNoticesAreRead : Prop :=
  (∀ s : State, ∃ t, exec .readNotices s = .next t
    ∧ t.pins = { s.pins with sdo := [statusByte s, s.notices.bits, s.order.enables] }
    ∧ t.notices = { s.notices with couplingSeen := s.notices.coupling || s.notices.couplingSeen,
                                   lineSeen := s.notices.line || s.notices.lineSeen,
                                   censusSeen := s.notices.census || s.notices.censusSeen }
    ∧ t = { s with pins := t.pins, notices := t.notices })
  ∧ (∀ (s : State) (selection : Byte), ∃ t, exec (.clearNotices selection) s = .next t
    ∧ t.notices.coupling = (s.notices.coupling && !(selection.getLsbD 3 && s.notices.couplingSeen))
    ∧ t.notices.line = (s.notices.line && !(selection.getLsbD 4 && s.notices.lineSeen))
    ∧ t.notices.census = (s.notices.census && !(selection.getLsbD 5 && s.notices.censusSeen))
    ∧ (t.notices.coupling = true → t.notices.couplingSeen = s.notices.couplingSeen)
    ∧ (t.notices.line = true → t.notices.lineSeen = s.notices.lineSeen)
    ∧ (t.notices.census = true → t.notices.censusSeen = s.notices.censusSeen)
    ∧ LevelsFollow t ∧ t.pins = { s.pins with sdo := [statusByte s], attn := t.pins.attn }
    ∧ t = { s with pins := t.pins, notices := t.notices })
  ∧ (∀ (s : State) (r : ChangeRecord) (rest : List ChangeRecord), s.changes.queue = r :: rest →
    ∃ t, exec .readChange s = .next t ∧ t.changes = { s.changes with queue := rest }
      ∧ t.pins = { s.pins with sdo := statusByte s :: recordBytes r, attn := t.pins.attn }
      ∧ RecordLayout r ∧ KeepsLatched s t ∧ LevelsFollow t
      ∧ t = { s with pins := t.pins, changes := t.changes, notices := t.notices })
  ∧ (∀ s : State, s.changes.queue = [] → exec .readChange s = .next { s with
      pins := { s.pins with sdo := statusByte s :: (List.replicate 14 0 ++ [BitVec.ofNat 8 s.changes.drops]) } })

/-- WRITE_ORDER in IDLE stores opcode, operand and the data bytes from the offset on, discarding those beyond byte 39 and
ignoring those beyond its count, and answers accepted; in RUNNING and DONE it answers BUSY and changes nothing. With fewer
data bytes than its count it is cut short and has no effect (R169). No other command but a reset changes opcode, operand and
data area. RETIRE_ORDER takes DONE to IDLE and clears the ORDER notice with it (R170, R171). The transaction is one step, and
its status byte shows the state before it (R169; DESIGN CHOICE, log 8). -/
def Obligations.OrderRecordWrittenAndRetired : Prop :=
  (∀ (s : State) (opcode operand offset count : Byte) (data : List Byte), min count.toNat 40 ≤ data.length →
    (s.order.state = .idle → s.order.data.length = 40 →
      ∃ t, exec (.writeOrder opcode operand offset count data) s = .next t
        ∧ t.order = { s.order with opcode := opcode, operand := operand, data := t.order.data }
        ∧ t.order.data.length = 40
        ∧ (∀ i, i < 40 → t.order.data[i]? =
            if offset.toNat ≤ i ∧ i < offset.toNat + min count.toNat 40 then data[i - offset.toNat]? else s.order.data[i]?)
        ∧ t.pins = { s.pins with sdo := [statusByte s, 0x00] } ∧ t = { s with pins := t.pins, order := t.order })
    ∧ (s.order.state ≠ .idle → exec (.writeOrder opcode operand offset count data) s
        = .next { s with pins := { s.pins with sdo := [statusByte s, 0x01] } }))
  ∧ (∀ (s : State) (opcode operand offset count : Byte) (data : List Byte), data.length < min count.toNat 40 →
    exec (.writeOrder opcode operand offset count data) s = .next { s with pins := { s.pins with sdo := [statusByte s] } })
  ∧ (State.reset.order.opcode = 0 ∧ State.reset.order.operand = 0 ∧ State.reset.order.data = List.replicate 40 0)
  ∧ (∀ (c : Instr) (s : State), (∀ o p f n d, c ≠ .writeOrder o p f n d) → c ≠ .reset → c ≠ .restart →
    ∃ t, exec c s = .next t ∧ t.order.data = s.order.data ∧ t.order.opcode = s.order.opcode ∧ t.order.operand = s.order.operand)
  ∧ (∀ s : State, s.order.state = .done →
    ∃ t, exec .retireOrder s = .next t ∧ t.order = { s.order with state := .idle } ∧ t.notices.order = false
      ∧ LevelsFollow t ∧ KeepsLatched s t ∧ t.pins = { s.pins with sdo := [statusByte s], attn := t.pins.attn }
      ∧ t = { s with pins := t.pins, order := t.order, notices := t.notices })

/-- The orders of the SETUP phase end in their own event: SETUP stores values that pass every check, and names the first field
that fails; PLAN appends a batch that passes and clashes with nothing, and otherwise leaves the plan and ends BAD_OPERAND,
with detail 0 for the count and the position for an entry, or PLAN_CLASH with detail 0; CLEAR_PLAN empties the plan; GO with
values held starts the RUN phase, in MAKING at once with both mate inputs asserted, and without values ends NO_SETUP (R53,
R99, R173, R174). The setup record and the plan entries are read as 11 Tables 8 and 9 lay them out, and the setup fields are
checked in the order of 10 Table 2 against the ranges of 00 Table 7. The transaction is one step, and its status byte shows
the state before it (R169; DESIGN CHOICE, log 8). -/
def Obligations.SetupOrdersEndAtOnce : Prop :=
  ∀ s : State, s.order.state = .idle → s.order.phase = .setup →
    (s.order.opcode = 0x01 →
      (firstBadField (setupOf s.order.data) = none → ∃ t, exec .setup s = .next t
        ∧ t.order = { s.order with setup := some (setupOf s.order.data), state := .done, termination := 0x8000,
                                   detail := 0, pingIdentity := none, pingWindow := none }
        ∧ OrderEndsAtOnce s t ∧ t.coupling = s.coupling ∧ t.naming = s.naming)
      ∧ (∀ i, firstBadField (setupOf s.order.data) = some i → ∃ t, exec .setup s = .next t
        ∧ t.order = { s.order with state := .done, termination := 0xC002, detail := BitVec.ofNat 8 i,
                                   pingIdentity := none, pingWindow := none }
        ∧ OrderEndsAtOnce s t ∧ t.coupling = s.coupling ∧ t.naming = s.naming))
    ∧ (s.order.opcode = 0x02 → ∀ count, count = (s.order.data.getD 0 0).toNat → 1 ≤ count → count ≤ 4 →
      ∀ batch, batch = (List.range count).map (fun k => planEntryAt s.order.data (k + 1)) →
        batch.all planEntryOk = true → planClash s.naming.plan batch = false →
        ∃ t, exec .plan s = .next t ∧ t.naming = { s.naming with plan := s.naming.plan ++ batch }
          ∧ t.order = { s.order with state := .done, termination := 0x8000, detail := 0, pingIdentity := none,
                                     pingWindow := none }
          ∧ OrderEndsAtOnce s t ∧ t.coupling = s.coupling)
    ∧ (s.order.opcode = 0x02 → ∀ (count : Nat) (batch : List PlanEntry) (mark : BitVec 16) (detail : Byte),
      count = (s.order.data.getD 0 0).toNat →
      batch = (List.range count).map (fun k => planEntryAt s.order.data (k + 1)) →
      ((count = 0 ∨ 5 ≤ count) ∧ mark = 0xC002 ∧ detail = 0)
        ∨ (1 ≤ count ∧ count ≤ 4 ∧ mark = 0xC002 ∧ ∃ front p back, batch = front ++ p :: back
            ∧ front.all planEntryOk = true ∧ planEntryOk p = false ∧ detail = BitVec.ofNat 8 (front.length + 1))
        ∨ (1 ≤ count ∧ count ≤ 4 ∧ batch.all planEntryOk = true ∧ planClash s.naming.plan batch = true ∧ mark = 0xC004
            ∧ detail = 0) →
      ∃ t, exec .plan s = .next t ∧ t.naming = s.naming
        ∧ t.order = { s.order with state := .done, termination := mark, detail := detail, pingIdentity := none,
                                   pingWindow := none }
        ∧ OrderEndsAtOnce s t ∧ t.coupling = s.coupling)
    ∧ SetupRecordLayout s.order.data ∧ (∀ v : Setup, SetupFieldsChecked v) ∧ (∀ k, PlanEntryLayout s.order.data k)
    ∧ (∀ p : PlanEntry, planEntryOk p = true ↔ p.maker ≠ 0x0000 ∧ p.maker ≠ 0xFFFF ∧ 1 ≤ p.name ∧ p.name ≤ 62)
    ∧ (∀ plan batch : List PlanEntry, planClash plan batch = false ↔
        ((plan ++ batch).map (·.name)).Nodup
        ∧ (((plan ++ batch).filter (fun p => !p.wildcard)).map PlanEntry.identity).Nodup
        ∧ (plan ++ batch).length ≤ 32)
    ∧ (s.order.opcode = 0x03 → ∃ t, exec .clearPlan s = .next t ∧ t.naming = { s.naming with plan := [] }
        ∧ t.order = { s.order with state := .done, termination := 0x8000, detail := 0, pingIdentity := none,
                                   pingWindow := none }
        ∧ OrderEndsAtOnce s t ∧ t.coupling = s.coupling)
    ∧ (s.order.opcode = 0x04 →
      (s.order.setup = none → ∃ t, exec .go s = .next t
        ∧ t.order = { s.order with state := .done, termination := 0xC008, detail := 0, pingIdentity := none,
                                   pingWindow := none }
        ∧ OrderEndsAtOnce s t ∧ t.coupling = s.coupling ∧ t.naming = s.naming)
      ∧ (∀ v, s.order.setup = some v → ∃ t, exec .go s = .next t
        ∧ t.order = { s.order with phase := .run, state := .done, termination := 0x8000, detail := 0,
                                   pingIdentity := none, pingWindow := none }
        ∧ OrderEndsAtOnce s t ∧ t.naming = s.naming
        ∧ t.coupling = (if s.pins.mateA = true ∧ s.pins.mateB = true then
            { s.coupling with state := .making, mateCapture := s.time.now,
                              make := some (s.time.now + BitVec.ofNat 32 (1000 * v.make)) }
          else s.coupling)))

/-- An order taken in the wrong phase ends at once with PHASE and an opcode that names no order with UNKNOWN_OP, each with its
error mark as its only effect (R172). The transaction is one step, and its status byte shows the state before it (R169; DESIGN
CHOICE, log 8). -/
def Obligations.OrderChecksPhaseAndOpcode : Prop :=
  ∀ (s : State) (c : Instr) (code : Byte) (mark : BitVec 16), s.order.state = .idle → s.order.opcode = code →
    CensusAgrees s →
    ((s.order.phase = .run ∧ mark = 0xC001
        ∧ ((c, code) = (.setup, 0x01) ∨ (c, code) = (.plan, 0x02) ∨ (c, code) = (.clearPlan, 0x03)
            ∨ (c, code) = (.go, 0x04)))
      ∨ (s.order.phase = .setup ∧ mark = 0xC001
        ∧ ((c, code) = (.park, 0x10) ∨ (c, code) = (.unpark, 0x11) ∨ (c, code) = (.recall, 0x12)
            ∨ (c, code) = (.ping, 0x13) ∨ (c, code) = (.forget, 0x14)))
      ∨ (c = .unknownOpcode ∧ mark = 0xC200 ∧ (setupOpcodes ++ runOpcodes).contains code = false)) →
    ∃ t, exec c s = .next t
      ∧ t.order = { s.order with state := .done, termination := mark, detail := 0, pingIdentity := none,
                                 pingWindow := none }
      ∧ t.notices.order = true ∧ KeepsLatched s t ∧ LevelsFollow t
      ∧ t.pins = { s.pins with sdo := [statusByte s, 0x00], attn := t.pins.attn }
      ∧ t = { s with pins := t.pins, order := t.order, notices := t.notices }

/-- PARK in a coupled or held line-active tool parks it with PARKED, detail 1, and ends OK; UNPARK of a parked coupled tool
switches the supply on, or leaves a ramp under way as it is, and ends OK; elsewhere both end with PHASE (R66, R68, R175). The
transaction is one step, and its status byte shows the state before it (R169; DESIGN CHOICE, log 8). -/
def Obligations.ParkAndUnpark : Prop :=
  ∀ s : State, s.order.state = .idle → s.order.phase = .run →
    (s.order.opcode = 0x10 →
      (s.coupling.state = .coupled ∨ s.coupling.state = .held) → s.census.state.lineActive = true →
      ∃ t, exec .park s = .next t ∧ EmptiesTool .parked s t
        ∧ t.coupling = { s.coupling with supply := .off, settle := none, holdLimit := none }
        ∧ t.changes = (queueRecord .parked 0 none 1 s).changes ∧ KeepsLatched s t
        ∧ t.order = { s.order with state := .done, termination := 0x8000, detail := 0, pingIdentity := none,
                                   pingWindow := none }
        ∧ t.pins.sdo = [statusByte s, 0x00])
    ∧ (s.order.opcode = 0x11 → s.census.state = .parked → s.coupling.state = .coupled →
      ∃ t, exec .unpark s = .next t
        ∧ t.coupling = (if s.coupling.supply = .off then
            { s.coupling with supply := .ramping,
                              settle := some (s.time.now + BitVec.ofNat 32 (1000 * s.cfg.settle)) }
          else s.coupling)
        ∧ t.pins.supplyEn = (s.pins.supplyEn || s.coupling.supply == .off)
        ∧ t.order = { s.order with state := .done, termination := 0x8000, detail := 0, pingIdentity := none,
                                   pingWindow := none }
        ∧ KeepsLatched s t ∧ LevelsFollow t ∧ t.pins.sdo = [statusByte s, 0x00]
        ∧ t = { s with pins := t.pins, coupling := t.coupling, order := t.order, notices := t.notices })
    ∧ (∀ c, (c = .park ∧ s.order.opcode = 0x10 ∧ ((s.coupling.state ≠ .coupled ∧ s.coupling.state ≠ .held)
            ∨ s.census.state.lineActive = false))
          ∨ (c = .unpark ∧ s.order.opcode = 0x11 ∧ (s.census.state ≠ .parked ∨ s.coupling.state ≠ .coupled)) →
      CensusAgrees s →
      ∃ t, exec c s = .next t
        ∧ t.order = { s.order with state := .done, termination := 0xC001, detail := 0, pingIdentity := none,
                                   pingWindow := none }
        ∧ t = { s with pins := t.pins, order := t.order, notices := t.notices })

/-- RECALL in a line-active census outside LINE_FAULT, and PING of a held name, put their frame into a list with room and stay
RUNNING; on a full list both end with LINE_DOWN; RECALL ends with PHASE or LINE_DOWN, PING with BAD_OPERAND where they may not
start (R176, R177). The transaction is one step, and its status byte shows the state before it (R169; DESIGN CHOICE, log 8).
The numbers by which a report finds its frame are the model's own (DESIGN CHOICE, log 11). -/
def Obligations.RecallAndPingStart : Prop :=
  ∀ s : State, s.order.state = .idle → s.order.phase = .run → CensusAgrees s →
    (s.order.opcode = 0x12 →
      (s.census.state.lineActive = true → s.line.fault = false → s.line.txList.length < 12 →
        ∃ t, exec .recall s = .next t
          ∧ t.order = { s.order with state := .running, termination := 0, detail := 0 }
          ∧ t.line = { s.line with
              txList := insertFrame { tag := s.line.nextTag, body := .recall, owner := .order, ref := .none,
                                      attempts := 0, started := false } s.line.txList,
              nextTag := s.line.nextTag + 1 }
          ∧ t.pins.sdo = [statusByte s, 0x00]
          ∧ t = { s with pins := t.pins, line := t.line, order := t.order, notices := t.notices })
      ∧ (s.census.state.lineActive = true → s.line.fault = false → s.line.txList.length = 12 →
        ∃ t, exec .recall s = .next t
          ∧ t.order = { s.order with state := .done, termination := 0xC040, detail := 0, pingIdentity := none,
                                     pingWindow := none }
          ∧ t.line = { s.line with txDrops := min 65535 (s.line.txDrops + 1) }
          ∧ t = { s with pins := t.pins, line := t.line, order := t.order, notices := t.notices })
      ∧ (s.census.state.lineActive = false ∨ s.line.fault = true →
        ∃ t, exec .recall s = .next t
          ∧ t.order = { s.order with state := .done,
                                     termination := if s.census.state.lineActive then 0xC040 else 0xC001, detail := 0,
                                     pingIdentity := none, pingWindow := none }
          ∧ t = { s with pins := t.pins, order := t.order, notices := t.notices }))
    ∧ (s.order.opcode = 0x13 →
      (∀ e, 1 ≤ s.order.operand.toNat → s.order.operand.toNat ≤ 62 → s.holder s.order.operand.toNat = some e →
        s.line.txList.length < 12 →
        ∃ t, exec .ping s = .next t
          ∧ t.order = { s.order with state := .running, termination := 0, detail := 0,
                                     pingIdentity := some e.identity, pingWindow := none }
          ∧ t.line = { s.line with
              txList := insertFrame { tag := s.line.nextTag, body := .probe s.order.operand.toNat, owner := .order,
                                      ref := .pingProbe s.order.operand.toNat, attempts := 0, started := false }
                s.line.txList,
              nextTag := s.line.nextTag + 1 }
          ∧ t.pins.sdo = [statusByte s, 0x00]
          ∧ t = { s with pins := t.pins, line := t.line, order := t.order, notices := t.notices })
      ∧ (∀ e, 1 ≤ s.order.operand.toNat → s.order.operand.toNat ≤ 62 → s.holder s.order.operand.toNat = some e →
        s.line.txList.length = 12 →
        ∃ t, exec .ping s = .next t
          ∧ t.order = { s.order with state := .done, termination := 0xC040, detail := 0, pingIdentity := none,
                                     pingWindow := none }
          ∧ t.line = { s.line with txDrops := min 65535 (s.line.txDrops + 1) }
          ∧ t = { s with pins := t.pins, line := t.line, order := t.order, notices := t.notices })
      ∧ (s.order.operand = 0 ∨ 63 ≤ s.order.operand.toNat ∨ s.holder s.order.operand.toNat = none →
        ∃ t, exec .ping s = .next t
          ∧ t.order = { s.order with state := .done, termination := 0xC002, detail := 0, pingIdentity := none,
                                     pingWindow := none }
          ∧ t = { s with pins := t.pins, order := t.order, notices := t.notices }))

/-- FORGET of a LOST holder removes its entry with a FORGOTTEN record and frees its name in R and I (said of a device that is
no bridge); with any other holder or none it ends NOT_LOST, and with an operand outside 1 to 62 BAD_OPERAND (R94, R95, R175).
The transaction is one step, and its status byte shows the state before it (R169; DESIGN CHOICE, log 8). -/
def Obligations.ForgetRemovesLost : Prop :=
  ∀ s : State, s.order.state = .idle → s.order.phase = .run → s.order.opcode = 0x14 → RosterOk s →
    (∀ e n, n = s.order.operand.toNat → 1 ≤ n → n ≤ 62 → s.holder n = some e → e.state = .lost →
      isBridge e.identity = false →
      ∃ t, exec .forget s = .next t
        ∧ t.roster = { s.roster with entries := s.roster.entries.filter (fun g => g.identity != e.identity),
                                     fullLatch := false }
        ∧ t.changes = (queueRecord .forgotten n (some e.identity) 0 s).changes
        ∧ t.service = { s.service with requests := s.service.requests.filter (fun r => r.name != n),
                                       inService := s.service.inService.filter (fun m => m != n) }
        ∧ t.order = { s.order with state := .done, termination := 0x8000, detail := 0, pingIdentity := none,
                                   pingWindow := none }
        ∧ (CensusAgrees s → ClaimsInStep s → t.census = s.census) ∧ t.line = s.line ∧ t.time = s.time ∧ t.coupling = s.coupling ∧ t.snapshot = s.snapshot
        ∧ t.pins.sdo = [statusByte s, 0x00] ∧ LevelsFollow t)
    ∧ (CensusAgrees s → ∀ n, n = s.order.operand.toNat →
      ((1 ≤ n ∧ n ≤ 62 ∧ ∀ e, s.holder n = some e → e.state ≠ .lost) ∨ n = 0 ∨ 63 ≤ n) →
      ∃ t, exec .forget s = .next t
        ∧ t.order = { s.order with state := .done, termination := if 1 ≤ n ∧ n ≤ 62 then 0xC080 else 0xC002, detail := 0,
                                   pingIdentity := none, pingWindow := none }
        ∧ t = { s with pins := t.pins, order := t.order, notices := t.notices })

/-- TAKE hands out the request of highest priority that is not effectively masked where it outranks every name in service; the
name goes from R into I, or with auto-done and rotation becomes the bottom name; else the answer is 63 and nothing changes
(R146 to R149). The transaction is one step, and its status byte shows the state before it (R169; DESIGN CHOICE, log 8). -/
def Obligations.TakeHandsOutHighest : Prop :=
  (∀ (s : State) (n : Name) (r : Request), s.service.requests.find? (fun q => q.name == n) = some r →
    s.masked n = false →
    (∀ q ∈ s.service.requests, q.name ≠ n → s.masked q.name = false → rank s.service.bottom n < rank s.service.bottom q.name) →
    (∀ m ∈ s.service.inService, rank s.service.bottom n < rank s.service.bottom m) →
    ∃ t, exec .take s = .next t
      ∧ t.service.requests = s.service.requests.filter (fun q => q.name != n) ∧ t.service.mask = s.service.mask
      ∧ (s.cfg.autoDone = false → (∀ m, m ∈ t.service.inService ↔ m = n ∨ m ∈ s.service.inService)
          ∧ t.service.bottom = s.service.bottom)
      ∧ (s.cfg.autoDone = true → t.service.inService = s.service.inService
          ∧ t.service.bottom = if s.cfg.rotation then n else s.service.bottom)
      ∧ t.pins.sdo = [statusByte s, BitVec.ofNat 8 n, r.cause, if r.overrun then 0x01 else 0x00]
      ∧ KeepsLatched s t ∧ LevelsFollow t
      ∧ t = { s with pins := t.pins, service := t.service, notices := t.notices })
  ∧ (∀ s : State, (∀ r ∈ s.service.requests, s.masked r.name = false →
        ∃ m ∈ s.service.inService, rank s.service.bottom m ≤ rank s.service.bottom r.name) →
      exec .take s = .next { s with pins := { s.pins with sdo := [statusByte s, 0x3F, 0x00, 0x00] } })

/-- DONE of a name in service takes it out of I, and DONE 0 the one of highest priority; with rotation on it becomes the
bottom name; R and MK stay. A name not in service, and DONE 0 on an empty I, are answered 63 and change nothing (R151 to
R153). SET_MASK replaces MK in the RUN phase, without the positions of name 0 and name 63, and is refused in the SETUP phase
(R143). The transaction is one step, and its status byte shows the state before it (R169; DESIGN CHOICE, log 8). -/
def Obligations.DoneAndSetMask : Prop :=
  (∀ (s : State) (c : Instr) (n : Name),
    ((∃ b : Byte, c = .done b ∧ b ≠ 0 ∧ b.toNat = n) ∨ (c = .done0 ∧ n ∈ s.service.inService
        ∧ ∀ m ∈ s.service.inService, m ≠ n → rank s.service.bottom n < rank s.service.bottom m)) →
    (n ∈ s.service.inService → ∃ t, exec c s = .next t
      ∧ t.service = { s.service with inService := s.service.inService.filter (fun m => m != n),
                                     bottom := if s.cfg.rotation then n else s.service.bottom }
      ∧ t.pins.sdo = [statusByte s, BitVec.ofNat 8 n, 0x00] ∧ KeepsLatched s t ∧ LevelsFollow t
      ∧ t = { s with pins := t.pins, service := t.service, notices := t.notices })
    ∧ (n ∉ s.service.inService →
      exec c s = .next { s with pins := { s.pins with sdo := [statusByte s, 0x3F, 0x05] } })
    ∧ (s.service.inService = [] →
      exec .done0 s = .next { s with pins := { s.pins with sdo := [statusByte s, 0x3F, 0x05] } }))
  ∧ (∀ (s : State) (mask : BitVec 64),
    (s.order.phase = .run → ∃ t, exec (.setMask mask) s = .next t
      ∧ t.service = { s.service with mask := t.service.mask }
      ∧ (∀ n, n < 64 → t.service.mask.getLsbD n = (mask.getLsbD n && decide (1 ≤ n ∧ n ≤ 62)))
      ∧ t.pins.sdo = [statusByte s, 0x00] ∧ KeepsLatched s t ∧ LevelsFollow t
      ∧ t = { s with pins := t.pins, service := t.service, notices := t.notices })
    ∧ (s.order.phase = .setup →
      exec (.setMask mask) s = .next { s with pins := { s.pins with sdo := [statusByte s, 0x06] } }))
  ∧ (∀ n m : Name, 1 ≤ n → n ≤ 62 → 1 ≤ m → m ≤ 62 → rank n m ≤ rank n n)

/-- The rank of R140 and its use: ranks run from 1 to 62, the bottom name itself ranking 62; a name of lower rank has the
higher priority; and the SERVICE condition, TAKE and DONE 0 all compare ranks under the bottom name as it stands. The SERVICE
condition and TAKE pass over a name that is effectively masked: one that stands in MK, or whose holder is behind, at whatever
depth, an entry whose name does (R142). -/
def Obligations.RanksFollowR140 : Prop :=
  (∀ b p : Name, 1 ≤ b → b ≤ 62 → 1 ≤ p → p ≤ 62 →
    rank b p = (if b < p then p - b else p + 62 - b) ∧ 1 ≤ rank b p ∧ rank b p ≤ 62 ∧ rank b b = 62
    ∧ ∀ q, 1 ≤ q → q ≤ 62 → rank b p = rank b q → p = q)
  ∧ ([1, 5, 9, 10, 14, 30, 31, 62].map (rank 62) = [1, 5, 9, 10, 14, 30, 31, 62]
    ∧ [1, 5, 9, 10, 14, 30, 31, 62].map (rank 9) = [54, 58, 62, 1, 5, 21, 22, 53]
    ∧ [1, 5, 9, 10, 14, 30, 31, 62].map (rank 30) = [33, 37, 41, 42, 46, 62, 1, 32])
  ∧ (∀ (s : State) (n : Name), RosterOk s → (s.masked n = true ↔ s.service.mask.getLsbD n = true
      ∨ ∃ e ∈ s.roster.entries, e.heldName = some n ∧ ∃ b ∈ s.roster.entries, s.isBehind e b.identity = true
        ∧ ∃ m, b.heldName = some m ∧ s.service.mask.getLsbD m = true))
  ∧ (∀ s : State, s.serviceCondition = true ↔ ∃ r ∈ s.service.requests, s.masked r.name = false
      ∧ ∀ m ∈ s.service.inService, rank s.service.bottom r.name < rank s.service.bottom m)
  ∧ (∀ (s : State) (n : Name), s.takeChoice = some n →
      (∃ r ∈ s.service.requests, r.name = n) ∧ s.masked n = false
      ∧ (∀ r ∈ s.service.requests, s.masked r.name = false →
          rank s.service.bottom n ≤ rank s.service.bottom r.name)
      ∧ ∀ m ∈ s.service.inService, rank s.service.bottom n < rank s.service.bottom m)
  ∧ (∀ s : State, s.service.inService ≠ [] → ∃ n ∈ s.service.inService,
      (∀ m ∈ s.service.inService, rank s.service.bottom n ≤ rank s.service.bottom m)
      ∧ ∃ t, exec .done0 s = .next t ∧ t.service.inService = s.service.inService.filter (fun m => m != n))
end

