-- ==== Sys2Proof/Laws/State.lean ====
section
/-! SUPPORT. One lemma per block per block update, all by rfl, so that no proof unfolds a record update. -/

namespace Sys2Proof.Machine

/-! ### `withPins` for pins -/

@[simp] theorem State.withPins_pins (s : State) (x : Pins) : (s.withPins x).pins = x := rfl
@[simp] theorem State.withPins_time (s : State) (x : Pins) : (s.withPins x).time = s.time := rfl
@[simp] theorem State.withPins_line (s : State) (x : Pins) : (s.withPins x).line = s.line := rfl
@[simp] theorem State.withPins_coupling (s : State) (x : Pins) : (s.withPins x).coupling = s.coupling := rfl
@[simp] theorem State.withPins_roster (s : State) (x : Pins) : (s.withPins x).roster = s.roster := rfl
@[simp] theorem State.withPins_naming (s : State) (x : Pins) : (s.withPins x).naming = s.naming := rfl
@[simp] theorem State.withPins_census (s : State) (x : Pins) : (s.withPins x).census = s.census := rfl
@[simp] theorem State.withPins_service (s : State) (x : Pins) : (s.withPins x).service = s.service := rfl
@[simp] theorem State.withPins_changes (s : State) (x : Pins) : (s.withPins x).changes = s.changes := rfl
@[simp] theorem State.withPins_notices (s : State) (x : Pins) : (s.withPins x).notices = s.notices := rfl
@[simp] theorem State.withPins_order (s : State) (x : Pins) : (s.withPins x).order = s.order := rfl
@[simp] theorem State.withPins_snapshot (s : State) (x : Pins) : (s.withPins x).snapshot = s.snapshot := rfl
@[simp] theorem State.withPins_draws (s : State) (x : Pins) : (s.withPins x).draws = s.draws := rfl
@[simp] theorem State.withPins_pending (s : State) (x : Pins) : (s.withPins x).pending = s.pending := rfl
@[simp] theorem State.withPins_withPins (s : State) (x y : Pins) : (s.withPins x).withPins y = s.withPins y := rfl
@[simp] theorem State.withPins_self (s : State) : s.withPins s.pins = s := rfl

/-! ### `withTime` for time -/

@[simp] theorem State.withTime_pins (s : State) (x : TimeBase) : (s.withTime x).pins = s.pins := rfl
@[simp] theorem State.withTime_time (s : State) (x : TimeBase) : (s.withTime x).time = x := rfl
@[simp] theorem State.withTime_line (s : State) (x : TimeBase) : (s.withTime x).line = s.line := rfl
@[simp] theorem State.withTime_coupling (s : State) (x : TimeBase) : (s.withTime x).coupling = s.coupling := rfl
@[simp] theorem State.withTime_roster (s : State) (x : TimeBase) : (s.withTime x).roster = s.roster := rfl
@[simp] theorem State.withTime_naming (s : State) (x : TimeBase) : (s.withTime x).naming = s.naming := rfl
@[simp] theorem State.withTime_census (s : State) (x : TimeBase) : (s.withTime x).census = s.census := rfl
@[simp] theorem State.withTime_service (s : State) (x : TimeBase) : (s.withTime x).service = s.service := rfl
@[simp] theorem State.withTime_changes (s : State) (x : TimeBase) : (s.withTime x).changes = s.changes := rfl
@[simp] theorem State.withTime_notices (s : State) (x : TimeBase) : (s.withTime x).notices = s.notices := rfl
@[simp] theorem State.withTime_order (s : State) (x : TimeBase) : (s.withTime x).order = s.order := rfl
@[simp] theorem State.withTime_snapshot (s : State) (x : TimeBase) : (s.withTime x).snapshot = s.snapshot := rfl
@[simp] theorem State.withTime_draws (s : State) (x : TimeBase) : (s.withTime x).draws = s.draws := rfl
@[simp] theorem State.withTime_pending (s : State) (x : TimeBase) : (s.withTime x).pending = s.pending := rfl
@[simp] theorem State.withTime_withTime (s : State) (x y : TimeBase) : (s.withTime x).withTime y = s.withTime y := rfl
@[simp] theorem State.withTime_self (s : State) : s.withTime s.time = s := rfl

/-! ### `withLine` for line -/

@[simp] theorem State.withLine_pins (s : State) (x : Line) : (s.withLine x).pins = s.pins := rfl
@[simp] theorem State.withLine_time (s : State) (x : Line) : (s.withLine x).time = s.time := rfl
@[simp] theorem State.withLine_line (s : State) (x : Line) : (s.withLine x).line = x := rfl
@[simp] theorem State.withLine_coupling (s : State) (x : Line) : (s.withLine x).coupling = s.coupling := rfl
@[simp] theorem State.withLine_roster (s : State) (x : Line) : (s.withLine x).roster = s.roster := rfl
@[simp] theorem State.withLine_naming (s : State) (x : Line) : (s.withLine x).naming = s.naming := rfl
@[simp] theorem State.withLine_census (s : State) (x : Line) : (s.withLine x).census = s.census := rfl
@[simp] theorem State.withLine_service (s : State) (x : Line) : (s.withLine x).service = s.service := rfl
@[simp] theorem State.withLine_changes (s : State) (x : Line) : (s.withLine x).changes = s.changes := rfl
@[simp] theorem State.withLine_notices (s : State) (x : Line) : (s.withLine x).notices = s.notices := rfl
@[simp] theorem State.withLine_order (s : State) (x : Line) : (s.withLine x).order = s.order := rfl
@[simp] theorem State.withLine_snapshot (s : State) (x : Line) : (s.withLine x).snapshot = s.snapshot := rfl
@[simp] theorem State.withLine_draws (s : State) (x : Line) : (s.withLine x).draws = s.draws := rfl
@[simp] theorem State.withLine_pending (s : State) (x : Line) : (s.withLine x).pending = s.pending := rfl
@[simp] theorem State.withLine_withLine (s : State) (x y : Line) : (s.withLine x).withLine y = s.withLine y := rfl
@[simp] theorem State.withLine_self (s : State) : s.withLine s.line = s := rfl

/-! ### `withCoupling` for coupling -/

@[simp] theorem State.withCoupling_pins (s : State) (x : Coupling) : (s.withCoupling x).pins = s.pins := rfl
@[simp] theorem State.withCoupling_time (s : State) (x : Coupling) : (s.withCoupling x).time = s.time := rfl
@[simp] theorem State.withCoupling_line (s : State) (x : Coupling) : (s.withCoupling x).line = s.line := rfl
@[simp] theorem State.withCoupling_coupling (s : State) (x : Coupling) : (s.withCoupling x).coupling = x := rfl
@[simp] theorem State.withCoupling_roster (s : State) (x : Coupling) : (s.withCoupling x).roster = s.roster := rfl
@[simp] theorem State.withCoupling_naming (s : State) (x : Coupling) : (s.withCoupling x).naming = s.naming := rfl
@[simp] theorem State.withCoupling_census (s : State) (x : Coupling) : (s.withCoupling x).census = s.census := rfl
@[simp] theorem State.withCoupling_service (s : State) (x : Coupling) : (s.withCoupling x).service = s.service := rfl
@[simp] theorem State.withCoupling_changes (s : State) (x : Coupling) : (s.withCoupling x).changes = s.changes := rfl
@[simp] theorem State.withCoupling_notices (s : State) (x : Coupling) : (s.withCoupling x).notices = s.notices := rfl
@[simp] theorem State.withCoupling_order (s : State) (x : Coupling) : (s.withCoupling x).order = s.order := rfl
@[simp] theorem State.withCoupling_snapshot (s : State) (x : Coupling) : (s.withCoupling x).snapshot = s.snapshot := rfl
@[simp] theorem State.withCoupling_draws (s : State) (x : Coupling) : (s.withCoupling x).draws = s.draws := rfl
@[simp] theorem State.withCoupling_pending (s : State) (x : Coupling) : (s.withCoupling x).pending = s.pending := rfl
@[simp] theorem State.withCoupling_withCoupling (s : State) (x y : Coupling) : (s.withCoupling x).withCoupling y = s.withCoupling y := rfl
@[simp] theorem State.withCoupling_self (s : State) : s.withCoupling s.coupling = s := rfl

/-! ### `withRoster` for roster -/

@[simp] theorem State.withRoster_pins (s : State) (x : Roster) : (s.withRoster x).pins = s.pins := rfl
@[simp] theorem State.withRoster_time (s : State) (x : Roster) : (s.withRoster x).time = s.time := rfl
@[simp] theorem State.withRoster_line (s : State) (x : Roster) : (s.withRoster x).line = s.line := rfl
@[simp] theorem State.withRoster_coupling (s : State) (x : Roster) : (s.withRoster x).coupling = s.coupling := rfl
@[simp] theorem State.withRoster_roster (s : State) (x : Roster) : (s.withRoster x).roster = x := rfl
@[simp] theorem State.withRoster_naming (s : State) (x : Roster) : (s.withRoster x).naming = s.naming := rfl
@[simp] theorem State.withRoster_census (s : State) (x : Roster) : (s.withRoster x).census = s.census := rfl
@[simp] theorem State.withRoster_service (s : State) (x : Roster) : (s.withRoster x).service = s.service := rfl
@[simp] theorem State.withRoster_changes (s : State) (x : Roster) : (s.withRoster x).changes = s.changes := rfl
@[simp] theorem State.withRoster_notices (s : State) (x : Roster) : (s.withRoster x).notices = s.notices := rfl
@[simp] theorem State.withRoster_order (s : State) (x : Roster) : (s.withRoster x).order = s.order := rfl
@[simp] theorem State.withRoster_snapshot (s : State) (x : Roster) : (s.withRoster x).snapshot = s.snapshot := rfl
@[simp] theorem State.withRoster_draws (s : State) (x : Roster) : (s.withRoster x).draws = s.draws := rfl
@[simp] theorem State.withRoster_pending (s : State) (x : Roster) : (s.withRoster x).pending = s.pending := rfl
@[simp] theorem State.withRoster_withRoster (s : State) (x y : Roster) : (s.withRoster x).withRoster y = s.withRoster y := rfl
@[simp] theorem State.withRoster_self (s : State) : s.withRoster s.roster = s := rfl

/-! ### `withNaming` for naming -/

@[simp] theorem State.withNaming_pins (s : State) (x : Naming) : (s.withNaming x).pins = s.pins := rfl
@[simp] theorem State.withNaming_time (s : State) (x : Naming) : (s.withNaming x).time = s.time := rfl
@[simp] theorem State.withNaming_line (s : State) (x : Naming) : (s.withNaming x).line = s.line := rfl
@[simp] theorem State.withNaming_coupling (s : State) (x : Naming) : (s.withNaming x).coupling = s.coupling := rfl
@[simp] theorem State.withNaming_roster (s : State) (x : Naming) : (s.withNaming x).roster = s.roster := rfl
@[simp] theorem State.withNaming_naming (s : State) (x : Naming) : (s.withNaming x).naming = x := rfl
@[simp] theorem State.withNaming_census (s : State) (x : Naming) : (s.withNaming x).census = s.census := rfl
@[simp] theorem State.withNaming_service (s : State) (x : Naming) : (s.withNaming x).service = s.service := rfl
@[simp] theorem State.withNaming_changes (s : State) (x : Naming) : (s.withNaming x).changes = s.changes := rfl
@[simp] theorem State.withNaming_notices (s : State) (x : Naming) : (s.withNaming x).notices = s.notices := rfl
@[simp] theorem State.withNaming_order (s : State) (x : Naming) : (s.withNaming x).order = s.order := rfl
@[simp] theorem State.withNaming_snapshot (s : State) (x : Naming) : (s.withNaming x).snapshot = s.snapshot := rfl
@[simp] theorem State.withNaming_draws (s : State) (x : Naming) : (s.withNaming x).draws = s.draws := rfl
@[simp] theorem State.withNaming_pending (s : State) (x : Naming) : (s.withNaming x).pending = s.pending := rfl
@[simp] theorem State.withNaming_withNaming (s : State) (x y : Naming) : (s.withNaming x).withNaming y = s.withNaming y := rfl
@[simp] theorem State.withNaming_self (s : State) : s.withNaming s.naming = s := rfl

/-! ### `withCensus` for census -/

@[simp] theorem State.withCensus_pins (s : State) (x : Census) : (s.withCensus x).pins = s.pins := rfl
@[simp] theorem State.withCensus_time (s : State) (x : Census) : (s.withCensus x).time = s.time := rfl
@[simp] theorem State.withCensus_line (s : State) (x : Census) : (s.withCensus x).line = s.line := rfl
@[simp] theorem State.withCensus_coupling (s : State) (x : Census) : (s.withCensus x).coupling = s.coupling := rfl
@[simp] theorem State.withCensus_roster (s : State) (x : Census) : (s.withCensus x).roster = s.roster := rfl
@[simp] theorem State.withCensus_naming (s : State) (x : Census) : (s.withCensus x).naming = s.naming := rfl
@[simp] theorem State.withCensus_census (s : State) (x : Census) : (s.withCensus x).census = x := rfl
@[simp] theorem State.withCensus_service (s : State) (x : Census) : (s.withCensus x).service = s.service := rfl
@[simp] theorem State.withCensus_changes (s : State) (x : Census) : (s.withCensus x).changes = s.changes := rfl
@[simp] theorem State.withCensus_notices (s : State) (x : Census) : (s.withCensus x).notices = s.notices := rfl
@[simp] theorem State.withCensus_order (s : State) (x : Census) : (s.withCensus x).order = s.order := rfl
@[simp] theorem State.withCensus_snapshot (s : State) (x : Census) : (s.withCensus x).snapshot = s.snapshot := rfl
@[simp] theorem State.withCensus_draws (s : State) (x : Census) : (s.withCensus x).draws = s.draws := rfl
@[simp] theorem State.withCensus_pending (s : State) (x : Census) : (s.withCensus x).pending = s.pending := rfl
@[simp] theorem State.withCensus_withCensus (s : State) (x y : Census) : (s.withCensus x).withCensus y = s.withCensus y := rfl
@[simp] theorem State.withCensus_self (s : State) : s.withCensus s.census = s := rfl

/-! ### `withService` for service -/

@[simp] theorem State.withService_pins (s : State) (x : Service) : (s.withService x).pins = s.pins := rfl
@[simp] theorem State.withService_time (s : State) (x : Service) : (s.withService x).time = s.time := rfl
@[simp] theorem State.withService_line (s : State) (x : Service) : (s.withService x).line = s.line := rfl
@[simp] theorem State.withService_coupling (s : State) (x : Service) : (s.withService x).coupling = s.coupling := rfl
@[simp] theorem State.withService_roster (s : State) (x : Service) : (s.withService x).roster = s.roster := rfl
@[simp] theorem State.withService_naming (s : State) (x : Service) : (s.withService x).naming = s.naming := rfl
@[simp] theorem State.withService_census (s : State) (x : Service) : (s.withService x).census = s.census := rfl
@[simp] theorem State.withService_service (s : State) (x : Service) : (s.withService x).service = x := rfl
@[simp] theorem State.withService_changes (s : State) (x : Service) : (s.withService x).changes = s.changes := rfl
@[simp] theorem State.withService_notices (s : State) (x : Service) : (s.withService x).notices = s.notices := rfl
@[simp] theorem State.withService_order (s : State) (x : Service) : (s.withService x).order = s.order := rfl
@[simp] theorem State.withService_snapshot (s : State) (x : Service) : (s.withService x).snapshot = s.snapshot := rfl
@[simp] theorem State.withService_draws (s : State) (x : Service) : (s.withService x).draws = s.draws := rfl
@[simp] theorem State.withService_pending (s : State) (x : Service) : (s.withService x).pending = s.pending := rfl
@[simp] theorem State.withService_withService (s : State) (x y : Service) : (s.withService x).withService y = s.withService y := rfl
@[simp] theorem State.withService_self (s : State) : s.withService s.service = s := rfl

/-! ### `withChanges` for changes -/

@[simp] theorem State.withChanges_pins (s : State) (x : Changes) : (s.withChanges x).pins = s.pins := rfl
@[simp] theorem State.withChanges_time (s : State) (x : Changes) : (s.withChanges x).time = s.time := rfl
@[simp] theorem State.withChanges_line (s : State) (x : Changes) : (s.withChanges x).line = s.line := rfl
@[simp] theorem State.withChanges_coupling (s : State) (x : Changes) : (s.withChanges x).coupling = s.coupling := rfl
@[simp] theorem State.withChanges_roster (s : State) (x : Changes) : (s.withChanges x).roster = s.roster := rfl
@[simp] theorem State.withChanges_naming (s : State) (x : Changes) : (s.withChanges x).naming = s.naming := rfl
@[simp] theorem State.withChanges_census (s : State) (x : Changes) : (s.withChanges x).census = s.census := rfl
@[simp] theorem State.withChanges_service (s : State) (x : Changes) : (s.withChanges x).service = s.service := rfl
@[simp] theorem State.withChanges_changes (s : State) (x : Changes) : (s.withChanges x).changes = x := rfl
@[simp] theorem State.withChanges_notices (s : State) (x : Changes) : (s.withChanges x).notices = s.notices := rfl
@[simp] theorem State.withChanges_order (s : State) (x : Changes) : (s.withChanges x).order = s.order := rfl
@[simp] theorem State.withChanges_snapshot (s : State) (x : Changes) : (s.withChanges x).snapshot = s.snapshot := rfl
@[simp] theorem State.withChanges_draws (s : State) (x : Changes) : (s.withChanges x).draws = s.draws := rfl
@[simp] theorem State.withChanges_pending (s : State) (x : Changes) : (s.withChanges x).pending = s.pending := rfl
@[simp] theorem State.withChanges_withChanges (s : State) (x y : Changes) : (s.withChanges x).withChanges y = s.withChanges y := rfl
@[simp] theorem State.withChanges_self (s : State) : s.withChanges s.changes = s := rfl

/-! ### `withNotices` for notices -/

@[simp] theorem State.withNotices_pins (s : State) (x : Notices) : (s.withNotices x).pins = s.pins := rfl
@[simp] theorem State.withNotices_time (s : State) (x : Notices) : (s.withNotices x).time = s.time := rfl
@[simp] theorem State.withNotices_line (s : State) (x : Notices) : (s.withNotices x).line = s.line := rfl
@[simp] theorem State.withNotices_coupling (s : State) (x : Notices) : (s.withNotices x).coupling = s.coupling := rfl
@[simp] theorem State.withNotices_roster (s : State) (x : Notices) : (s.withNotices x).roster = s.roster := rfl
@[simp] theorem State.withNotices_naming (s : State) (x : Notices) : (s.withNotices x).naming = s.naming := rfl
@[simp] theorem State.withNotices_census (s : State) (x : Notices) : (s.withNotices x).census = s.census := rfl
@[simp] theorem State.withNotices_service (s : State) (x : Notices) : (s.withNotices x).service = s.service := rfl
@[simp] theorem State.withNotices_changes (s : State) (x : Notices) : (s.withNotices x).changes = s.changes := rfl
@[simp] theorem State.withNotices_notices (s : State) (x : Notices) : (s.withNotices x).notices = x := rfl
@[simp] theorem State.withNotices_order (s : State) (x : Notices) : (s.withNotices x).order = s.order := rfl
@[simp] theorem State.withNotices_snapshot (s : State) (x : Notices) : (s.withNotices x).snapshot = s.snapshot := rfl
@[simp] theorem State.withNotices_draws (s : State) (x : Notices) : (s.withNotices x).draws = s.draws := rfl
@[simp] theorem State.withNotices_pending (s : State) (x : Notices) : (s.withNotices x).pending = s.pending := rfl
@[simp] theorem State.withNotices_withNotices (s : State) (x y : Notices) : (s.withNotices x).withNotices y = s.withNotices y := rfl
@[simp] theorem State.withNotices_self (s : State) : s.withNotices s.notices = s := rfl

/-! ### `withOrder` for order -/

@[simp] theorem State.withOrder_pins (s : State) (x : Order) : (s.withOrder x).pins = s.pins := rfl
@[simp] theorem State.withOrder_time (s : State) (x : Order) : (s.withOrder x).time = s.time := rfl
@[simp] theorem State.withOrder_line (s : State) (x : Order) : (s.withOrder x).line = s.line := rfl
@[simp] theorem State.withOrder_coupling (s : State) (x : Order) : (s.withOrder x).coupling = s.coupling := rfl
@[simp] theorem State.withOrder_roster (s : State) (x : Order) : (s.withOrder x).roster = s.roster := rfl
@[simp] theorem State.withOrder_naming (s : State) (x : Order) : (s.withOrder x).naming = s.naming := rfl
@[simp] theorem State.withOrder_census (s : State) (x : Order) : (s.withOrder x).census = s.census := rfl
@[simp] theorem State.withOrder_service (s : State) (x : Order) : (s.withOrder x).service = s.service := rfl
@[simp] theorem State.withOrder_changes (s : State) (x : Order) : (s.withOrder x).changes = s.changes := rfl
@[simp] theorem State.withOrder_notices (s : State) (x : Order) : (s.withOrder x).notices = s.notices := rfl
@[simp] theorem State.withOrder_order (s : State) (x : Order) : (s.withOrder x).order = x := rfl
@[simp] theorem State.withOrder_snapshot (s : State) (x : Order) : (s.withOrder x).snapshot = s.snapshot := rfl
@[simp] theorem State.withOrder_draws (s : State) (x : Order) : (s.withOrder x).draws = s.draws := rfl
@[simp] theorem State.withOrder_pending (s : State) (x : Order) : (s.withOrder x).pending = s.pending := rfl
@[simp] theorem State.withOrder_withOrder (s : State) (x y : Order) : (s.withOrder x).withOrder y = s.withOrder y := rfl
@[simp] theorem State.withOrder_self (s : State) : s.withOrder s.order = s := rfl

/-! ### `withSnapshot` for snapshot -/

@[simp] theorem State.withSnapshot_pins (s : State) (x : Snapshot) : (s.withSnapshot x).pins = s.pins := rfl
@[simp] theorem State.withSnapshot_time (s : State) (x : Snapshot) : (s.withSnapshot x).time = s.time := rfl
@[simp] theorem State.withSnapshot_line (s : State) (x : Snapshot) : (s.withSnapshot x).line = s.line := rfl
@[simp] theorem State.withSnapshot_coupling (s : State) (x : Snapshot) : (s.withSnapshot x).coupling = s.coupling := rfl
@[simp] theorem State.withSnapshot_roster (s : State) (x : Snapshot) : (s.withSnapshot x).roster = s.roster := rfl
@[simp] theorem State.withSnapshot_naming (s : State) (x : Snapshot) : (s.withSnapshot x).naming = s.naming := rfl
@[simp] theorem State.withSnapshot_census (s : State) (x : Snapshot) : (s.withSnapshot x).census = s.census := rfl
@[simp] theorem State.withSnapshot_service (s : State) (x : Snapshot) : (s.withSnapshot x).service = s.service := rfl
@[simp] theorem State.withSnapshot_changes (s : State) (x : Snapshot) : (s.withSnapshot x).changes = s.changes := rfl
@[simp] theorem State.withSnapshot_notices (s : State) (x : Snapshot) : (s.withSnapshot x).notices = s.notices := rfl
@[simp] theorem State.withSnapshot_order (s : State) (x : Snapshot) : (s.withSnapshot x).order = s.order := rfl
@[simp] theorem State.withSnapshot_snapshot (s : State) (x : Snapshot) : (s.withSnapshot x).snapshot = x := rfl
@[simp] theorem State.withSnapshot_draws (s : State) (x : Snapshot) : (s.withSnapshot x).draws = s.draws := rfl
@[simp] theorem State.withSnapshot_pending (s : State) (x : Snapshot) : (s.withSnapshot x).pending = s.pending := rfl
@[simp] theorem State.withSnapshot_withSnapshot (s : State) (x y : Snapshot) : (s.withSnapshot x).withSnapshot y = s.withSnapshot y := rfl
@[simp] theorem State.withSnapshot_self (s : State) : s.withSnapshot s.snapshot = s := rfl

/-! ### `withEntries` -/

@[simp] theorem State.withEntries_pins (s : State) (l : List Entry) : (s.withEntries l).pins = s.pins := rfl
@[simp] theorem State.withEntries_time (s : State) (l : List Entry) : (s.withEntries l).time = s.time := rfl
@[simp] theorem State.withEntries_line (s : State) (l : List Entry) : (s.withEntries l).line = s.line := rfl
@[simp] theorem State.withEntries_coupling (s : State) (l : List Entry) : (s.withEntries l).coupling = s.coupling := rfl
@[simp] theorem State.withEntries_naming (s : State) (l : List Entry) : (s.withEntries l).naming = s.naming := rfl
@[simp] theorem State.withEntries_census (s : State) (l : List Entry) : (s.withEntries l).census = s.census := rfl
@[simp] theorem State.withEntries_service (s : State) (l : List Entry) : (s.withEntries l).service = s.service := rfl
@[simp] theorem State.withEntries_changes (s : State) (l : List Entry) : (s.withEntries l).changes = s.changes := rfl
@[simp] theorem State.withEntries_notices (s : State) (l : List Entry) : (s.withEntries l).notices = s.notices := rfl
@[simp] theorem State.withEntries_order (s : State) (l : List Entry) : (s.withEntries l).order = s.order := rfl
@[simp] theorem State.withEntries_snapshot (s : State) (l : List Entry) : (s.withEntries l).snapshot = s.snapshot := rfl
@[simp] theorem State.withEntries_draws (s : State) (l : List Entry) : (s.withEntries l).draws = s.draws := rfl
@[simp] theorem State.withEntries_pending (s : State) (l : List Entry) : (s.withEntries l).pending = s.pending := rfl
@[simp] theorem State.withEntries_roster_entries (s : State) (l : List Entry) : (s.withEntries l).roster.entries = l := rfl
@[simp] theorem State.withEntries_roster_asked (s : State) (l : List Entry) : (s.withEntries l).roster.asked = s.roster.asked := rfl
@[simp] theorem State.withEntries_roster_fullLatch (s : State) (l : List Entry) : (s.withEntries l).roster.fullLatch = s.roster.fullLatch := rfl

/-! ### `withAsked` -/

@[simp] theorem State.withAsked_pins (s : State) (l : List Asked) : (s.withAsked l).pins = s.pins := rfl
@[simp] theorem State.withAsked_time (s : State) (l : List Asked) : (s.withAsked l).time = s.time := rfl
@[simp] theorem State.withAsked_line (s : State) (l : List Asked) : (s.withAsked l).line = s.line := rfl
@[simp] theorem State.withAsked_coupling (s : State) (l : List Asked) : (s.withAsked l).coupling = s.coupling := rfl
@[simp] theorem State.withAsked_naming (s : State) (l : List Asked) : (s.withAsked l).naming = s.naming := rfl
@[simp] theorem State.withAsked_census (s : State) (l : List Asked) : (s.withAsked l).census = s.census := rfl
@[simp] theorem State.withAsked_service (s : State) (l : List Asked) : (s.withAsked l).service = s.service := rfl
@[simp] theorem State.withAsked_changes (s : State) (l : List Asked) : (s.withAsked l).changes = s.changes := rfl
@[simp] theorem State.withAsked_notices (s : State) (l : List Asked) : (s.withAsked l).notices = s.notices := rfl
@[simp] theorem State.withAsked_order (s : State) (l : List Asked) : (s.withAsked l).order = s.order := rfl
@[simp] theorem State.withAsked_snapshot (s : State) (l : List Asked) : (s.withAsked l).snapshot = s.snapshot := rfl
@[simp] theorem State.withAsked_draws (s : State) (l : List Asked) : (s.withAsked l).draws = s.draws := rfl
@[simp] theorem State.withAsked_pending (s : State) (l : List Asked) : (s.withAsked l).pending = s.pending := rfl
@[simp] theorem State.withAsked_roster_entries (s : State) (l : List Asked) : (s.withAsked l).roster.entries = s.roster.entries := rfl
@[simp] theorem State.withAsked_roster_asked (s : State) (l : List Asked) : (s.withAsked l).roster.asked = l := rfl
@[simp] theorem State.withAsked_roster_fullLatch (s : State) (l : List Asked) : (s.withAsked l).roster.fullLatch = s.roster.fullLatch := rfl

end Sys2Proof.Machine
end

