-- ==== Sys2Proof/Laws/FrameOps.lean ====
section
/-! SUPPORT. Frames of the shared operations of Ops, TransmitOps and ServiceOps: for each, every block and field it never changes, as simp lemmas. -/

namespace Sys2Proof.Machine

@[simp] theorem queueRecord_frame (kind : ChangeKind) (name : Name) (identity : Option Identity) (detail : Nat) (s : State) :
    (queueRecord kind name identity detail s).pins = s.pins ∧
    (queueRecord kind name identity detail s).time = s.time ∧
    (queueRecord kind name identity detail s).line = s.line ∧
    (queueRecord kind name identity detail s).coupling = s.coupling ∧
    (queueRecord kind name identity detail s).roster = s.roster ∧
    (queueRecord kind name identity detail s).naming = s.naming ∧
    (queueRecord kind name identity detail s).census = s.census ∧
    (queueRecord kind name identity detail s).service = s.service ∧
    (queueRecord kind name identity detail s).notices = s.notices ∧
    (queueRecord kind name identity detail s).order = s.order ∧
    (queueRecord kind name identity detail s).snapshot = s.snapshot ∧
    (queueRecord kind name identity detail s).draws = s.draws ∧
    (queueRecord kind name identity detail s).pending = s.pending := by
  unfold queueRecord
  try dsimp only
  repeat' split
  all_goals simp

@[simp] theorem countForeign_frame (s : State) :
    (countForeign s).pins = s.pins ∧ (countForeign s).time = s.time ∧ (countForeign s).line.enabled = s.line.enabled ∧
    (countForeign s).line.fault = s.line.fault ∧ (countForeign s).line.recessive8 = s.line.recessive8 ∧
    (countForeign s).line.stuck = s.line.stuck ∧ (countForeign s).line.errors = s.line.errors ∧
    (countForeign s).line.rx = s.line.rx ∧ (countForeign s).line.inFlight = s.line.inFlight ∧
    (countForeign s).line.txList = s.line.txList ∧ (countForeign s).line.txDrops = s.line.txDrops ∧
    (countForeign s).line.beatSeq = s.line.beatSeq ∧ (countForeign s).line.nextTag = s.line.nextTag ∧
    (countForeign s).coupling = s.coupling ∧ (countForeign s).roster = s.roster ∧ (countForeign s).naming = s.naming ∧
    (countForeign s).census = s.census ∧ (countForeign s).service = s.service ∧ (countForeign s).changes = s.changes ∧
    (countForeign s).notices = s.notices ∧ (countForeign s).order = s.order ∧ (countForeign s).snapshot = s.snapshot ∧
    (countForeign s).draws = s.draws ∧ (countForeign s).pending = s.pending := by
  unfold countForeign
  try dsimp only
  all_goals simp

@[simp] theorem countTxDrop_frame (s : State) :
    (countTxDrop s).pins = s.pins ∧ (countTxDrop s).time = s.time ∧ (countTxDrop s).line.enabled = s.line.enabled ∧
    (countTxDrop s).line.fault = s.line.fault ∧ (countTxDrop s).line.recessive8 = s.line.recessive8 ∧
    (countTxDrop s).line.stuck = s.line.stuck ∧ (countTxDrop s).line.errors = s.line.errors ∧
    (countTxDrop s).line.rx = s.line.rx ∧ (countTxDrop s).line.inFlight = s.line.inFlight ∧
    (countTxDrop s).line.txList = s.line.txList ∧ (countTxDrop s).line.foreign = s.line.foreign ∧
    (countTxDrop s).line.beatSeq = s.line.beatSeq ∧ (countTxDrop s).line.nextTag = s.line.nextTag ∧
    (countTxDrop s).coupling = s.coupling ∧ (countTxDrop s).roster = s.roster ∧ (countTxDrop s).naming = s.naming ∧
    (countTxDrop s).census = s.census ∧ (countTxDrop s).service = s.service ∧ (countTxDrop s).changes = s.changes ∧
    (countTxDrop s).notices = s.notices ∧ (countTxDrop s).order = s.order ∧ (countTxDrop s).snapshot = s.snapshot ∧
    (countTxDrop s).draws = s.draws ∧ (countTxDrop s).pending = s.pending := by
  unfold countTxDrop
  try dsimp only
  all_goals simp

@[simp] theorem endOrder_frame (error : Option OrderError) (detail : Nat) (s : State) :
    (endOrder error detail s).pins = s.pins ∧ (endOrder error detail s).time = s.time ∧
    (endOrder error detail s).line = s.line ∧ (endOrder error detail s).coupling = s.coupling ∧
    (endOrder error detail s).roster = s.roster ∧ (endOrder error detail s).naming = s.naming ∧
    (endOrder error detail s).census = s.census ∧ (endOrder error detail s).service = s.service ∧
    (endOrder error detail s).changes = s.changes ∧ (endOrder error detail s).notices = s.notices ∧
    (endOrder error detail s).order.phase = s.order.phase ∧ (endOrder error detail s).order.setup = s.order.setup ∧
    (endOrder error detail s).order.opcode = s.order.opcode ∧
    (endOrder error detail s).order.operand = s.order.operand ∧ (endOrder error detail s).order.data = s.order.data ∧
    (endOrder error detail s).snapshot = s.snapshot ∧ (endOrder error detail s).draws = s.draws ∧
    (endOrder error detail s).pending = s.pending := by
  unfold endOrder
  try dsimp only
  all_goals simp

@[simp] theorem endRecallOrder_frame (error : Option OrderError) (detail : Nat) (s : State) :
    (endRecallOrder error detail s).pins = s.pins ∧ (endRecallOrder error detail s).time = s.time ∧
    (endRecallOrder error detail s).line = s.line ∧ (endRecallOrder error detail s).coupling = s.coupling ∧
    (endRecallOrder error detail s).roster = s.roster ∧ (endRecallOrder error detail s).naming = s.naming ∧
    (endRecallOrder error detail s).census = s.census ∧ (endRecallOrder error detail s).service = s.service ∧
    (endRecallOrder error detail s).changes = s.changes ∧ (endRecallOrder error detail s).notices = s.notices ∧
    (endRecallOrder error detail s).order.phase = s.order.phase ∧
    (endRecallOrder error detail s).order.setup = s.order.setup ∧
    (endRecallOrder error detail s).order.opcode = s.order.opcode ∧
    (endRecallOrder error detail s).order.operand = s.order.operand ∧
    (endRecallOrder error detail s).order.data = s.order.data ∧
    (endRecallOrder error detail s).snapshot = s.snapshot ∧ (endRecallOrder error detail s).draws = s.draws ∧
    (endRecallOrder error detail s).pending = s.pending := by
  unfold endRecallOrder
  try dsimp only
  repeat' split
  all_goals simp

@[simp] theorem endPingOrder_frame (error : Option OrderError) (detail : Nat) (s : State) :
    (endPingOrder error detail s).pins = s.pins ∧ (endPingOrder error detail s).time = s.time ∧
    (endPingOrder error detail s).line = s.line ∧ (endPingOrder error detail s).coupling = s.coupling ∧
    (endPingOrder error detail s).roster = s.roster ∧ (endPingOrder error detail s).naming = s.naming ∧
    (endPingOrder error detail s).census = s.census ∧ (endPingOrder error detail s).service = s.service ∧
    (endPingOrder error detail s).changes = s.changes ∧ (endPingOrder error detail s).notices = s.notices ∧
    (endPingOrder error detail s).order.phase = s.order.phase ∧
    (endPingOrder error detail s).order.setup = s.order.setup ∧
    (endPingOrder error detail s).order.opcode = s.order.opcode ∧
    (endPingOrder error detail s).order.operand = s.order.operand ∧
    (endPingOrder error detail s).order.data = s.order.data ∧ (endPingOrder error detail s).snapshot = s.snapshot ∧
    (endPingOrder error detail s).draws = s.draws ∧ (endPingOrder error detail s).pending = s.pending := by
  unfold endPingOrder
  try dsimp only
  repeat' split
  all_goals simp

@[simp] theorem overtakeOrder_frame (s : State) :
    (overtakeOrder s).pins = s.pins ∧ (overtakeOrder s).time = s.time ∧ (overtakeOrder s).line = s.line ∧
    (overtakeOrder s).coupling = s.coupling ∧ (overtakeOrder s).roster = s.roster ∧
    (overtakeOrder s).naming = s.naming ∧ (overtakeOrder s).census = s.census ∧
    (overtakeOrder s).service = s.service ∧ (overtakeOrder s).changes = s.changes ∧
    (overtakeOrder s).notices = s.notices ∧ (overtakeOrder s).order.phase = s.order.phase ∧
    (overtakeOrder s).order.setup = s.order.setup ∧ (overtakeOrder s).order.opcode = s.order.opcode ∧
    (overtakeOrder s).order.operand = s.order.operand ∧ (overtakeOrder s).order.data = s.order.data ∧
    (overtakeOrder s).snapshot = s.snapshot ∧ (overtakeOrder s).draws = s.draws ∧
    (overtakeOrder s).pending = s.pending := by
  unfold overtakeOrder
  try dsimp only
  repeat' split
  all_goals simp

@[simp] theorem setCouplingFlag_frame (s : State) :
    (setCouplingFlag s).pins = s.pins ∧ (setCouplingFlag s).time = s.time ∧ (setCouplingFlag s).line = s.line ∧
    (setCouplingFlag s).coupling = s.coupling ∧ (setCouplingFlag s).roster = s.roster ∧
    (setCouplingFlag s).naming = s.naming ∧ (setCouplingFlag s).census = s.census ∧
    (setCouplingFlag s).service = s.service ∧ (setCouplingFlag s).changes = s.changes ∧
    (setCouplingFlag s).notices.changes = s.notices.changes ∧
    (setCouplingFlag s).notices.service = s.notices.service ∧ (setCouplingFlag s).notices.order = s.notices.order ∧
    (setCouplingFlag s).notices.line = s.notices.line ∧ (setCouplingFlag s).notices.census = s.notices.census ∧
    (setCouplingFlag s).notices.lineSeen = s.notices.lineSeen ∧
    (setCouplingFlag s).notices.censusSeen = s.notices.censusSeen ∧ (setCouplingFlag s).order = s.order ∧
    (setCouplingFlag s).snapshot = s.snapshot ∧ (setCouplingFlag s).draws = s.draws ∧
    (setCouplingFlag s).pending = s.pending := by
  unfold setCouplingFlag
  try dsimp only
  all_goals simp

@[simp] theorem setLineFlag_frame (s : State) :
    (setLineFlag s).pins = s.pins ∧ (setLineFlag s).time = s.time ∧ (setLineFlag s).line = s.line ∧
    (setLineFlag s).coupling = s.coupling ∧ (setLineFlag s).roster = s.roster ∧ (setLineFlag s).naming = s.naming ∧
    (setLineFlag s).census = s.census ∧ (setLineFlag s).service = s.service ∧ (setLineFlag s).changes = s.changes ∧
    (setLineFlag s).notices.changes = s.notices.changes ∧ (setLineFlag s).notices.service = s.notices.service ∧
    (setLineFlag s).notices.order = s.notices.order ∧ (setLineFlag s).notices.coupling = s.notices.coupling ∧
    (setLineFlag s).notices.census = s.notices.census ∧
    (setLineFlag s).notices.couplingSeen = s.notices.couplingSeen ∧
    (setLineFlag s).notices.censusSeen = s.notices.censusSeen ∧ (setLineFlag s).order = s.order ∧
    (setLineFlag s).snapshot = s.snapshot ∧ (setLineFlag s).draws = s.draws ∧ (setLineFlag s).pending = s.pending := by
  unfold setLineFlag
  try dsimp only
  all_goals simp

@[simp] theorem setCensusFlag_frame (s : State) :
    (setCensusFlag s).pins = s.pins ∧ (setCensusFlag s).time = s.time ∧ (setCensusFlag s).line = s.line ∧
    (setCensusFlag s).coupling = s.coupling ∧ (setCensusFlag s).roster = s.roster ∧
    (setCensusFlag s).naming = s.naming ∧ (setCensusFlag s).census = s.census ∧
    (setCensusFlag s).service = s.service ∧ (setCensusFlag s).changes = s.changes ∧
    (setCensusFlag s).notices.changes = s.notices.changes ∧ (setCensusFlag s).notices.service = s.notices.service ∧
    (setCensusFlag s).notices.order = s.notices.order ∧ (setCensusFlag s).notices.coupling = s.notices.coupling ∧
    (setCensusFlag s).notices.line = s.notices.line ∧
    (setCensusFlag s).notices.couplingSeen = s.notices.couplingSeen ∧
    (setCensusFlag s).notices.lineSeen = s.notices.lineSeen ∧ (setCensusFlag s).order = s.order ∧
    (setCensusFlag s).snapshot = s.snapshot ∧ (setCensusFlag s).draws = s.draws ∧
    (setCensusFlag s).pending = s.pending := by
  unfold setCensusFlag
  try dsimp only
  all_goals simp

@[simp] theorem clockOut_frame (before : State) (reply : List Byte) (s : State) :
    (clockOut before reply s).pins.mateA = s.pins.mateA ∧ (clockOut before reply s).pins.mateB = s.pins.mateB ∧
    (clockOut before reply s).pins.lock = s.pins.lock ∧
    (clockOut before reply s).pins.supplyGood = s.pins.supplyGood ∧
    (clockOut before reply s).pins.supplyEn = s.pins.supplyEn ∧ (clockOut before reply s).pins.attn = s.pins.attn ∧
    (clockOut before reply s).time = s.time ∧ (clockOut before reply s).line = s.line ∧
    (clockOut before reply s).coupling = s.coupling ∧ (clockOut before reply s).roster = s.roster ∧
    (clockOut before reply s).naming = s.naming ∧ (clockOut before reply s).census = s.census ∧
    (clockOut before reply s).service = s.service ∧ (clockOut before reply s).changes = s.changes ∧
    (clockOut before reply s).notices = s.notices ∧ (clockOut before reply s).order = s.order ∧
    (clockOut before reply s).snapshot = s.snapshot ∧ (clockOut before reply s).draws = s.draws ∧
    (clockOut before reply s).pending = s.pending := by
  unfold clockOut
  try dsimp only
  all_goals simp

@[simp] theorem offerFrame_frame (b : TxBody) (owner : Owner) (ref : OwnerRef) (s : State) :
    (offerFrame b owner ref s).pins = s.pins ∧ (offerFrame b owner ref s).time = s.time ∧
    (offerFrame b owner ref s).line.enabled = s.line.enabled ∧ (offerFrame b owner ref s).line.fault = s.line.fault ∧
    (offerFrame b owner ref s).line.recessive8 = s.line.recessive8 ∧
    (offerFrame b owner ref s).line.stuck = s.line.stuck ∧ (offerFrame b owner ref s).line.errors = s.line.errors ∧
    (offerFrame b owner ref s).line.rx = s.line.rx ∧ (offerFrame b owner ref s).line.inFlight = s.line.inFlight ∧
    (offerFrame b owner ref s).line.foreign = s.line.foreign ∧
    (offerFrame b owner ref s).line.beatSeq = s.line.beatSeq ∧ (offerFrame b owner ref s).coupling = s.coupling ∧
    (offerFrame b owner ref s).roster = s.roster ∧ (offerFrame b owner ref s).naming = s.naming ∧
    (offerFrame b owner ref s).census = s.census ∧ (offerFrame b owner ref s).service = s.service ∧
    (offerFrame b owner ref s).changes = s.changes ∧ (offerFrame b owner ref s).notices = s.notices ∧
    (offerFrame b owner ref s).order = s.order ∧ (offerFrame b owner ref s).snapshot = s.snapshot ∧
    (offerFrame b owner ref s).draws = s.draws ∧ (offerFrame b owner ref s).pending = s.pending := by
  unfold offerFrame
  try dsimp only
  repeat' split
  all_goals simp

@[simp] theorem withdraw_frame (p : TxFrame → Bool) (s : State) :
    (withdraw p s).pins = s.pins ∧ (withdraw p s).time = s.time ∧ (withdraw p s).line.enabled = s.line.enabled ∧
    (withdraw p s).line.fault = s.line.fault ∧ (withdraw p s).line.recessive8 = s.line.recessive8 ∧
    (withdraw p s).line.stuck = s.line.stuck ∧ (withdraw p s).line.errors = s.line.errors ∧
    (withdraw p s).line.rx = s.line.rx ∧ (withdraw p s).line.inFlight = s.line.inFlight ∧
    (withdraw p s).line.txDrops = s.line.txDrops ∧ (withdraw p s).line.foreign = s.line.foreign ∧
    (withdraw p s).line.beatSeq = s.line.beatSeq ∧ (withdraw p s).line.nextTag = s.line.nextTag ∧
    (withdraw p s).coupling = s.coupling ∧ (withdraw p s).roster = s.roster ∧ (withdraw p s).naming = s.naming ∧
    (withdraw p s).census = s.census ∧ (withdraw p s).service = s.service ∧ (withdraw p s).changes = s.changes ∧
    (withdraw p s).notices = s.notices ∧ (withdraw p s).order = s.order ∧ (withdraw p s).snapshot = s.snapshot ∧
    (withdraw p s).draws = s.draws ∧ (withdraw p s).pending = s.pending := by
  unfold withdraw
  try dsimp only
  all_goals simp

@[simp] theorem answerProbe_frame (s : State) :
    (answerProbe s).pins = s.pins ∧ (answerProbe s).time = s.time ∧ (answerProbe s).line.enabled = s.line.enabled ∧
    (answerProbe s).line.fault = s.line.fault ∧ (answerProbe s).line.recessive8 = s.line.recessive8 ∧
    (answerProbe s).line.stuck = s.line.stuck ∧ (answerProbe s).line.errors = s.line.errors ∧
    (answerProbe s).line.rx = s.line.rx ∧ (answerProbe s).line.inFlight = s.line.inFlight ∧
    (answerProbe s).line.foreign = s.line.foreign ∧ (answerProbe s).line.beatSeq = s.line.beatSeq ∧
    (answerProbe s).coupling = s.coupling ∧ (answerProbe s).roster = s.roster ∧ (answerProbe s).naming = s.naming ∧
    (answerProbe s).census = s.census ∧ (answerProbe s).service = s.service ∧ (answerProbe s).changes = s.changes ∧
    (answerProbe s).notices = s.notices ∧ (answerProbe s).order = s.order ∧ (answerProbe s).snapshot = s.snapshot ∧
    (answerProbe s).draws = s.draws ∧ (answerProbe s).pending = s.pending := by
  unfold answerProbe
  try dsimp only
  repeat' split
  all_goals simp

@[simp] theorem offerPingProbe_frame (n : Name) (s : State) :
    (offerPingProbe n s).pins = s.pins ∧ (offerPingProbe n s).time = s.time ∧
    (offerPingProbe n s).line.enabled = s.line.enabled ∧ (offerPingProbe n s).line.fault = s.line.fault ∧
    (offerPingProbe n s).line.recessive8 = s.line.recessive8 ∧ (offerPingProbe n s).line.stuck = s.line.stuck ∧
    (offerPingProbe n s).line.errors = s.line.errors ∧ (offerPingProbe n s).line.rx = s.line.rx ∧
    (offerPingProbe n s).line.inFlight = s.line.inFlight ∧ (offerPingProbe n s).line.foreign = s.line.foreign ∧
    (offerPingProbe n s).line.beatSeq = s.line.beatSeq ∧ (offerPingProbe n s).coupling = s.coupling ∧
    (offerPingProbe n s).roster = s.roster ∧ (offerPingProbe n s).naming = s.naming ∧
    (offerPingProbe n s).census = s.census ∧ (offerPingProbe n s).service = s.service ∧
    (offerPingProbe n s).changes = s.changes ∧ (offerPingProbe n s).notices = s.notices ∧
    (offerPingProbe n s).order.phase = s.order.phase ∧ (offerPingProbe n s).order.setup = s.order.setup ∧
    (offerPingProbe n s).order.opcode = s.order.opcode ∧ (offerPingProbe n s).order.operand = s.order.operand ∧
    (offerPingProbe n s).order.data = s.order.data ∧ (offerPingProbe n s).snapshot = s.snapshot ∧
    (offerPingProbe n s).draws = s.draws ∧ (offerPingProbe n s).pending = s.pending := by
  unfold offerPingProbe
  try dsimp only
  repeat' split
  all_goals simp

@[simp] theorem offerRecall_frame (s : State) :
    (offerRecall s).pins = s.pins ∧ (offerRecall s).time = s.time ∧ (offerRecall s).line.enabled = s.line.enabled ∧
    (offerRecall s).line.fault = s.line.fault ∧ (offerRecall s).line.recessive8 = s.line.recessive8 ∧
    (offerRecall s).line.stuck = s.line.stuck ∧ (offerRecall s).line.errors = s.line.errors ∧
    (offerRecall s).line.rx = s.line.rx ∧ (offerRecall s).line.inFlight = s.line.inFlight ∧
    (offerRecall s).line.foreign = s.line.foreign ∧ (offerRecall s).line.beatSeq = s.line.beatSeq ∧
    (offerRecall s).coupling = s.coupling ∧ (offerRecall s).roster = s.roster ∧ (offerRecall s).naming = s.naming ∧
    (offerRecall s).census = s.census ∧ (offerRecall s).service = s.service ∧ (offerRecall s).changes = s.changes ∧
    (offerRecall s).notices = s.notices ∧ (offerRecall s).order.phase = s.order.phase ∧
    (offerRecall s).order.setup = s.order.setup ∧ (offerRecall s).order.opcode = s.order.opcode ∧
    (offerRecall s).order.operand = s.order.operand ∧ (offerRecall s).order.data = s.order.data ∧
    (offerRecall s).snapshot = s.snapshot ∧ (offerRecall s).draws = s.draws ∧ (offerRecall s).pending = s.pending := by
  unfold offerRecall
  try dsimp only
  repeat' split
  all_goals simp

@[simp] theorem serviceLost_frame (n : Name) (s : State) :
    (serviceLost n s).pins = s.pins ∧ (serviceLost n s).time = s.time ∧ (serviceLost n s).line = s.line ∧
    (serviceLost n s).coupling = s.coupling ∧ (serviceLost n s).roster = s.roster ∧
    (serviceLost n s).naming = s.naming ∧ (serviceLost n s).census = s.census ∧
    (serviceLost n s).changes = s.changes ∧ (serviceLost n s).notices = s.notices ∧
    (serviceLost n s).order = s.order ∧ (serviceLost n s).snapshot = s.snapshot ∧ (serviceLost n s).draws = s.draws ∧
    (serviceLost n s).pending = s.pending := by
  unfold serviceLost
  try dsimp only
  all_goals simp

@[simp] theorem serviceLeft_frame (n : Name) (s : State) :
    (serviceLeft n s).pins = s.pins ∧ (serviceLeft n s).time = s.time ∧ (serviceLeft n s).line = s.line ∧
    (serviceLeft n s).coupling = s.coupling ∧ (serviceLeft n s).roster = s.roster ∧
    (serviceLeft n s).naming = s.naming ∧ (serviceLeft n s).census = s.census ∧
    (serviceLeft n s).changes = s.changes ∧ (serviceLeft n s).notices = s.notices ∧
    (serviceLeft n s).order = s.order ∧ (serviceLeft n s).snapshot = s.snapshot ∧ (serviceLeft n s).draws = s.draws ∧
    (serviceLeft n s).pending = s.pending := by
  unfold serviceLeft
  try dsimp only
  all_goals simp

@[simp] theorem refreshNotices_frame (s : State) :
    (refreshNotices s).pins.mateA = s.pins.mateA ∧ (refreshNotices s).pins.mateB = s.pins.mateB ∧
    (refreshNotices s).pins.lock = s.pins.lock ∧ (refreshNotices s).pins.supplyGood = s.pins.supplyGood ∧
    (refreshNotices s).pins.supplyEn = s.pins.supplyEn ∧ (refreshNotices s).pins.sdo = s.pins.sdo ∧
    (refreshNotices s).time = s.time ∧ (refreshNotices s).line = s.line ∧ (refreshNotices s).coupling = s.coupling ∧
    (refreshNotices s).roster = s.roster ∧ (refreshNotices s).naming = s.naming ∧
    (refreshNotices s).census = s.census ∧ (refreshNotices s).service = s.service ∧
    (refreshNotices s).changes = s.changes ∧ (refreshNotices s).notices.coupling = s.notices.coupling ∧
    (refreshNotices s).notices.line = s.notices.line ∧ (refreshNotices s).notices.census = s.notices.census ∧
    (refreshNotices s).notices.couplingSeen = s.notices.couplingSeen ∧
    (refreshNotices s).notices.lineSeen = s.notices.lineSeen ∧
    (refreshNotices s).notices.censusSeen = s.notices.censusSeen ∧ (refreshNotices s).order = s.order ∧
    (refreshNotices s).snapshot = s.snapshot ∧ (refreshNotices s).draws = s.draws ∧
    (refreshNotices s).pending = s.pending := by
  unfold refreshNotices
  try dsimp only
  all_goals simp

end Sys2Proof.Machine
end

