-- ==== Sys2Proof/Laws/FrameCensus.lean ====
section
/-! SUPPORT. Frames of the census operations: for each, every block and field it never changes, as simp lemmas. -/

namespace Sys2Proof.Machine

@[simp] theorem enterPowering_frame (s : State) :
    (enterPowering s).pins = s.pins ∧ (enterPowering s).time.now = s.time.now ∧
    (enterPowering s).time.frozen = s.time.frozen ∧ (enterPowering s).time.freezeStart = s.time.freezeStart ∧
    (enterPowering s).line = s.line ∧ (enterPowering s).coupling = s.coupling ∧ (enterPowering s).roster = s.roster ∧
    (enterPowering s).naming = s.naming ∧ (enterPowering s).census.generation = s.census.generation ∧
    (enterPowering s).census.settling = s.census.settling ∧ (enterPowering s).service = s.service ∧
    (enterPowering s).changes = s.changes ∧ (enterPowering s).notices = s.notices ∧
    (enterPowering s).order = s.order ∧ (enterPowering s).snapshot = s.snapshot ∧ (enterPowering s).draws = s.draws ∧
    (enterPowering s).pending = s.pending := by
  unfold enterPowering
  try dsimp only
  all_goals simp

@[simp] theorem firstGoodFrame_frame (s : State) :
    (firstGoodFrame s).pins = s.pins ∧ (firstGoodFrame s).time = s.time ∧ (firstGoodFrame s).line = s.line ∧
    (firstGoodFrame s).coupling = s.coupling ∧ (firstGoodFrame s).roster = s.roster ∧
    (firstGoodFrame s).naming = s.naming ∧ (firstGoodFrame s).census.returnState = s.census.returnState ∧
    (firstGoodFrame s).census.generation = s.census.generation ∧
    (firstGoodFrame s).census.settling = s.census.settling ∧ (firstGoodFrame s).census.quiet = s.census.quiet ∧
    (firstGoodFrame s).service = s.service ∧ (firstGoodFrame s).changes = s.changes ∧
    (firstGoodFrame s).notices = s.notices ∧ (firstGoodFrame s).order = s.order ∧
    (firstGoodFrame s).snapshot = s.snapshot ∧ (firstGoodFrame s).draws = s.draws ∧
    (firstGoodFrame s).pending = s.pending := by
  unfold firstGoodFrame
  try dsimp only
  repeat' split
  all_goals simp

@[simp] theorem heardReported_frame (s : State) :
    (heardReported s).pins = s.pins ∧ (heardReported s).time = s.time ∧ (heardReported s).line = s.line ∧
    (heardReported s).coupling = s.coupling ∧ (heardReported s).roster = s.roster ∧
    (heardReported s).naming = s.naming ∧ (heardReported s).census.returnState = s.census.returnState ∧
    (heardReported s).census.generation = s.census.generation ∧
    (heardReported s).census.settling = s.census.settling ∧
    (heardReported s).census.firstFrame = s.census.firstFrame ∧ (heardReported s).service = s.service ∧
    (heardReported s).changes = s.changes ∧ (heardReported s).notices = s.notices ∧
    (heardReported s).order = s.order ∧ (heardReported s).snapshot = s.snapshot ∧ (heardReported s).draws = s.draws ∧
    (heardReported s).pending = s.pending := by
  unfold heardReported
  try dsimp only
  repeat' split
  all_goals simp

@[simp] theorem adoptionReported_frame (s : State) :
    (adoptionReported s).pins = s.pins ∧ (adoptionReported s).time = s.time ∧ (adoptionReported s).line = s.line ∧
    (adoptionReported s).coupling = s.coupling ∧ (adoptionReported s).roster = s.roster ∧
    (adoptionReported s).naming = s.naming ∧ (adoptionReported s).census.generation = s.census.generation ∧
    (adoptionReported s).census.settling = s.census.settling ∧
    (adoptionReported s).census.firstFrame = s.census.firstFrame ∧
    (adoptionReported s).census.deadline = s.census.deadline ∧ (adoptionReported s).service = s.service ∧
    (adoptionReported s).changes = s.changes ∧ (adoptionReported s).notices = s.notices ∧
    (adoptionReported s).order = s.order ∧ (adoptionReported s).snapshot = s.snapshot ∧
    (adoptionReported s).draws = s.draws ∧ (adoptionReported s).pending = s.pending := by
  unfold adoptionReported
  try dsimp only
  repeat' split
  all_goals simp

@[simp] theorem enterQuiet_frame (ret : ReturnState) (s : State) :
    (enterQuiet ret s).pins = s.pins ∧ (enterQuiet ret s).time = s.time ∧ (enterQuiet ret s).line = s.line ∧
    (enterQuiet ret s).coupling = s.coupling ∧ (enterQuiet ret s).roster = s.roster ∧
    (enterQuiet ret s).naming = s.naming ∧ (enterQuiet ret s).census.generation = s.census.generation ∧
    (enterQuiet ret s).census.settling = s.census.settling ∧
    (enterQuiet ret s).census.firstFrame = s.census.firstFrame ∧
    (enterQuiet ret s).census.deadline = s.census.deadline ∧ (enterQuiet ret s).service = s.service ∧
    (enterQuiet ret s).changes = s.changes ∧ (enterQuiet ret s).notices = s.notices ∧
    (enterQuiet ret s).order = s.order ∧ (enterQuiet ret s).snapshot = s.snapshot ∧
    (enterQuiet ret s).draws = s.draws ∧ (enterQuiet ret s).pending = s.pending := by
  unfold enterQuiet
  try dsimp only
  all_goals simp

@[simp] theorem testQuiet_frame (s : State) :
    (testQuiet s).pins = s.pins ∧ (testQuiet s).time = s.time ∧ (testQuiet s).line = s.line ∧
    (testQuiet s).coupling = s.coupling ∧ (testQuiet s).roster = s.roster ∧ (testQuiet s).naming = s.naming ∧
    (testQuiet s).census.generation = s.census.generation ∧ (testQuiet s).census.settling = s.census.settling ∧
    (testQuiet s).census.firstFrame = s.census.firstFrame ∧ (testQuiet s).census.deadline = s.census.deadline ∧
    (testQuiet s).service = s.service ∧ (testQuiet s).changes = s.changes ∧ (testQuiet s).notices = s.notices ∧
    (testQuiet s).order = s.order ∧ (testQuiet s).snapshot = s.snapshot ∧ (testQuiet s).draws = s.draws ∧
    (testQuiet s).pending = s.pending := by
  unfold testQuiet
  try dsimp only
  repeat' split
  all_goals simp

@[simp] theorem enterComplete_frame (s : State) :
    (enterComplete s).pins = s.pins ∧ (enterComplete s).time = s.time ∧ (enterComplete s).line = s.line ∧
    (enterComplete s).coupling = s.coupling ∧ (enterComplete s).roster = s.roster ∧
    (enterComplete s).naming = s.naming ∧ (enterComplete s).census.returnState = s.census.returnState ∧
    (enterComplete s).service = s.service ∧ (enterComplete s).notices.changes = s.notices.changes ∧
    (enterComplete s).notices.service = s.notices.service ∧ (enterComplete s).notices.order = s.notices.order ∧
    (enterComplete s).notices.coupling = s.notices.coupling ∧ (enterComplete s).notices.line = s.notices.line ∧
    (enterComplete s).notices.couplingSeen = s.notices.couplingSeen ∧
    (enterComplete s).notices.lineSeen = s.notices.lineSeen ∧ (enterComplete s).order = s.order ∧
    (enterComplete s).snapshot = s.snapshot ∧ (enterComplete s).draws = s.draws ∧
    (enterComplete s).pending = s.pending := by
  unfold enterComplete
  try dsimp only
  all_goals simp

@[simp] theorem recallCensus_frame (s : State) :
    (recallCensus s).pins = s.pins ∧ (recallCensus s).time = s.time ∧ (recallCensus s).line = s.line ∧
    (recallCensus s).coupling = s.coupling ∧ (recallCensus s).roster = s.roster ∧ (recallCensus s).naming = s.naming ∧
    (recallCensus s).census.generation = s.census.generation ∧ (recallCensus s).census.settling = s.census.settling ∧
    (recallCensus s).service = s.service ∧ (recallCensus s).changes = s.changes ∧
    (recallCensus s).notices = s.notices ∧ (recallCensus s).order = s.order ∧ (recallCensus s).snapshot = s.snapshot ∧
    (recallCensus s).draws = s.draws ∧ (recallCensus s).pending = s.pending := by
  unfold recallCensus
  try dsimp only
  repeat' split
  all_goals simp

@[simp] theorem endCensus_frame (state : CensusState) (s : State) :
    (endCensus state s).pins = s.pins ∧ (endCensus state s).time.now = s.time.now ∧
    (endCensus state s).time.frozen = s.time.frozen ∧ (endCensus state s).time.freezeStart = s.time.freezeStart ∧
    (endCensus state s).line = s.line ∧ (endCensus state s).coupling = s.coupling ∧
    (endCensus state s).roster = s.roster ∧ (endCensus state s).naming = s.naming ∧
    (endCensus state s).census.generation = s.census.generation ∧
    (endCensus state s).census.settling = s.census.settling ∧ (endCensus state s).service = s.service ∧
    (endCensus state s).changes = s.changes ∧ (endCensus state s).notices = s.notices ∧
    (endCensus state s).order = s.order ∧ (endCensus state s).snapshot = s.snapshot ∧
    (endCensus state s).draws = s.draws ∧ (endCensus state s).pending = s.pending := by
  unfold endCensus
  try dsimp only
  all_goals simp

@[simp] theorem close_frame (s : State) :
    (close s).pins.mateA = s.pins.mateA ∧ (close s).pins.mateB = s.pins.mateB ∧ (close s).pins.lock = s.pins.lock ∧
    (close s).pins.supplyGood = s.pins.supplyGood ∧ (close s).pins.supplyEn = s.pins.supplyEn ∧
    (close s).pins.sdo = s.pins.sdo ∧ (close s).time = s.time ∧ (close s).line = s.line ∧
    (close s).coupling = s.coupling ∧ (close s).roster = s.roster ∧ (close s).naming = s.naming ∧
    (close s).census.generation = s.census.generation ∧ (close s).census.settling = s.census.settling ∧
    (close s).census.firstFrame = s.census.firstFrame ∧ (close s).census.deadline = s.census.deadline ∧
    (close s).service = s.service ∧ (close s).changes = s.changes ∧ (close s).notices.coupling = s.notices.coupling ∧
    (close s).notices.line = s.notices.line ∧ (close s).notices.census = s.notices.census ∧
    (close s).notices.couplingSeen = s.notices.couplingSeen ∧ (close s).notices.lineSeen = s.notices.lineSeen ∧
    (close s).notices.censusSeen = s.notices.censusSeen ∧ (close s).order = s.order ∧
    (close s).snapshot = s.snapshot ∧ (close s).draws = s.draws ∧ (close s).pending = s.pending := by
  unfold close
  try dsimp only
  all_goals simp

end Sys2Proof.Machine
end

