-- ==== Sys2Proof/Laws/FrameRoster.lean ====
section
/-! SUPPORT. Frames of the roster operations: for each, every block and field it never changes, as simp lemmas. -/

namespace Sys2Proof.Machine

/-- A fold keeps what each of its steps keeps. -/
theorem foldl_keeps {α β : Type} (p : State → β) (f : State → α → State) (h : ∀ s a, p (f s a) = p s) :
    ∀ (l : List α) (s : State), p (l.foldl f s) = p s := by
  intro l
  induction l with
  | nil => intro s; rfl
  | cons a l ih => intro s; rw [List.foldl_cons, ih, h]

@[simp] theorem changeEntry_frame (x : Identity) (f : Entry → Entry) (s : State) :
    (changeEntry x f s).pins = s.pins ∧ (changeEntry x f s).time = s.time ∧ (changeEntry x f s).line = s.line ∧
    (changeEntry x f s).coupling = s.coupling ∧ (changeEntry x f s).roster.asked = s.roster.asked ∧
    (changeEntry x f s).roster.fullLatch = s.roster.fullLatch ∧ (changeEntry x f s).naming = s.naming ∧
    (changeEntry x f s).census = s.census ∧ (changeEntry x f s).service = s.service ∧
    (changeEntry x f s).changes = s.changes ∧ (changeEntry x f s).notices = s.notices ∧
    (changeEntry x f s).order = s.order ∧ (changeEntry x f s).snapshot = s.snapshot ∧
    (changeEntry x f s).draws = s.draws ∧ (changeEntry x f s).pending = s.pending := by
  unfold changeEntry
  try dsimp only
  all_goals simp

@[simp] theorem entryToHeard_frame (x : Identity) (s : State) :
    (entryToHeard x s).pins = s.pins ∧ (entryToHeard x s).time = s.time ∧ (entryToHeard x s).line = s.line ∧
    (entryToHeard x s).coupling = s.coupling ∧ (entryToHeard x s).roster.asked = s.roster.asked ∧
    (entryToHeard x s).roster.fullLatch = s.roster.fullLatch ∧ (entryToHeard x s).naming = s.naming ∧
    (entryToHeard x s).census.returnState = s.census.returnState ∧
    (entryToHeard x s).census.generation = s.census.generation ∧
    (entryToHeard x s).census.settling = s.census.settling ∧
    (entryToHeard x s).census.firstFrame = s.census.firstFrame ∧ (entryToHeard x s).service = s.service ∧
    (entryToHeard x s).changes = s.changes ∧ (entryToHeard x s).notices = s.notices ∧
    (entryToHeard x s).order = s.order ∧ (entryToHeard x s).snapshot = s.snapshot ∧
    (entryToHeard x s).draws = s.draws ∧ (entryToHeard x s).pending = s.pending := by
  unfold entryToHeard
  try dsimp only
  all_goals simp

@[simp] theorem heldToHeard_frame (x : Identity) (s : State) :
    (heldToHeard x s).pins = s.pins ∧ (heldToHeard x s).time = s.time ∧ (heldToHeard x s).line = s.line ∧
    (heldToHeard x s).coupling = s.coupling ∧ (heldToHeard x s).roster.asked = s.roster.asked ∧
    (heldToHeard x s).roster.fullLatch = s.roster.fullLatch ∧ (heldToHeard x s).naming = s.naming ∧
    (heldToHeard x s).census.returnState = s.census.returnState ∧
    (heldToHeard x s).census.generation = s.census.generation ∧
    (heldToHeard x s).census.settling = s.census.settling ∧
    (heldToHeard x s).census.firstFrame = s.census.firstFrame ∧ (heldToHeard x s).service = s.service ∧
    (heldToHeard x s).changes = s.changes ∧ (heldToHeard x s).notices = s.notices ∧
    (heldToHeard x s).order = s.order ∧ (heldToHeard x s).snapshot = s.snapshot ∧ (heldToHeard x s).draws = s.draws ∧
    (heldToHeard x s).pending = s.pending := by
  unfold heldToHeard
  try dsimp only
  all_goals simp

@[simp] theorem dropClaim_frame (x : Identity) (s : State) :
    (dropClaim x s).pins = s.pins ∧ (dropClaim x s).time = s.time ∧ (dropClaim x s).line = s.line ∧
    (dropClaim x s).coupling = s.coupling ∧ (dropClaim x s).roster = s.roster ∧
    (dropClaim x s).naming.plan = s.naming.plan ∧ (dropClaim x s).naming.tickets = s.naming.tickets ∧
    (dropClaim x s).census = s.census ∧ (dropClaim x s).service = s.service ∧ (dropClaim x s).changes = s.changes ∧
    (dropClaim x s).notices = s.notices ∧ (dropClaim x s).order = s.order ∧ (dropClaim x s).snapshot = s.snapshot ∧
    (dropClaim x s).draws = s.draws ∧ (dropClaim x s).pending = s.pending := by
  unfold dropClaim
  try dsimp only
  all_goals simp

@[simp] theorem insertEntry_frame (e : Entry) (s : State) :
    (insertEntry e s).pins = s.pins ∧ (insertEntry e s).time = s.time ∧ (insertEntry e s).line = s.line ∧
    (insertEntry e s).coupling = s.coupling ∧ (insertEntry e s).roster.asked = s.roster.asked ∧
    (insertEntry e s).roster.fullLatch = s.roster.fullLatch ∧ (insertEntry e s).naming = s.naming ∧
    (insertEntry e s).census = s.census ∧ (insertEntry e s).service = s.service ∧
    (insertEntry e s).changes = s.changes ∧ (insertEntry e s).notices = s.notices ∧
    (insertEntry e s).order = s.order ∧ (insertEntry e s).snapshot = s.snapshot ∧ (insertEntry e s).draws = s.draws ∧
    (insertEntry e s).pending = s.pending := by
  unfold insertEntry
  try dsimp only
  all_goals simp

@[simp] theorem creationFails_frame (x : Identity) (s : State) :
    (creationFails x s).pins = s.pins ∧ (creationFails x s).time = s.time ∧ (creationFails x s).line = s.line ∧
    (creationFails x s).coupling = s.coupling ∧ (creationFails x s).roster.entries = s.roster.entries ∧
    (creationFails x s).roster.asked = s.roster.asked ∧ (creationFails x s).naming = s.naming ∧
    (creationFails x s).census = s.census ∧ (creationFails x s).service = s.service ∧
    (creationFails x s).notices = s.notices ∧ (creationFails x s).order = s.order ∧
    (creationFails x s).snapshot = s.snapshot ∧ (creationFails x s).draws = s.draws ∧
    (creationFails x s).pending = s.pending := by
  unfold creationFails
  try dsimp only
  repeat' split
  all_goals simp

@[simp] theorem createHeard_frame (x : Identity) (path : Name) (revision : Byte) (s : State) :
    (createHeard x path revision s).pins = s.pins ∧ (createHeard x path revision s).time = s.time ∧
    (createHeard x path revision s).line = s.line ∧ (createHeard x path revision s).coupling = s.coupling ∧
    (createHeard x path revision s).roster.asked = s.roster.asked ∧
    (createHeard x path revision s).naming = s.naming ∧
    (createHeard x path revision s).census.returnState = s.census.returnState ∧
    (createHeard x path revision s).census.generation = s.census.generation ∧
    (createHeard x path revision s).census.settling = s.census.settling ∧
    (createHeard x path revision s).census.firstFrame = s.census.firstFrame ∧
    (createHeard x path revision s).service = s.service ∧ (createHeard x path revision s).notices = s.notices ∧
    (createHeard x path revision s).order = s.order ∧ (createHeard x path revision s).snapshot = s.snapshot ∧
    (createHeard x path revision s).draws = s.draws ∧ (createHeard x path revision s).pending = s.pending := by
  unfold createHeard
  try dsimp only
  repeat' split
  all_goals simp

@[simp] theorem freeEntry_frame (e : Entry) (s : State) :
    (freeEntry e s).pins = s.pins ∧ (freeEntry e s).time = s.time ∧ (freeEntry e s).line = s.line ∧
    (freeEntry e s).coupling = s.coupling ∧ (freeEntry e s).roster.asked = s.roster.asked ∧
    (freeEntry e s).naming.plan = s.naming.plan ∧ (freeEntry e s).naming.tickets = s.naming.tickets ∧
    (freeEntry e s).census = s.census ∧ (freeEntry e s).service = s.service ∧ (freeEntry e s).changes = s.changes ∧
    (freeEntry e s).notices = s.notices ∧ (freeEntry e s).order = s.order ∧ (freeEntry e s).snapshot = s.snapshot ∧
    (freeEntry e s).draws = s.draws ∧ (freeEntry e s).pending = s.pending := by
  unfold freeEntry
  try dsimp only
  all_goals simp

@[simp] theorem removeBehind_frame (kind : ChangeKind) (depth : Nat) (n : Name) (s : State) :
    (removeBehind kind depth n s).pins = s.pins ∧ (removeBehind kind depth n s).time = s.time ∧
    (removeBehind kind depth n s).line = s.line ∧ (removeBehind kind depth n s).coupling = s.coupling ∧
    (removeBehind kind depth n s).roster.asked = s.roster.asked ∧
    (removeBehind kind depth n s).naming.plan = s.naming.plan ∧
    (removeBehind kind depth n s).naming.tickets = s.naming.tickets ∧
    (removeBehind kind depth n s).census = s.census ∧ (removeBehind kind depth n s).notices = s.notices ∧
    (removeBehind kind depth n s).order = s.order ∧ (removeBehind kind depth n s).snapshot = s.snapshot ∧
    (removeBehind kind depth n s).draws = s.draws ∧ (removeBehind kind depth n s).pending = s.pending := by
  induction depth generalizing n s with
  | zero => simp [removeBehind]
  | succ depth ih =>
    unfold removeBehind
    refine ⟨?_, ?_, ?_, ?_, ?_, ?_, ?_, ?_, ?_, ?_, ?_, ?_, ?_⟩
    · refine foldl_keeps (fun t => t.pins) _ (fun t e => ?_) _ _
      try dsimp only
      repeat' split
      all_goals simp [ih]
    · refine foldl_keeps (fun t => t.time) _ (fun t e => ?_) _ _
      try dsimp only
      repeat' split
      all_goals simp [ih]
    · refine foldl_keeps (fun t => t.line) _ (fun t e => ?_) _ _
      try dsimp only
      repeat' split
      all_goals simp [ih]
    · refine foldl_keeps (fun t => t.coupling) _ (fun t e => ?_) _ _
      try dsimp only
      repeat' split
      all_goals simp [ih]
    · refine foldl_keeps (fun t => t.roster.asked) _ (fun t e => ?_) _ _
      try dsimp only
      repeat' split
      all_goals simp [ih]
    · refine foldl_keeps (fun t => t.naming.plan) _ (fun t e => ?_) _ _
      try dsimp only
      repeat' split
      all_goals simp [ih]
    · refine foldl_keeps (fun t => t.naming.tickets) _ (fun t e => ?_) _ _
      try dsimp only
      repeat' split
      all_goals simp [ih]
    · refine foldl_keeps (fun t => t.census) _ (fun t e => ?_) _ _
      try dsimp only
      repeat' split
      all_goals simp [ih]
    · refine foldl_keeps (fun t => t.notices) _ (fun t e => ?_) _ _
      try dsimp only
      repeat' split
      all_goals simp [ih]
    · refine foldl_keeps (fun t => t.order) _ (fun t e => ?_) _ _
      try dsimp only
      repeat' split
      all_goals simp [ih]
    · refine foldl_keeps (fun t => t.snapshot) _ (fun t e => ?_) _ _
      try dsimp only
      repeat' split
      all_goals simp [ih]
    · refine foldl_keeps (fun t => t.draws) _ (fun t e => ?_) _ _
      try dsimp only
      repeat' split
      all_goals simp [ih]
    · refine foldl_keeps (fun t => t.pending) _ (fun t e => ?_) _ _
      try dsimp only
      repeat' split
      all_goals simp [ih]

@[simp] theorem leaveName_frame (x : Identity) (n : Name) (kind : ChangeKind) (s : State) :
    (leaveName x n kind s).pins = s.pins ∧ (leaveName x n kind s).time = s.time ∧
    (leaveName x n kind s).line = s.line ∧ (leaveName x n kind s).coupling = s.coupling ∧
    (leaveName x n kind s).roster.asked = s.roster.asked ∧ (leaveName x n kind s).naming.plan = s.naming.plan ∧
    (leaveName x n kind s).naming.tickets = s.naming.tickets ∧ (leaveName x n kind s).census = s.census ∧
    (leaveName x n kind s).notices = s.notices ∧ (leaveName x n kind s).order = s.order ∧
    (leaveName x n kind s).snapshot = s.snapshot ∧ (leaveName x n kind s).draws = s.draws ∧
    (leaveName x n kind s).pending = s.pending := by
  unfold leaveName
  try dsimp only
  repeat' split
  all_goals simp

@[simp] theorem removeEntry_frame (e : Entry) (kind : ChangeKind) (s : State) :
    (removeEntry e kind s).pins = s.pins ∧ (removeEntry e kind s).time = s.time ∧
    (removeEntry e kind s).line = s.line ∧ (removeEntry e kind s).coupling = s.coupling ∧
    (removeEntry e kind s).roster.asked = s.roster.asked ∧ (removeEntry e kind s).naming.plan = s.naming.plan ∧
    (removeEntry e kind s).naming.tickets = s.naming.tickets ∧ (removeEntry e kind s).census = s.census ∧
    (removeEntry e kind s).notices = s.notices ∧ (removeEntry e kind s).order = s.order ∧
    (removeEntry e kind s).snapshot = s.snapshot ∧ (removeEntry e kind s).draws = s.draws ∧
    (removeEntry e kind s).pending = s.pending := by
  unfold removeEntry
  try dsimp only
  repeat' split
  all_goals simp

@[simp] theorem restartEntry_frame (e : Entry) (f : Entry → Entry) (s : State) :
    (restartEntry e f s).pins = s.pins ∧ (restartEntry e f s).time = s.time ∧ (restartEntry e f s).line = s.line ∧
    (restartEntry e f s).coupling = s.coupling ∧ (restartEntry e f s).roster.asked = s.roster.asked ∧
    (restartEntry e f s).naming.plan = s.naming.plan ∧ (restartEntry e f s).naming.tickets = s.naming.tickets ∧
    (restartEntry e f s).census.returnState = s.census.returnState ∧
    (restartEntry e f s).census.generation = s.census.generation ∧
    (restartEntry e f s).census.settling = s.census.settling ∧
    (restartEntry e f s).census.firstFrame = s.census.firstFrame ∧ (restartEntry e f s).notices = s.notices ∧
    (restartEntry e f s).order = s.order ∧ (restartEntry e f s).snapshot = s.snapshot ∧
    (restartEntry e f s).draws = s.draws ∧ (restartEntry e f s).pending = s.pending := by
  unfold restartEntry
  try dsimp only
  all_goals simp

@[simp] theorem returnEntry_frame (e : Entry) (f : Entry → Entry) (s : State) :
    (returnEntry e f s).pins = s.pins ∧ (returnEntry e f s).time = s.time ∧ (returnEntry e f s).line = s.line ∧
    (returnEntry e f s).coupling = s.coupling ∧ (returnEntry e f s).roster.asked = s.roster.asked ∧
    (returnEntry e f s).naming.plan = s.naming.plan ∧ (returnEntry e f s).naming.tickets = s.naming.tickets ∧
    (returnEntry e f s).census.returnState = s.census.returnState ∧
    (returnEntry e f s).census.generation = s.census.generation ∧
    (returnEntry e f s).census.settling = s.census.settling ∧
    (returnEntry e f s).census.firstFrame = s.census.firstFrame ∧ (returnEntry e f s).notices = s.notices ∧
    (returnEntry e f s).order = s.order ∧ (returnEntry e f s).snapshot = s.snapshot ∧
    (returnEntry e f s).draws = s.draws ∧ (returnEntry e f s).pending = s.pending := by
  unfold returnEntry
  try dsimp only
  all_goals simp

@[simp] theorem demoteEntry_frame (e : Entry) (recordName : Name) (detail : Nat) (s : State) :
    (demoteEntry e recordName detail s).pins = s.pins ∧ (demoteEntry e recordName detail s).time = s.time ∧
    (demoteEntry e recordName detail s).line = s.line ∧ (demoteEntry e recordName detail s).coupling = s.coupling ∧
    (demoteEntry e recordName detail s).roster.asked = s.roster.asked ∧
    (demoteEntry e recordName detail s).naming.plan = s.naming.plan ∧
    (demoteEntry e recordName detail s).naming.tickets = s.naming.tickets ∧
    (demoteEntry e recordName detail s).census.returnState = s.census.returnState ∧
    (demoteEntry e recordName detail s).census.generation = s.census.generation ∧
    (demoteEntry e recordName detail s).census.settling = s.census.settling ∧
    (demoteEntry e recordName detail s).census.firstFrame = s.census.firstFrame ∧
    (demoteEntry e recordName detail s).notices = s.notices ∧ (demoteEntry e recordName detail s).order = s.order ∧
    (demoteEntry e recordName detail s).snapshot = s.snapshot ∧ (demoteEntry e recordName detail s).draws = s.draws ∧
    (demoteEntry e recordName detail s).pending = s.pending := by
  unfold demoteEntry
  try dsimp only
  all_goals simp

@[simp] theorem loseEntry_frame (e : Entry) (detail : Nat) (s : State) :
    (loseEntry e detail s).pins = s.pins ∧ (loseEntry e detail s).time = s.time ∧
    (loseEntry e detail s).line = s.line ∧ (loseEntry e detail s).coupling = s.coupling ∧
    (loseEntry e detail s).roster.asked = s.roster.asked ∧
    (loseEntry e detail s).roster.fullLatch = s.roster.fullLatch ∧ (loseEntry e detail s).naming = s.naming ∧
    (loseEntry e detail s).census = s.census ∧ (loseEntry e detail s).notices = s.notices ∧
    (loseEntry e detail s).order = s.order ∧ (loseEntry e detail s).snapshot = s.snapshot ∧
    (loseEntry e detail s).draws = s.draws ∧ (loseEntry e detail s).pending = s.pending := by
  unfold loseEntry
  try dsimp only
  all_goals simp

@[simp] theorem cascadeLoss_frame (depth : Nat) (n : Name) (s : State) :
    (cascadeLoss depth n s).pins = s.pins ∧ (cascadeLoss depth n s).time = s.time ∧
    (cascadeLoss depth n s).line = s.line ∧ (cascadeLoss depth n s).coupling = s.coupling ∧
    (cascadeLoss depth n s).roster.asked = s.roster.asked ∧ (cascadeLoss depth n s).naming.plan = s.naming.plan ∧
    (cascadeLoss depth n s).naming.tickets = s.naming.tickets ∧ (cascadeLoss depth n s).census = s.census ∧
    (cascadeLoss depth n s).notices = s.notices ∧ (cascadeLoss depth n s).order = s.order ∧
    (cascadeLoss depth n s).snapshot = s.snapshot ∧ (cascadeLoss depth n s).draws = s.draws ∧
    (cascadeLoss depth n s).pending = s.pending := by
  induction depth generalizing n s with
  | zero => simp [cascadeLoss]
  | succ depth ih =>
    unfold cascadeLoss
    refine ⟨?_, ?_, ?_, ?_, ?_, ?_, ?_, ?_, ?_, ?_, ?_, ?_, ?_⟩
    · refine foldl_keeps (fun t => t.pins) _ (fun t e => ?_) _ _
      try dsimp only
      repeat' split
      all_goals simp [ih]
    · refine foldl_keeps (fun t => t.time) _ (fun t e => ?_) _ _
      try dsimp only
      repeat' split
      all_goals simp [ih]
    · refine foldl_keeps (fun t => t.line) _ (fun t e => ?_) _ _
      try dsimp only
      repeat' split
      all_goals simp [ih]
    · refine foldl_keeps (fun t => t.coupling) _ (fun t e => ?_) _ _
      try dsimp only
      repeat' split
      all_goals simp [ih]
    · refine foldl_keeps (fun t => t.roster.asked) _ (fun t e => ?_) _ _
      try dsimp only
      repeat' split
      all_goals simp [ih]
    · refine foldl_keeps (fun t => t.naming.plan) _ (fun t e => ?_) _ _
      try dsimp only
      repeat' split
      all_goals simp [ih]
    · refine foldl_keeps (fun t => t.naming.tickets) _ (fun t e => ?_) _ _
      try dsimp only
      repeat' split
      all_goals simp [ih]
    · refine foldl_keeps (fun t => t.census) _ (fun t e => ?_) _ _
      try dsimp only
      repeat' split
      all_goals simp [ih]
    · refine foldl_keeps (fun t => t.notices) _ (fun t e => ?_) _ _
      try dsimp only
      repeat' split
      all_goals simp [ih]
    · refine foldl_keeps (fun t => t.order) _ (fun t e => ?_) _ _
      try dsimp only
      repeat' split
      all_goals simp [ih]
    · refine foldl_keeps (fun t => t.snapshot) _ (fun t e => ?_) _ _
      try dsimp only
      repeat' split
      all_goals simp [ih]
    · refine foldl_keeps (fun t => t.draws) _ (fun t e => ?_) _ _
      try dsimp only
      repeat' split
      all_goals simp [ih]
    · refine foldl_keeps (fun t => t.pending) _ (fun t e => ?_) _ _
      try dsimp only
      repeat' split
      all_goals simp [ih]

@[simp] theorem refreshHolder_frame (e : Entry) (s : State) :
    (refreshHolder e s).pins = s.pins ∧ (refreshHolder e s).time = s.time ∧ (refreshHolder e s).line = s.line ∧
    (refreshHolder e s).coupling = s.coupling ∧ (refreshHolder e s).roster.asked = s.roster.asked ∧
    (refreshHolder e s).roster.fullLatch = s.roster.fullLatch ∧ (refreshHolder e s).naming = s.naming ∧
    (refreshHolder e s).census = s.census ∧ (refreshHolder e s).service = s.service ∧
    (refreshHolder e s).notices = s.notices ∧ (refreshHolder e s).order = s.order ∧
    (refreshHolder e s).snapshot = s.snapshot ∧ (refreshHolder e s).draws = s.draws ∧
    (refreshHolder e s).pending = s.pending := by
  unfold refreshHolder
  try dsimp only
  repeat' split
  all_goals simp

@[simp] theorem askName_frame (n : Name) (s : State) :
    (askName n s).pins = s.pins ∧ (askName n s).time = s.time ∧ (askName n s).line.enabled = s.line.enabled ∧
    (askName n s).line.fault = s.line.fault ∧ (askName n s).line.recessive8 = s.line.recessive8 ∧
    (askName n s).line.stuck = s.line.stuck ∧ (askName n s).line.errors = s.line.errors ∧
    (askName n s).line.rx = s.line.rx ∧ (askName n s).line.inFlight = s.line.inFlight ∧
    (askName n s).line.foreign = s.line.foreign ∧ (askName n s).line.beatSeq = s.line.beatSeq ∧
    (askName n s).coupling = s.coupling ∧ (askName n s).roster.entries = s.roster.entries ∧
    (askName n s).roster.fullLatch = s.roster.fullLatch ∧ (askName n s).naming = s.naming ∧
    (askName n s).census = s.census ∧ (askName n s).service = s.service ∧ (askName n s).changes = s.changes ∧
    (askName n s).notices = s.notices ∧ (askName n s).order = s.order ∧ (askName n s).snapshot = s.snapshot ∧
    (askName n s).draws = s.draws ∧ (askName n s).pending = s.pending := by
  unfold askName
  try dsimp only
  repeat' split
  all_goals simp

@[simp] theorem senderReport_frame (n : Name) (s : State) :
    (senderReport n s).pins = s.pins ∧ (senderReport n s).time = s.time ∧
    (senderReport n s).line.enabled = s.line.enabled ∧ (senderReport n s).line.fault = s.line.fault ∧
    (senderReport n s).line.recessive8 = s.line.recessive8 ∧ (senderReport n s).line.stuck = s.line.stuck ∧
    (senderReport n s).line.errors = s.line.errors ∧ (senderReport n s).line.rx = s.line.rx ∧
    (senderReport n s).line.inFlight = s.line.inFlight ∧ (senderReport n s).line.beatSeq = s.line.beatSeq ∧
    (senderReport n s).coupling = s.coupling ∧ (senderReport n s).roster.fullLatch = s.roster.fullLatch ∧
    (senderReport n s).naming = s.naming ∧ (senderReport n s).census = s.census ∧
    (senderReport n s).service = s.service ∧ (senderReport n s).notices = s.notices ∧
    (senderReport n s).order = s.order ∧ (senderReport n s).snapshot = s.snapshot ∧
    (senderReport n s).draws = s.draws ∧ (senderReport n s).pending = s.pending := by
  unfold senderReport
  try dsimp only
  repeat' split
  all_goals simp

@[simp] theorem leaveAsked_frame (n : Name) (s : State) :
    (leaveAsked n s).pins = s.pins ∧ (leaveAsked n s).time = s.time ∧ (leaveAsked n s).line = s.line ∧
    (leaveAsked n s).coupling = s.coupling ∧ (leaveAsked n s).roster.entries = s.roster.entries ∧
    (leaveAsked n s).roster.fullLatch = s.roster.fullLatch ∧ (leaveAsked n s).naming = s.naming ∧
    (leaveAsked n s).census = s.census ∧ (leaveAsked n s).service = s.service ∧ (leaveAsked n s).changes = s.changes ∧
    (leaveAsked n s).notices = s.notices ∧ (leaveAsked n s).order = s.order ∧ (leaveAsked n s).snapshot = s.snapshot ∧
    (leaveAsked n s).draws = s.draws ∧ (leaveAsked n s).pending = s.pending := by
  unfold leaveAsked
  try dsimp only
  all_goals simp

@[simp] theorem emptyRoster_frame (s : State) :
    (emptyRoster s).pins = s.pins ∧ (emptyRoster s).time = s.time ∧ (emptyRoster s).line = s.line ∧
    (emptyRoster s).coupling = s.coupling ∧ (emptyRoster s).naming = s.naming ∧ (emptyRoster s).census = s.census ∧
    (emptyRoster s).service = s.service ∧ (emptyRoster s).changes = s.changes ∧ (emptyRoster s).notices = s.notices ∧
    (emptyRoster s).order = s.order ∧ (emptyRoster s).snapshot = s.snapshot ∧ (emptyRoster s).draws = s.draws ∧
    (emptyRoster s).pending = s.pending := by
  unfold emptyRoster
  try dsimp only
  all_goals simp

end Sys2Proof.Machine
end

