-- ==== Sys2Proof/Laws/FrameNaming.lean ====
section
/-! SUPPORT. Frames of the naming operations: for each, every block and field it never changes, as simp lemmas. -/

namespace Sys2Proof.Machine

@[simp] theorem emptyNaming_frame (s : State) :
    (emptyNaming s).pins = s.pins ∧ (emptyNaming s).time = s.time ∧ (emptyNaming s).line = s.line ∧
    (emptyNaming s).coupling = s.coupling ∧ (emptyNaming s).roster = s.roster ∧ (emptyNaming s).census = s.census ∧
    (emptyNaming s).service = s.service ∧ (emptyNaming s).changes = s.changes ∧ (emptyNaming s).notices = s.notices ∧
    (emptyNaming s).order = s.order ∧ (emptyNaming s).snapshot = s.snapshot ∧ (emptyNaming s).draws = s.draws ∧
    (emptyNaming s).pending = s.pending := by
  unfold emptyNaming
  try dsimp only
  all_goals simp

@[simp] theorem objectSentFor_frame (x : Identity) (s : State) :
    (objectSentFor x s).pins = s.pins ∧ (objectSentFor x s).time = s.time ∧ (objectSentFor x s).line = s.line ∧
    (objectSentFor x s).coupling = s.coupling ∧ (objectSentFor x s).roster = s.roster ∧
    (objectSentFor x s).naming.plan = s.naming.plan ∧ (objectSentFor x s).naming.tickets = s.naming.tickets ∧
    (objectSentFor x s).census = s.census ∧ (objectSentFor x s).service = s.service ∧
    (objectSentFor x s).changes = s.changes ∧ (objectSentFor x s).notices = s.notices ∧
    (objectSentFor x s).order = s.order ∧ (objectSentFor x s).snapshot = s.snapshot ∧
    (objectSentFor x s).draws = s.draws ∧ (objectSentFor x s).pending = s.pending := by
  unfold objectSentFor
  try dsimp only
  all_goals simp

@[simp] theorem countObjection_frame (x : Identity) (s : State) :
    (countObjection x s).pins = s.pins ∧ (countObjection x s).time = s.time ∧ (countObjection x s).line = s.line ∧
    (countObjection x s).coupling = s.coupling ∧ (countObjection x s).roster.asked = s.roster.asked ∧
    (countObjection x s).roster.fullLatch = s.roster.fullLatch ∧ (countObjection x s).naming = s.naming ∧
    (countObjection x s).census = s.census ∧ (countObjection x s).service = s.service ∧
    (countObjection x s).notices = s.notices ∧ (countObjection x s).order = s.order ∧
    (countObjection x s).snapshot = s.snapshot ∧ (countObjection x s).draws = s.draws ∧
    (countObjection x s).pending = s.pending := by
  unfold countObjection
  try dsimp only
  repeat' split
  all_goals simp

@[simp] theorem raiseObjection_frame (x : Identity) (n : Name) (reason : Reason) (counter : Name) (s : State) :
    (raiseObjection x n reason counter s).pins = s.pins ∧ (raiseObjection x n reason counter s).time = s.time ∧
    (raiseObjection x n reason counter s).line.enabled = s.line.enabled ∧
    (raiseObjection x n reason counter s).line.fault = s.line.fault ∧
    (raiseObjection x n reason counter s).line.recessive8 = s.line.recessive8 ∧
    (raiseObjection x n reason counter s).line.stuck = s.line.stuck ∧
    (raiseObjection x n reason counter s).line.errors = s.line.errors ∧
    (raiseObjection x n reason counter s).line.rx = s.line.rx ∧
    (raiseObjection x n reason counter s).line.inFlight = s.line.inFlight ∧
    (raiseObjection x n reason counter s).line.foreign = s.line.foreign ∧
    (raiseObjection x n reason counter s).line.beatSeq = s.line.beatSeq ∧
    (raiseObjection x n reason counter s).coupling = s.coupling ∧
    (raiseObjection x n reason counter s).roster.asked = s.roster.asked ∧
    (raiseObjection x n reason counter s).roster.fullLatch = s.roster.fullLatch ∧
    (raiseObjection x n reason counter s).naming.plan = s.naming.plan ∧
    (raiseObjection x n reason counter s).naming.claims = s.naming.claims ∧
    (raiseObjection x n reason counter s).census = s.census ∧
    (raiseObjection x n reason counter s).service = s.service ∧
    (raiseObjection x n reason counter s).notices = s.notices ∧
    (raiseObjection x n reason counter s).order = s.order ∧
    (raiseObjection x n reason counter s).snapshot = s.snapshot ∧
    (raiseObjection x n reason counter s).draws = s.draws ∧ (raiseObjection x n reason counter s).pending = s.pending := by
  unfold raiseObjection
  try dsimp only
  repeat' split
  all_goals simp

@[simp] theorem disputeHold_frame (x : Identity) (n : Name) (reason : Reason) (counter : Name) (s : State) :
    (disputeHold x n reason counter s).pins = s.pins ∧ (disputeHold x n reason counter s).time = s.time ∧
    (disputeHold x n reason counter s).line.enabled = s.line.enabled ∧
    (disputeHold x n reason counter s).line.fault = s.line.fault ∧
    (disputeHold x n reason counter s).line.recessive8 = s.line.recessive8 ∧
    (disputeHold x n reason counter s).line.stuck = s.line.stuck ∧
    (disputeHold x n reason counter s).line.errors = s.line.errors ∧
    (disputeHold x n reason counter s).line.rx = s.line.rx ∧
    (disputeHold x n reason counter s).line.inFlight = s.line.inFlight ∧
    (disputeHold x n reason counter s).line.foreign = s.line.foreign ∧
    (disputeHold x n reason counter s).line.beatSeq = s.line.beatSeq ∧
    (disputeHold x n reason counter s).coupling = s.coupling ∧ (disputeHold x n reason counter s).roster = s.roster ∧
    (disputeHold x n reason counter s).naming = s.naming ∧ (disputeHold x n reason counter s).census = s.census ∧
    (disputeHold x n reason counter s).service = s.service ∧ (disputeHold x n reason counter s).changes = s.changes ∧
    (disputeHold x n reason counter s).notices = s.notices ∧ (disputeHold x n reason counter s).order = s.order ∧
    (disputeHold x n reason counter s).snapshot = s.snapshot ∧ (disputeHold x n reason counter s).draws = s.draws ∧
    (disputeHold x n reason counter s).pending = s.pending := by
  unfold disputeHold
  try dsimp only
  all_goals simp

@[simp] theorem acceptClaim_frame (x : Identity) (n : Name) (s : State) :
    (acceptClaim x n s).pins = s.pins ∧ (acceptClaim x n s).time = s.time ∧ (acceptClaim x n s).line = s.line ∧
    (acceptClaim x n s).coupling = s.coupling ∧ (acceptClaim x n s).roster.asked = s.roster.asked ∧
    (acceptClaim x n s).roster.fullLatch = s.roster.fullLatch ∧ (acceptClaim x n s).naming.plan = s.naming.plan ∧
    (acceptClaim x n s).naming.tickets = s.naming.tickets ∧ (acceptClaim x n s).census = s.census ∧
    (acceptClaim x n s).service = s.service ∧ (acceptClaim x n s).changes = s.changes ∧
    (acceptClaim x n s).notices = s.notices ∧ (acceptClaim x n s).order = s.order ∧
    (acceptClaim x n s).snapshot = s.snapshot ∧ (acceptClaim x n s).draws = s.draws ∧
    (acceptClaim x n s).pending = s.pending := by
  unfold acceptClaim
  try dsimp only
  all_goals simp

@[simp] theorem judgeClaim_frame (x : Identity) (n : Name) (s : State) :
    (judgeClaim x n s).pins = s.pins ∧ (judgeClaim x n s).time = s.time ∧
    (judgeClaim x n s).line.enabled = s.line.enabled ∧ (judgeClaim x n s).line.fault = s.line.fault ∧
    (judgeClaim x n s).line.recessive8 = s.line.recessive8 ∧ (judgeClaim x n s).line.stuck = s.line.stuck ∧
    (judgeClaim x n s).line.errors = s.line.errors ∧ (judgeClaim x n s).line.rx = s.line.rx ∧
    (judgeClaim x n s).line.inFlight = s.line.inFlight ∧ (judgeClaim x n s).line.foreign = s.line.foreign ∧
    (judgeClaim x n s).line.beatSeq = s.line.beatSeq ∧ (judgeClaim x n s).coupling = s.coupling ∧
    (judgeClaim x n s).roster.asked = s.roster.asked ∧ (judgeClaim x n s).roster.fullLatch = s.roster.fullLatch ∧
    (judgeClaim x n s).naming.plan = s.naming.plan ∧ (judgeClaim x n s).census = s.census ∧
    (judgeClaim x n s).service = s.service ∧ (judgeClaim x n s).notices = s.notices ∧
    (judgeClaim x n s).order = s.order ∧ (judgeClaim x n s).snapshot = s.snapshot ∧
    (judgeClaim x n s).draws = s.draws ∧ (judgeClaim x n s).pending = s.pending := by
  unfold judgeClaim
  try dsimp only
  repeat' split
  all_goals simp

@[simp] theorem takeClaim_frame (x : Identity) (n : Name) (s : State) :
    (takeClaim x n s).pins = s.pins ∧ (takeClaim x n s).time = s.time ∧
    (takeClaim x n s).line.enabled = s.line.enabled ∧ (takeClaim x n s).line.fault = s.line.fault ∧
    (takeClaim x n s).line.recessive8 = s.line.recessive8 ∧ (takeClaim x n s).line.stuck = s.line.stuck ∧
    (takeClaim x n s).line.errors = s.line.errors ∧ (takeClaim x n s).line.rx = s.line.rx ∧
    (takeClaim x n s).line.inFlight = s.line.inFlight ∧ (takeClaim x n s).line.beatSeq = s.line.beatSeq ∧
    (takeClaim x n s).coupling = s.coupling ∧ (takeClaim x n s).roster.asked = s.roster.asked ∧
    (takeClaim x n s).naming.plan = s.naming.plan ∧ (takeClaim x n s).census.returnState = s.census.returnState ∧
    (takeClaim x n s).census.generation = s.census.generation ∧
    (takeClaim x n s).census.settling = s.census.settling ∧
    (takeClaim x n s).census.firstFrame = s.census.firstFrame ∧ (takeClaim x n s).notices = s.notices ∧
    (takeClaim x n s).order = s.order ∧ (takeClaim x n s).snapshot = s.snapshot ∧ (takeClaim x n s).draws = s.draws ∧
    (takeClaim x n s).pending = s.pending := by
  unfold takeClaim
  try dsimp only
  repeat' split
  all_goals simp

@[simp] theorem withdrawObjections_frame (x : Identity) (d : Name) (conflict : Bool) (s : State) :
    (withdrawObjections x d conflict s).pins = s.pins ∧ (withdrawObjections x d conflict s).time = s.time ∧
    (withdrawObjections x d conflict s).line.enabled = s.line.enabled ∧
    (withdrawObjections x d conflict s).line.fault = s.line.fault ∧
    (withdrawObjections x d conflict s).line.recessive8 = s.line.recessive8 ∧
    (withdrawObjections x d conflict s).line.stuck = s.line.stuck ∧
    (withdrawObjections x d conflict s).line.errors = s.line.errors ∧
    (withdrawObjections x d conflict s).line.rx = s.line.rx ∧
    (withdrawObjections x d conflict s).line.inFlight = s.line.inFlight ∧
    (withdrawObjections x d conflict s).line.txDrops = s.line.txDrops ∧
    (withdrawObjections x d conflict s).line.foreign = s.line.foreign ∧
    (withdrawObjections x d conflict s).line.beatSeq = s.line.beatSeq ∧
    (withdrawObjections x d conflict s).line.nextTag = s.line.nextTag ∧
    (withdrawObjections x d conflict s).coupling = s.coupling ∧
    (withdrawObjections x d conflict s).roster = s.roster ∧
    (withdrawObjections x d conflict s).naming.plan = s.naming.plan ∧
    (withdrawObjections x d conflict s).naming.claims = s.naming.claims ∧
    (withdrawObjections x d conflict s).census = s.census ∧ (withdrawObjections x d conflict s).service = s.service ∧
    (withdrawObjections x d conflict s).changes = s.changes ∧
    (withdrawObjections x d conflict s).notices = s.notices ∧ (withdrawObjections x d conflict s).order = s.order ∧
    (withdrawObjections x d conflict s).snapshot = s.snapshot ∧ (withdrawObjections x d conflict s).draws = s.draws ∧
    (withdrawObjections x d conflict s).pending = s.pending := by
  unfold withdrawObjections
  try dsimp only
  all_goals simp

@[simp] theorem heardConflict_frame (x : Identity) (d : Name) (s : State) :
    (heardConflict x d s).pins = s.pins ∧ (heardConflict x d s).time = s.time ∧ (heardConflict x d s).line = s.line ∧
    (heardConflict x d s).coupling = s.coupling ∧ (heardConflict x d s).roster.asked = s.roster.asked ∧
    (heardConflict x d s).naming.plan = s.naming.plan ∧ (heardConflict x d s).naming.tickets = s.naming.tickets ∧
    (heardConflict x d s).census.returnState = s.census.returnState ∧
    (heardConflict x d s).census.generation = s.census.generation ∧
    (heardConflict x d s).census.settling = s.census.settling ∧
    (heardConflict x d s).census.firstFrame = s.census.firstFrame ∧ (heardConflict x d s).notices = s.notices ∧
    (heardConflict x d s).order = s.order ∧ (heardConflict x d s).snapshot = s.snapshot ∧
    (heardConflict x d s).draws = s.draws ∧ (heardConflict x d s).pending = s.pending := by
  unfold heardConflict
  try dsimp only
  repeat' split
  all_goals simp

@[simp] theorem takeObject_frame (x : Identity) (d : Name) (reason : Nat) (s : State) :
    (takeObject x d reason s).pins = s.pins ∧ (takeObject x d reason s).time = s.time ∧
    (takeObject x d reason s).line.enabled = s.line.enabled ∧ (takeObject x d reason s).line.fault = s.line.fault ∧
    (takeObject x d reason s).line.recessive8 = s.line.recessive8 ∧
    (takeObject x d reason s).line.stuck = s.line.stuck ∧ (takeObject x d reason s).line.errors = s.line.errors ∧
    (takeObject x d reason s).line.rx = s.line.rx ∧ (takeObject x d reason s).line.inFlight = s.line.inFlight ∧
    (takeObject x d reason s).line.txDrops = s.line.txDrops ∧
    (takeObject x d reason s).line.foreign = s.line.foreign ∧
    (takeObject x d reason s).line.beatSeq = s.line.beatSeq ∧
    (takeObject x d reason s).line.nextTag = s.line.nextTag ∧ (takeObject x d reason s).coupling = s.coupling ∧
    (takeObject x d reason s).roster.asked = s.roster.asked ∧ (takeObject x d reason s).naming.plan = s.naming.plan ∧
    (takeObject x d reason s).census.returnState = s.census.returnState ∧
    (takeObject x d reason s).census.generation = s.census.generation ∧
    (takeObject x d reason s).census.settling = s.census.settling ∧
    (takeObject x d reason s).census.firstFrame = s.census.firstFrame ∧
    (takeObject x d reason s).notices = s.notices ∧ (takeObject x d reason s).order = s.order ∧
    (takeObject x d reason s).snapshot = s.snapshot ∧ (takeObject x d reason s).draws = s.draws ∧
    (takeObject x d reason s).pending = s.pending := by
  unfold takeObject
  try dsimp only
  repeat' split
  all_goals simp

@[simp] theorem nameEntry_frame (x : Identity) (n : Name) (s : State) :
    (nameEntry x n s).pins = s.pins ∧ (nameEntry x n s).time = s.time ∧ (nameEntry x n s).line = s.line ∧
    (nameEntry x n s).coupling = s.coupling ∧ (nameEntry x n s).roster.asked = s.roster.asked ∧
    (nameEntry x n s).roster.fullLatch = s.roster.fullLatch ∧ (nameEntry x n s).census = s.census ∧
    (nameEntry x n s).service = s.service ∧ (nameEntry x n s).changes = s.changes ∧
    (nameEntry x n s).notices = s.notices ∧ (nameEntry x n s).order = s.order ∧
    (nameEntry x n s).snapshot = s.snapshot ∧ (nameEntry x n s).draws = s.draws ∧
    (nameEntry x n s).pending = s.pending := by
  unfold nameEntry
  try dsimp only
  all_goals simp

@[simp] theorem acceptHold_frame (x : Identity) (n : Name) (s : State) :
    (acceptHold x n s).pins = s.pins ∧ (acceptHold x n s).time = s.time ∧ (acceptHold x n s).line = s.line ∧
    (acceptHold x n s).coupling = s.coupling ∧ (acceptHold x n s).roster.asked = s.roster.asked ∧
    (acceptHold x n s).roster.fullLatch = s.roster.fullLatch ∧ (acceptHold x n s).census = s.census ∧
    (acceptHold x n s).service = s.service ∧ (acceptHold x n s).notices = s.notices ∧
    (acceptHold x n s).order = s.order ∧ (acceptHold x n s).snapshot = s.snapshot ∧
    (acceptHold x n s).draws = s.draws ∧ (acceptHold x n s).pending = s.pending := by
  unfold acceptHold
  try dsimp only
  all_goals simp

@[simp] theorem adopted_frame (x : Identity) (n : Name) (s : State) :
    (adopted x n s).pins = s.pins ∧ (adopted x n s).time = s.time ∧ (adopted x n s).line = s.line ∧
    (adopted x n s).coupling = s.coupling ∧ (adopted x n s).roster.asked = s.roster.asked ∧
    (adopted x n s).roster.fullLatch = s.roster.fullLatch ∧ (adopted x n s).census.generation = s.census.generation ∧
    (adopted x n s).census.settling = s.census.settling ∧ (adopted x n s).census.firstFrame = s.census.firstFrame ∧
    (adopted x n s).census.deadline = s.census.deadline ∧ (adopted x n s).service = s.service ∧
    (adopted x n s).notices = s.notices ∧ (adopted x n s).order = s.order ∧ (adopted x n s).snapshot = s.snapshot ∧
    (adopted x n s).draws = s.draws ∧ (adopted x n s).pending = s.pending := by
  unfold adopted
  try dsimp only
  all_goals simp

@[simp] theorem adoptHold_frame (x : Identity) (n : Name) (s : State) :
    (adoptHold x n s).pins = s.pins ∧ (adoptHold x n s).time = s.time ∧
    (adoptHold x n s).line.enabled = s.line.enabled ∧ (adoptHold x n s).line.fault = s.line.fault ∧
    (adoptHold x n s).line.recessive8 = s.line.recessive8 ∧ (adoptHold x n s).line.stuck = s.line.stuck ∧
    (adoptHold x n s).line.errors = s.line.errors ∧ (adoptHold x n s).line.rx = s.line.rx ∧
    (adoptHold x n s).line.inFlight = s.line.inFlight ∧ (adoptHold x n s).line.foreign = s.line.foreign ∧
    (adoptHold x n s).line.beatSeq = s.line.beatSeq ∧ (adoptHold x n s).coupling = s.coupling ∧
    (adoptHold x n s).roster.asked = s.roster.asked ∧ (adoptHold x n s).census.generation = s.census.generation ∧
    (adoptHold x n s).census.settling = s.census.settling ∧
    (adoptHold x n s).census.firstFrame = s.census.firstFrame ∧
    (adoptHold x n s).census.deadline = s.census.deadline ∧ (adoptHold x n s).service = s.service ∧
    (adoptHold x n s).notices = s.notices ∧ (adoptHold x n s).order = s.order ∧
    (adoptHold x n s).snapshot = s.snapshot ∧ (adoptHold x n s).draws = s.draws ∧
    (adoptHold x n s).pending = s.pending := by
  unfold adoptHold
  try dsimp only
  repeat' split
  all_goals simp

@[simp] theorem conflictHold_frame (x : Identity) (n : Name) (s : State) :
    (conflictHold x n s).pins = s.pins ∧ (conflictHold x n s).time = s.time ∧
    (conflictHold x n s).line.enabled = s.line.enabled ∧ (conflictHold x n s).line.fault = s.line.fault ∧
    (conflictHold x n s).line.recessive8 = s.line.recessive8 ∧ (conflictHold x n s).line.stuck = s.line.stuck ∧
    (conflictHold x n s).line.errors = s.line.errors ∧ (conflictHold x n s).line.rx = s.line.rx ∧
    (conflictHold x n s).line.inFlight = s.line.inFlight ∧ (conflictHold x n s).line.foreign = s.line.foreign ∧
    (conflictHold x n s).line.beatSeq = s.line.beatSeq ∧ (conflictHold x n s).coupling = s.coupling ∧
    (conflictHold x n s).roster.asked = s.roster.asked ∧ (conflictHold x n s).naming.plan = s.naming.plan ∧
    (conflictHold x n s).naming.tickets = s.naming.tickets ∧
    (conflictHold x n s).census.returnState = s.census.returnState ∧
    (conflictHold x n s).census.generation = s.census.generation ∧
    (conflictHold x n s).census.settling = s.census.settling ∧
    (conflictHold x n s).census.firstFrame = s.census.firstFrame ∧ (conflictHold x n s).notices = s.notices ∧
    (conflictHold x n s).order = s.order ∧ (conflictHold x n s).snapshot = s.snapshot ∧
    (conflictHold x n s).draws = s.draws ∧ (conflictHold x n s).pending = s.pending := by
  unfold conflictHold
  try dsimp only
  repeat' split
  all_goals simp

@[simp] theorem judgeHold_frame (x : Identity) (n : Name) (s : State) :
    (judgeHold x n s).pins = s.pins ∧ (judgeHold x n s).time = s.time ∧
    (judgeHold x n s).line.enabled = s.line.enabled ∧ (judgeHold x n s).line.fault = s.line.fault ∧
    (judgeHold x n s).line.recessive8 = s.line.recessive8 ∧ (judgeHold x n s).line.stuck = s.line.stuck ∧
    (judgeHold x n s).line.errors = s.line.errors ∧ (judgeHold x n s).line.rx = s.line.rx ∧
    (judgeHold x n s).line.inFlight = s.line.inFlight ∧ (judgeHold x n s).line.beatSeq = s.line.beatSeq ∧
    (judgeHold x n s).coupling = s.coupling ∧ (judgeHold x n s).roster.asked = s.roster.asked ∧
    (judgeHold x n s).census.generation = s.census.generation ∧
    (judgeHold x n s).census.settling = s.census.settling ∧
    (judgeHold x n s).census.firstFrame = s.census.firstFrame ∧ (judgeHold x n s).notices = s.notices ∧
    (judgeHold x n s).order = s.order ∧ (judgeHold x n s).snapshot = s.snapshot ∧ (judgeHold x n s).draws = s.draws ∧
    (judgeHold x n s).pending = s.pending := by
  unfold judgeHold
  try dsimp only
  repeat' split
  all_goals simp

@[simp] theorem pingAnswered_frame (x : Identity) (n : Name) (s : State) :
    (pingAnswered x n s).pins = s.pins ∧ (pingAnswered x n s).time = s.time ∧ (pingAnswered x n s).line = s.line ∧
    (pingAnswered x n s).coupling = s.coupling ∧ (pingAnswered x n s).roster = s.roster ∧
    (pingAnswered x n s).naming = s.naming ∧ (pingAnswered x n s).census = s.census ∧
    (pingAnswered x n s).service = s.service ∧ (pingAnswered x n s).changes = s.changes ∧
    (pingAnswered x n s).notices = s.notices ∧ (pingAnswered x n s).order.phase = s.order.phase ∧
    (pingAnswered x n s).order.setup = s.order.setup ∧ (pingAnswered x n s).order.opcode = s.order.opcode ∧
    (pingAnswered x n s).order.operand = s.order.operand ∧ (pingAnswered x n s).order.data = s.order.data ∧
    (pingAnswered x n s).snapshot = s.snapshot ∧ (pingAnswered x n s).draws = s.draws ∧
    (pingAnswered x n s).pending = s.pending := by
  unfold pingAnswered
  try dsimp only
  repeat' split
  all_goals simp

@[simp] theorem takeHold_frame (x : Identity) (n : Name) (s : State) :
    (takeHold x n s).pins = s.pins ∧ (takeHold x n s).time = s.time ∧ (takeHold x n s).line.enabled = s.line.enabled ∧
    (takeHold x n s).line.fault = s.line.fault ∧ (takeHold x n s).line.recessive8 = s.line.recessive8 ∧
    (takeHold x n s).line.stuck = s.line.stuck ∧ (takeHold x n s).line.errors = s.line.errors ∧
    (takeHold x n s).line.rx = s.line.rx ∧ (takeHold x n s).line.inFlight = s.line.inFlight ∧
    (takeHold x n s).line.beatSeq = s.line.beatSeq ∧ (takeHold x n s).coupling = s.coupling ∧
    (takeHold x n s).census.generation = s.census.generation ∧ (takeHold x n s).census.settling = s.census.settling ∧
    (takeHold x n s).census.firstFrame = s.census.firstFrame ∧ (takeHold x n s).notices = s.notices ∧
    (takeHold x n s).order.phase = s.order.phase ∧ (takeHold x n s).order.setup = s.order.setup ∧
    (takeHold x n s).order.opcode = s.order.opcode ∧ (takeHold x n s).order.operand = s.order.operand ∧
    (takeHold x n s).order.data = s.order.data ∧ (takeHold x n s).snapshot = s.snapshot ∧
    (takeHold x n s).draws = s.draws ∧ (takeHold x n s).pending = s.pending := by
  unfold takeHold
  try dsimp only
  all_goals simp

end Sys2Proof.Machine
end

