-- ==== Sys2Proof/Laws/FrameCoupling.lean ====
section
/-! SUPPORT. Frames of the coupling operations: for each, every block and field it never changes, as simp lemmas. -/

namespace Sys2Proof.Machine

@[simp] theorem syncLine_frame (s : State) :
    (syncLine s).pins = s.pins ∧ (syncLine s).time = s.time ∧ (syncLine s).line.fault = s.line.fault ∧
    (syncLine s).line.stuck = s.line.stuck ∧ (syncLine s).line.errors = s.line.errors ∧
    (syncLine s).line.txList = s.line.txList ∧ (syncLine s).line.txDrops = s.line.txDrops ∧
    (syncLine s).line.foreign = s.line.foreign ∧ (syncLine s).line.beatSeq = s.line.beatSeq ∧
    (syncLine s).line.nextTag = s.line.nextTag ∧ (syncLine s).coupling = s.coupling ∧ (syncLine s).roster = s.roster ∧
    (syncLine s).naming = s.naming ∧ (syncLine s).census = s.census ∧ (syncLine s).service = s.service ∧
    (syncLine s).changes = s.changes ∧ (syncLine s).notices = s.notices ∧ (syncLine s).order = s.order ∧
    (syncLine s).snapshot = s.snapshot ∧ (syncLine s).draws = s.draws ∧ (syncLine s).pending = s.pending := by
  unfold syncLine
  try dsimp only
  repeat' split
  all_goals simp

@[simp] theorem beginFreeze_frame (s : State) :
    (beginFreeze s).pins = s.pins ∧ (beginFreeze s).time.now = s.time.now ∧ (beginFreeze s).time.beat = s.time.beat ∧
    (beginFreeze s).line = s.line ∧ (beginFreeze s).coupling = s.coupling ∧ (beginFreeze s).roster = s.roster ∧
    (beginFreeze s).naming = s.naming ∧ (beginFreeze s).census = s.census ∧ (beginFreeze s).service = s.service ∧
    (beginFreeze s).changes = s.changes ∧ (beginFreeze s).notices = s.notices ∧ (beginFreeze s).order = s.order ∧
    (beginFreeze s).snapshot = s.snapshot ∧ (beginFreeze s).draws = s.draws ∧ (beginFreeze s).pending = s.pending := by
  unfold beginFreeze
  try dsimp only
  repeat' split
  all_goals simp

@[simp] theorem releaseFreeze_frame (s : State) :
    (releaseFreeze s).pins = s.pins ∧ (releaseFreeze s).time.now = s.time.now ∧
    (releaseFreeze s).time.freezeStart = s.time.freezeStart ∧ (releaseFreeze s).line = s.line ∧
    (releaseFreeze s).coupling = s.coupling ∧ (releaseFreeze s).roster.fullLatch = s.roster.fullLatch ∧
    (releaseFreeze s).naming.plan = s.naming.plan ∧ (releaseFreeze s).census.state = s.census.state ∧
    (releaseFreeze s).census.returnState = s.census.returnState ∧
    (releaseFreeze s).census.generation = s.census.generation ∧
    (releaseFreeze s).census.settling = s.census.settling ∧ (releaseFreeze s).service = s.service ∧
    (releaseFreeze s).changes = s.changes ∧ (releaseFreeze s).notices = s.notices ∧
    (releaseFreeze s).order.phase = s.order.phase ∧ (releaseFreeze s).order.setup = s.order.setup ∧
    (releaseFreeze s).order.opcode = s.order.opcode ∧ (releaseFreeze s).order.operand = s.order.operand ∧
    (releaseFreeze s).order.data = s.order.data ∧ (releaseFreeze s).order.state = s.order.state ∧
    (releaseFreeze s).order.termination = s.order.termination ∧ (releaseFreeze s).order.detail = s.order.detail ∧
    (releaseFreeze s).order.pingIdentity = s.order.pingIdentity ∧ (releaseFreeze s).snapshot = s.snapshot ∧
    (releaseFreeze s).draws = s.draws ∧ (releaseFreeze s).pending = s.pending := by
  unfold releaseFreeze
  try dsimp only
  repeat' split
  all_goals simp

@[simp] theorem emptyTool_frame (census : CensusState) (s : State) :
    (emptyTool census s).pins.mateA = s.pins.mateA ∧ (emptyTool census s).pins.mateB = s.pins.mateB ∧
    (emptyTool census s).pins.lock = s.pins.lock ∧ (emptyTool census s).pins.supplyGood = s.pins.supplyGood ∧
    (emptyTool census s).pins.attn = s.pins.attn ∧ (emptyTool census s).pins.sdo = s.pins.sdo ∧
    (emptyTool census s).time.now = s.time.now ∧ (emptyTool census s).time.freezeStart = s.time.freezeStart ∧
    (emptyTool census s).line.txDrops = s.line.txDrops ∧ (emptyTool census s).line.foreign = s.line.foreign ∧
    (emptyTool census s).line.beatSeq = s.line.beatSeq ∧ (emptyTool census s).line.nextTag = s.line.nextTag ∧
    (emptyTool census s).coupling.state = s.coupling.state ∧
    (emptyTool census s).coupling.lockedOnce = s.coupling.lockedOnce ∧
    (emptyTool census s).coupling.mateCapture = s.coupling.mateCapture ∧
    (emptyTool census s).coupling.unmateCapture = s.coupling.unmateCapture ∧
    (emptyTool census s).coupling.make = s.coupling.make ∧ (emptyTool census s).coupling.brk = s.coupling.brk ∧
    (emptyTool census s).census.generation = s.census.generation ∧
    (emptyTool census s).census.settling = s.census.settling ∧ (emptyTool census s).changes = s.changes ∧
    (emptyTool census s).notices = s.notices ∧ (emptyTool census s).order.phase = s.order.phase ∧
    (emptyTool census s).order.setup = s.order.setup ∧ (emptyTool census s).order.opcode = s.order.opcode ∧
    (emptyTool census s).order.operand = s.order.operand ∧ (emptyTool census s).order.data = s.order.data ∧
    (emptyTool census s).order.state = s.order.state ∧ (emptyTool census s).order.termination = s.order.termination ∧
    (emptyTool census s).order.detail = s.order.detail ∧ (emptyTool census s).snapshot = s.snapshot ∧
    (emptyTool census s).draws = s.draws ∧ (emptyTool census s).pending = s.pending := by
  unfold emptyTool
  try dsimp only
  all_goals simp

@[simp] theorem parkTool_frame (kind : ChangeKind) (detail : Nat) (s : State) :
    (parkTool kind detail s).pins.mateA = s.pins.mateA ∧ (parkTool kind detail s).pins.mateB = s.pins.mateB ∧
    (parkTool kind detail s).pins.lock = s.pins.lock ∧ (parkTool kind detail s).pins.supplyGood = s.pins.supplyGood ∧
    (parkTool kind detail s).pins.attn = s.pins.attn ∧ (parkTool kind detail s).pins.sdo = s.pins.sdo ∧
    (parkTool kind detail s).time.now = s.time.now ∧ (parkTool kind detail s).time.freezeStart = s.time.freezeStart ∧
    (parkTool kind detail s).line.txDrops = s.line.txDrops ∧ (parkTool kind detail s).line.foreign = s.line.foreign ∧
    (parkTool kind detail s).line.beatSeq = s.line.beatSeq ∧ (parkTool kind detail s).line.nextTag = s.line.nextTag ∧
    (parkTool kind detail s).coupling.state = s.coupling.state ∧
    (parkTool kind detail s).coupling.lockedOnce = s.coupling.lockedOnce ∧
    (parkTool kind detail s).coupling.mateCapture = s.coupling.mateCapture ∧
    (parkTool kind detail s).coupling.unmateCapture = s.coupling.unmateCapture ∧
    (parkTool kind detail s).coupling.make = s.coupling.make ∧
    (parkTool kind detail s).coupling.brk = s.coupling.brk ∧
    (parkTool kind detail s).census.generation = s.census.generation ∧
    (parkTool kind detail s).census.settling = s.census.settling ∧ (parkTool kind detail s).notices = s.notices ∧
    (parkTool kind detail s).order.phase = s.order.phase ∧ (parkTool kind detail s).order.setup = s.order.setup ∧
    (parkTool kind detail s).order.opcode = s.order.opcode ∧
    (parkTool kind detail s).order.operand = s.order.operand ∧ (parkTool kind detail s).order.data = s.order.data ∧
    (parkTool kind detail s).order.state = s.order.state ∧
    (parkTool kind detail s).order.termination = s.order.termination ∧
    (parkTool kind detail s).order.detail = s.order.detail ∧ (parkTool kind detail s).snapshot = s.snapshot ∧
    (parkTool kind detail s).draws = s.draws ∧ (parkTool kind detail s).pending = s.pending := by
  unfold parkTool
  try dsimp only
  all_goals simp

@[simp] theorem parkOvertaking_frame (kind : ChangeKind) (detail : Nat) (s : State) :
    (parkOvertaking kind detail s).pins.mateA = s.pins.mateA ∧
    (parkOvertaking kind detail s).pins.mateB = s.pins.mateB ∧
    (parkOvertaking kind detail s).pins.lock = s.pins.lock ∧
    (parkOvertaking kind detail s).pins.supplyGood = s.pins.supplyGood ∧
    (parkOvertaking kind detail s).pins.attn = s.pins.attn ∧ (parkOvertaking kind detail s).pins.sdo = s.pins.sdo ∧
    (parkOvertaking kind detail s).time.now = s.time.now ∧
    (parkOvertaking kind detail s).time.freezeStart = s.time.freezeStart ∧
    (parkOvertaking kind detail s).line.txDrops = s.line.txDrops ∧
    (parkOvertaking kind detail s).line.foreign = s.line.foreign ∧
    (parkOvertaking kind detail s).line.beatSeq = s.line.beatSeq ∧
    (parkOvertaking kind detail s).line.nextTag = s.line.nextTag ∧
    (parkOvertaking kind detail s).coupling.state = s.coupling.state ∧
    (parkOvertaking kind detail s).coupling.lockedOnce = s.coupling.lockedOnce ∧
    (parkOvertaking kind detail s).coupling.mateCapture = s.coupling.mateCapture ∧
    (parkOvertaking kind detail s).coupling.unmateCapture = s.coupling.unmateCapture ∧
    (parkOvertaking kind detail s).coupling.make = s.coupling.make ∧
    (parkOvertaking kind detail s).coupling.brk = s.coupling.brk ∧
    (parkOvertaking kind detail s).census.generation = s.census.generation ∧
    (parkOvertaking kind detail s).census.settling = s.census.settling ∧
    (parkOvertaking kind detail s).notices = s.notices ∧ (parkOvertaking kind detail s).order.phase = s.order.phase ∧
    (parkOvertaking kind detail s).order.setup = s.order.setup ∧
    (parkOvertaking kind detail s).order.opcode = s.order.opcode ∧
    (parkOvertaking kind detail s).order.operand = s.order.operand ∧
    (parkOvertaking kind detail s).order.data = s.order.data ∧ (parkOvertaking kind detail s).snapshot = s.snapshot ∧
    (parkOvertaking kind detail s).draws = s.draws ∧ (parkOvertaking kind detail s).pending = s.pending := by
  unfold parkOvertaking
  try dsimp only
  all_goals simp

@[simp] theorem takeRecall_frame (sender : Name) (s : State) :
    (takeRecall sender s).pins = s.pins ∧ (takeRecall sender s).time = s.time ∧
    (takeRecall sender s).line.enabled = s.line.enabled ∧ (takeRecall sender s).line.fault = s.line.fault ∧
    (takeRecall sender s).line.recessive8 = s.line.recessive8 ∧ (takeRecall sender s).line.stuck = s.line.stuck ∧
    (takeRecall sender s).line.errors = s.line.errors ∧ (takeRecall sender s).line.rx = s.line.rx ∧
    (takeRecall sender s).line.inFlight = s.line.inFlight ∧ (takeRecall sender s).line.foreign = s.line.foreign ∧
    (takeRecall sender s).line.beatSeq = s.line.beatSeq ∧ (takeRecall sender s).coupling = s.coupling ∧
    (takeRecall sender s).census.generation = s.census.generation ∧
    (takeRecall sender s).census.settling = s.census.settling ∧ (takeRecall sender s).notices = s.notices ∧
    (takeRecall sender s).order.phase = s.order.phase ∧ (takeRecall sender s).order.setup = s.order.setup ∧
    (takeRecall sender s).order.opcode = s.order.opcode ∧ (takeRecall sender s).order.operand = s.order.operand ∧
    (takeRecall sender s).order.data = s.order.data ∧ (takeRecall sender s).snapshot = s.snapshot ∧
    (takeRecall sender s).draws = s.draws ∧ (takeRecall sender s).pending = s.pending := by
  unfold takeRecall
  try dsimp only
  repeat' split
  all_goals simp

@[simp] theorem enterCoupling_frame (c : CouplingState) (s : State) :
    (enterCoupling c s).pins = s.pins ∧ (enterCoupling c s).time = s.time ∧
    (enterCoupling c s).line.fault = s.line.fault ∧ (enterCoupling c s).line.stuck = s.line.stuck ∧
    (enterCoupling c s).line.errors = s.line.errors ∧ (enterCoupling c s).line.txList = s.line.txList ∧
    (enterCoupling c s).line.txDrops = s.line.txDrops ∧ (enterCoupling c s).line.foreign = s.line.foreign ∧
    (enterCoupling c s).line.beatSeq = s.line.beatSeq ∧ (enterCoupling c s).line.nextTag = s.line.nextTag ∧
    (enterCoupling c s).coupling.lockedOnce = s.coupling.lockedOnce ∧
    (enterCoupling c s).coupling.supply = s.coupling.supply ∧
    (enterCoupling c s).coupling.mateCapture = s.coupling.mateCapture ∧
    (enterCoupling c s).coupling.unmateCapture = s.coupling.unmateCapture ∧
    (enterCoupling c s).coupling.make = s.coupling.make ∧ (enterCoupling c s).coupling.brk = s.coupling.brk ∧
    (enterCoupling c s).coupling.settle = s.coupling.settle ∧
    (enterCoupling c s).coupling.holdLimit = s.coupling.holdLimit ∧ (enterCoupling c s).roster = s.roster ∧
    (enterCoupling c s).naming = s.naming ∧ (enterCoupling c s).census = s.census ∧
    (enterCoupling c s).service = s.service ∧ (enterCoupling c s).changes = s.changes ∧
    (enterCoupling c s).notices = s.notices ∧ (enterCoupling c s).order = s.order ∧
    (enterCoupling c s).snapshot = s.snapshot ∧ (enterCoupling c s).draws = s.draws ∧
    (enterCoupling c s).pending = s.pending := by
  unfold enterCoupling
  try dsimp only
  all_goals simp

@[simp] theorem enterMaking_frame (s : State) :
    (enterMaking s).pins = s.pins ∧ (enterMaking s).time = s.time ∧ (enterMaking s).line.fault = s.line.fault ∧
    (enterMaking s).line.stuck = s.line.stuck ∧ (enterMaking s).line.errors = s.line.errors ∧
    (enterMaking s).line.txList = s.line.txList ∧ (enterMaking s).line.txDrops = s.line.txDrops ∧
    (enterMaking s).line.foreign = s.line.foreign ∧ (enterMaking s).line.beatSeq = s.line.beatSeq ∧
    (enterMaking s).line.nextTag = s.line.nextTag ∧ (enterMaking s).coupling.lockedOnce = s.coupling.lockedOnce ∧
    (enterMaking s).coupling.supply = s.coupling.supply ∧
    (enterMaking s).coupling.unmateCapture = s.coupling.unmateCapture ∧
    (enterMaking s).coupling.brk = s.coupling.brk ∧ (enterMaking s).coupling.settle = s.coupling.settle ∧
    (enterMaking s).coupling.holdLimit = s.coupling.holdLimit ∧ (enterMaking s).roster = s.roster ∧
    (enterMaking s).naming = s.naming ∧ (enterMaking s).census = s.census ∧ (enterMaking s).service = s.service ∧
    (enterMaking s).changes = s.changes ∧ (enterMaking s).notices.changes = s.notices.changes ∧
    (enterMaking s).notices.service = s.notices.service ∧ (enterMaking s).notices.order = s.notices.order ∧
    (enterMaking s).notices.line = s.notices.line ∧ (enterMaking s).notices.census = s.notices.census ∧
    (enterMaking s).notices.lineSeen = s.notices.lineSeen ∧
    (enterMaking s).notices.censusSeen = s.notices.censusSeen ∧ (enterMaking s).order = s.order ∧
    (enterMaking s).snapshot = s.snapshot ∧ (enterMaking s).draws = s.draws ∧ (enterMaking s).pending = s.pending := by
  unfold enterMaking
  try dsimp only
  all_goals simp

@[simp] theorem enterOpen_frame (s : State) :
    (enterOpen s).pins = s.pins ∧ (enterOpen s).time = s.time ∧ (enterOpen s).line.fault = s.line.fault ∧
    (enterOpen s).line.stuck = s.line.stuck ∧ (enterOpen s).line.errors = s.line.errors ∧
    (enterOpen s).line.txList = s.line.txList ∧ (enterOpen s).line.txDrops = s.line.txDrops ∧
    (enterOpen s).line.foreign = s.line.foreign ∧ (enterOpen s).line.beatSeq = s.line.beatSeq ∧
    (enterOpen s).line.nextTag = s.line.nextTag ∧ (enterOpen s).coupling.supply = s.coupling.supply ∧
    (enterOpen s).coupling.unmateCapture = s.coupling.unmateCapture ∧ (enterOpen s).coupling.brk = s.coupling.brk ∧
    (enterOpen s).coupling.settle = s.coupling.settle ∧ (enterOpen s).roster = s.roster ∧
    (enterOpen s).naming = s.naming ∧ (enterOpen s).census = s.census ∧ (enterOpen s).service = s.service ∧
    (enterOpen s).changes = s.changes ∧ (enterOpen s).notices.changes = s.notices.changes ∧
    (enterOpen s).notices.service = s.notices.service ∧ (enterOpen s).notices.order = s.notices.order ∧
    (enterOpen s).notices.line = s.notices.line ∧ (enterOpen s).notices.census = s.notices.census ∧
    (enterOpen s).notices.lineSeen = s.notices.lineSeen ∧ (enterOpen s).notices.censusSeen = s.notices.censusSeen ∧
    (enterOpen s).order = s.order ∧ (enterOpen s).snapshot = s.snapshot ∧ (enterOpen s).draws = s.draws ∧
    (enterOpen s).pending = s.pending := by
  unfold enterOpen
  try dsimp only
  repeat' split
  all_goals simp

@[simp] theorem switchSupplyOn_frame (s : State) :
    (switchSupplyOn s).pins.mateA = s.pins.mateA ∧ (switchSupplyOn s).pins.mateB = s.pins.mateB ∧
    (switchSupplyOn s).pins.lock = s.pins.lock ∧ (switchSupplyOn s).pins.supplyGood = s.pins.supplyGood ∧
    (switchSupplyOn s).pins.attn = s.pins.attn ∧ (switchSupplyOn s).pins.sdo = s.pins.sdo ∧
    (switchSupplyOn s).time = s.time ∧ (switchSupplyOn s).line = s.line ∧
    (switchSupplyOn s).coupling.state = s.coupling.state ∧
    (switchSupplyOn s).coupling.lockedOnce = s.coupling.lockedOnce ∧
    (switchSupplyOn s).coupling.mateCapture = s.coupling.mateCapture ∧
    (switchSupplyOn s).coupling.unmateCapture = s.coupling.unmateCapture ∧
    (switchSupplyOn s).coupling.make = s.coupling.make ∧ (switchSupplyOn s).coupling.brk = s.coupling.brk ∧
    (switchSupplyOn s).coupling.holdLimit = s.coupling.holdLimit ∧ (switchSupplyOn s).roster = s.roster ∧
    (switchSupplyOn s).naming = s.naming ∧ (switchSupplyOn s).census = s.census ∧
    (switchSupplyOn s).service = s.service ∧ (switchSupplyOn s).changes = s.changes ∧
    (switchSupplyOn s).notices = s.notices ∧ (switchSupplyOn s).order = s.order ∧
    (switchSupplyOn s).snapshot = s.snapshot ∧ (switchSupplyOn s).draws = s.draws ∧
    (switchSupplyOn s).pending = s.pending := by
  unfold switchSupplyOn
  try dsimp only
  all_goals simp

@[simp] theorem enterCoupled_frame (s : State) :
    (enterCoupled s).pins.mateA = s.pins.mateA ∧ (enterCoupled s).pins.mateB = s.pins.mateB ∧
    (enterCoupled s).pins.lock = s.pins.lock ∧ (enterCoupled s).pins.supplyGood = s.pins.supplyGood ∧
    (enterCoupled s).pins.attn = s.pins.attn ∧ (enterCoupled s).pins.sdo = s.pins.sdo ∧
    (enterCoupled s).time.now = s.time.now ∧ (enterCoupled s).time.freezeStart = s.time.freezeStart ∧
    (enterCoupled s).line.fault = s.line.fault ∧ (enterCoupled s).line.stuck = s.line.stuck ∧
    (enterCoupled s).line.errors = s.line.errors ∧ (enterCoupled s).line.txList = s.line.txList ∧
    (enterCoupled s).line.txDrops = s.line.txDrops ∧ (enterCoupled s).line.foreign = s.line.foreign ∧
    (enterCoupled s).line.beatSeq = s.line.beatSeq ∧ (enterCoupled s).line.nextTag = s.line.nextTag ∧
    (enterCoupled s).coupling.mateCapture = s.coupling.mateCapture ∧
    (enterCoupled s).coupling.unmateCapture = s.coupling.unmateCapture ∧
    (enterCoupled s).coupling.make = s.coupling.make ∧ (enterCoupled s).roster.fullLatch = s.roster.fullLatch ∧
    (enterCoupled s).naming.plan = s.naming.plan ∧ (enterCoupled s).census.state = s.census.state ∧
    (enterCoupled s).census.returnState = s.census.returnState ∧
    (enterCoupled s).census.generation = s.census.generation ∧ (enterCoupled s).census.settling = s.census.settling ∧
    (enterCoupled s).service = s.service ∧ (enterCoupled s).changes = s.changes ∧
    (enterCoupled s).notices = s.notices ∧ (enterCoupled s).order.phase = s.order.phase ∧
    (enterCoupled s).order.setup = s.order.setup ∧ (enterCoupled s).order.opcode = s.order.opcode ∧
    (enterCoupled s).order.operand = s.order.operand ∧ (enterCoupled s).order.data = s.order.data ∧
    (enterCoupled s).order.state = s.order.state ∧ (enterCoupled s).order.termination = s.order.termination ∧
    (enterCoupled s).order.detail = s.order.detail ∧ (enterCoupled s).order.pingIdentity = s.order.pingIdentity ∧
    (enterCoupled s).snapshot = s.snapshot ∧ (enterCoupled s).draws = s.draws ∧ (enterCoupled s).pending = s.pending := by
  unfold enterCoupled
  try dsimp only
  repeat' split
  all_goals simp

@[simp] theorem enterHeld_frame (s : State) :
    (enterHeld s).pins = s.pins ∧ (enterHeld s).time = s.time ∧ (enterHeld s).line.fault = s.line.fault ∧
    (enterHeld s).line.stuck = s.line.stuck ∧ (enterHeld s).line.errors = s.line.errors ∧
    (enterHeld s).line.txList = s.line.txList ∧ (enterHeld s).line.txDrops = s.line.txDrops ∧
    (enterHeld s).line.foreign = s.line.foreign ∧ (enterHeld s).line.beatSeq = s.line.beatSeq ∧
    (enterHeld s).line.nextTag = s.line.nextTag ∧ (enterHeld s).coupling.lockedOnce = s.coupling.lockedOnce ∧
    (enterHeld s).coupling.supply = s.coupling.supply ∧ (enterHeld s).coupling.mateCapture = s.coupling.mateCapture ∧
    (enterHeld s).coupling.unmateCapture = s.coupling.unmateCapture ∧ (enterHeld s).coupling.make = s.coupling.make ∧
    (enterHeld s).coupling.brk = s.coupling.brk ∧ (enterHeld s).coupling.settle = s.coupling.settle ∧
    (enterHeld s).roster = s.roster ∧ (enterHeld s).naming = s.naming ∧ (enterHeld s).census = s.census ∧
    (enterHeld s).service = s.service ∧ (enterHeld s).changes = s.changes ∧ (enterHeld s).notices = s.notices ∧
    (enterHeld s).order = s.order ∧ (enterHeld s).snapshot = s.snapshot ∧ (enterHeld s).draws = s.draws ∧
    (enterHeld s).pending = s.pending := by
  unfold enterHeld
  try dsimp only
  repeat' split
  all_goals simp

@[simp] theorem enterBreaking_frame (s : State) :
    (enterBreaking s).pins = s.pins ∧ (enterBreaking s).time = s.time ∧ (enterBreaking s).line.fault = s.line.fault ∧
    (enterBreaking s).line.stuck = s.line.stuck ∧ (enterBreaking s).line.errors = s.line.errors ∧
    (enterBreaking s).line.txList = s.line.txList ∧ (enterBreaking s).line.txDrops = s.line.txDrops ∧
    (enterBreaking s).line.foreign = s.line.foreign ∧ (enterBreaking s).line.beatSeq = s.line.beatSeq ∧
    (enterBreaking s).line.nextTag = s.line.nextTag ∧ (enterBreaking s).coupling.lockedOnce = s.coupling.lockedOnce ∧
    (enterBreaking s).coupling.supply = s.coupling.supply ∧
    (enterBreaking s).coupling.mateCapture = s.coupling.mateCapture ∧
    (enterBreaking s).coupling.make = s.coupling.make ∧ (enterBreaking s).coupling.settle = s.coupling.settle ∧
    (enterBreaking s).coupling.holdLimit = s.coupling.holdLimit ∧ (enterBreaking s).roster = s.roster ∧
    (enterBreaking s).naming = s.naming ∧ (enterBreaking s).census = s.census ∧
    (enterBreaking s).service = s.service ∧ (enterBreaking s).changes = s.changes ∧
    (enterBreaking s).notices.changes = s.notices.changes ∧ (enterBreaking s).notices.service = s.notices.service ∧
    (enterBreaking s).notices.order = s.notices.order ∧ (enterBreaking s).notices.line = s.notices.line ∧
    (enterBreaking s).notices.census = s.notices.census ∧ (enterBreaking s).notices.lineSeen = s.notices.lineSeen ∧
    (enterBreaking s).notices.censusSeen = s.notices.censusSeen ∧ (enterBreaking s).order = s.order ∧
    (enterBreaking s).snapshot = s.snapshot ∧ (enterBreaking s).draws = s.draws ∧
    (enterBreaking s).pending = s.pending := by
  unfold enterBreaking
  try dsimp only
  all_goals simp

@[simp] theorem coupleByLock_frame (s : State) :
    (coupleByLock s).pins.mateA = s.pins.mateA ∧ (coupleByLock s).pins.mateB = s.pins.mateB ∧
    (coupleByLock s).pins.lock = s.pins.lock ∧ (coupleByLock s).pins.supplyGood = s.pins.supplyGood ∧
    (coupleByLock s).pins.attn = s.pins.attn ∧ (coupleByLock s).pins.sdo = s.pins.sdo ∧
    (coupleByLock s).time.now = s.time.now ∧ (coupleByLock s).time.freezeStart = s.time.freezeStart ∧
    (coupleByLock s).line.fault = s.line.fault ∧ (coupleByLock s).line.stuck = s.line.stuck ∧
    (coupleByLock s).line.errors = s.line.errors ∧ (coupleByLock s).line.txList = s.line.txList ∧
    (coupleByLock s).line.txDrops = s.line.txDrops ∧ (coupleByLock s).line.foreign = s.line.foreign ∧
    (coupleByLock s).line.beatSeq = s.line.beatSeq ∧ (coupleByLock s).line.nextTag = s.line.nextTag ∧
    (coupleByLock s).coupling.mateCapture = s.coupling.mateCapture ∧
    (coupleByLock s).coupling.unmateCapture = s.coupling.unmateCapture ∧
    (coupleByLock s).coupling.make = s.coupling.make ∧ (coupleByLock s).roster.fullLatch = s.roster.fullLatch ∧
    (coupleByLock s).naming.plan = s.naming.plan ∧ (coupleByLock s).census.state = s.census.state ∧
    (coupleByLock s).census.returnState = s.census.returnState ∧
    (coupleByLock s).census.generation = s.census.generation ∧ (coupleByLock s).census.settling = s.census.settling ∧
    (coupleByLock s).service = s.service ∧ (coupleByLock s).changes = s.changes ∧
    (coupleByLock s).notices = s.notices ∧ (coupleByLock s).order.phase = s.order.phase ∧
    (coupleByLock s).order.setup = s.order.setup ∧ (coupleByLock s).order.opcode = s.order.opcode ∧
    (coupleByLock s).order.operand = s.order.operand ∧ (coupleByLock s).order.data = s.order.data ∧
    (coupleByLock s).order.state = s.order.state ∧ (coupleByLock s).order.termination = s.order.termination ∧
    (coupleByLock s).order.detail = s.order.detail ∧ (coupleByLock s).order.pingIdentity = s.order.pingIdentity ∧
    (coupleByLock s).snapshot = s.snapshot ∧ (coupleByLock s).draws = s.draws ∧ (coupleByLock s).pending = s.pending := by
  unfold coupleByLock
  try dsimp only
  repeat' split
  all_goals simp

@[simp] theorem teardown_frame (s : State) :
    (teardown s).pins.mateA = s.pins.mateA ∧ (teardown s).pins.mateB = s.pins.mateB ∧
    (teardown s).pins.lock = s.pins.lock ∧ (teardown s).pins.supplyGood = s.pins.supplyGood ∧
    (teardown s).pins.attn = s.pins.attn ∧ (teardown s).pins.sdo = s.pins.sdo ∧ (teardown s).time.now = s.time.now ∧
    (teardown s).time.freezeStart = s.time.freezeStart ∧ (teardown s).line.txDrops = s.line.txDrops ∧
    (teardown s).line.foreign = s.line.foreign ∧ (teardown s).line.beatSeq = s.line.beatSeq ∧
    (teardown s).line.nextTag = s.line.nextTag ∧ (teardown s).coupling.unmateCapture = s.coupling.unmateCapture ∧
    (teardown s).coupling.brk = s.coupling.brk ∧ (teardown s).census.generation = s.census.generation ∧
    (teardown s).census.settling = s.census.settling ∧ (teardown s).notices.changes = s.notices.changes ∧
    (teardown s).notices.service = s.notices.service ∧ (teardown s).notices.order = s.notices.order ∧
    (teardown s).notices.line = s.notices.line ∧ (teardown s).notices.census = s.notices.census ∧
    (teardown s).notices.lineSeen = s.notices.lineSeen ∧ (teardown s).notices.censusSeen = s.notices.censusSeen ∧
    (teardown s).order.phase = s.order.phase ∧ (teardown s).order.setup = s.order.setup ∧
    (teardown s).order.opcode = s.order.opcode ∧ (teardown s).order.operand = s.order.operand ∧
    (teardown s).order.data = s.order.data ∧ (teardown s).snapshot = s.snapshot ∧ (teardown s).draws = s.draws ∧
    (teardown s).pending = s.pending := by
  unfold teardown
  try dsimp only
  all_goals simp

end Sys2Proof.Machine
end

