-- ==== Sys2Proof/Laws/FrameLine.lean ====
section
/-! SUPPORT. Frames of the line operations: for each, every block and field it never changes, as simp lemmas. -/

namespace Sys2Proof.Machine

@[simp] theorem leaveFault_frame (s : State) :
    (leaveFault s).pins = s.pins ∧ (leaveFault s).time = s.time ∧ (leaveFault s).line.enabled = s.line.enabled ∧
    (leaveFault s).line.recessive8 = s.line.recessive8 ∧ (leaveFault s).line.stuck = s.line.stuck ∧
    (leaveFault s).line.errors = s.line.errors ∧ (leaveFault s).line.rx = s.line.rx ∧
    (leaveFault s).line.inFlight = s.line.inFlight ∧ (leaveFault s).line.txList = s.line.txList ∧
    (leaveFault s).line.txDrops = s.line.txDrops ∧ (leaveFault s).line.foreign = s.line.foreign ∧
    (leaveFault s).line.beatSeq = s.line.beatSeq ∧ (leaveFault s).line.nextTag = s.line.nextTag ∧
    (leaveFault s).coupling = s.coupling ∧ (leaveFault s).roster = s.roster ∧ (leaveFault s).naming = s.naming ∧
    (leaveFault s).census = s.census ∧ (leaveFault s).service = s.service ∧ (leaveFault s).changes = s.changes ∧
    (leaveFault s).notices = s.notices ∧ (leaveFault s).order = s.order ∧ (leaveFault s).snapshot = s.snapshot ∧
    (leaveFault s).draws = s.draws ∧ (leaveFault s).pending = s.pending := by
  unfold leaveFault
  try dsimp only
  repeat' split
  all_goals simp

@[simp] theorem enterFault_frame (s : State) :
    (enterFault s).pins = s.pins ∧ (enterFault s).time = s.time ∧ (enterFault s).line.enabled = s.line.enabled ∧
    (enterFault s).line.recessive8 = s.line.recessive8 ∧ (enterFault s).line.stuck = s.line.stuck ∧
    (enterFault s).line.errors = s.line.errors ∧ (enterFault s).line.rx = s.line.rx ∧
    (enterFault s).line.txDrops = s.line.txDrops ∧ (enterFault s).line.foreign = s.line.foreign ∧
    (enterFault s).line.beatSeq = s.line.beatSeq ∧ (enterFault s).line.nextTag = s.line.nextTag ∧
    (enterFault s).coupling = s.coupling ∧ (enterFault s).roster = s.roster ∧ (enterFault s).naming = s.naming ∧
    (enterFault s).census = s.census ∧ (enterFault s).service = s.service ∧ (enterFault s).changes = s.changes ∧
    (enterFault s).notices.changes = s.notices.changes ∧ (enterFault s).notices.service = s.notices.service ∧
    (enterFault s).notices.order = s.notices.order ∧ (enterFault s).notices.coupling = s.notices.coupling ∧
    (enterFault s).notices.census = s.notices.census ∧ (enterFault s).notices.couplingSeen = s.notices.couplingSeen ∧
    (enterFault s).notices.censusSeen = s.notices.censusSeen ∧ (enterFault s).order.phase = s.order.phase ∧
    (enterFault s).order.setup = s.order.setup ∧ (enterFault s).order.opcode = s.order.opcode ∧
    (enterFault s).order.operand = s.order.operand ∧ (enterFault s).order.data = s.order.data ∧
    (enterFault s).snapshot = s.snapshot ∧ (enterFault s).draws = s.draws ∧ (enterFault s).pending = s.pending := by
  unfold enterFault
  try dsimp only
  repeat' split
  all_goals simp

@[simp] theorem checkFault_frame (s : State) :
    (checkFault s).pins = s.pins ∧ (checkFault s).time = s.time ∧ (checkFault s).line.enabled = s.line.enabled ∧
    (checkFault s).line.recessive8 = s.line.recessive8 ∧ (checkFault s).line.stuck = s.line.stuck ∧
    (checkFault s).line.errors = s.line.errors ∧ (checkFault s).line.rx = s.line.rx ∧
    (checkFault s).line.txDrops = s.line.txDrops ∧ (checkFault s).line.foreign = s.line.foreign ∧
    (checkFault s).line.beatSeq = s.line.beatSeq ∧ (checkFault s).line.nextTag = s.line.nextTag ∧
    (checkFault s).coupling = s.coupling ∧ (checkFault s).roster = s.roster ∧ (checkFault s).naming = s.naming ∧
    (checkFault s).census = s.census ∧ (checkFault s).service = s.service ∧ (checkFault s).changes = s.changes ∧
    (checkFault s).notices.changes = s.notices.changes ∧ (checkFault s).notices.service = s.notices.service ∧
    (checkFault s).notices.order = s.notices.order ∧ (checkFault s).notices.coupling = s.notices.coupling ∧
    (checkFault s).notices.census = s.notices.census ∧ (checkFault s).notices.couplingSeen = s.notices.couplingSeen ∧
    (checkFault s).notices.censusSeen = s.notices.censusSeen ∧ (checkFault s).order.phase = s.order.phase ∧
    (checkFault s).order.setup = s.order.setup ∧ (checkFault s).order.opcode = s.order.opcode ∧
    (checkFault s).order.operand = s.order.operand ∧ (checkFault s).order.data = s.order.data ∧
    (checkFault s).snapshot = s.snapshot ∧ (checkFault s).draws = s.draws ∧ (checkFault s).pending = s.pending := by
  unfold checkFault
  try dsimp only
  repeat' split
  all_goals simp

@[simp] theorem goodCount_frame (s : State) :
    (goodCount s).pins = s.pins ∧ (goodCount s).time = s.time ∧ (goodCount s).line.enabled = s.line.enabled ∧
    (goodCount s).line.recessive8 = s.line.recessive8 ∧ (goodCount s).line.stuck = s.line.stuck ∧
    (goodCount s).line.rx = s.line.rx ∧ (goodCount s).line.inFlight = s.line.inFlight ∧
    (goodCount s).line.txList = s.line.txList ∧ (goodCount s).line.txDrops = s.line.txDrops ∧
    (goodCount s).line.foreign = s.line.foreign ∧ (goodCount s).line.beatSeq = s.line.beatSeq ∧
    (goodCount s).line.nextTag = s.line.nextTag ∧ (goodCount s).coupling = s.coupling ∧
    (goodCount s).roster = s.roster ∧ (goodCount s).naming = s.naming ∧ (goodCount s).census = s.census ∧
    (goodCount s).service = s.service ∧ (goodCount s).changes = s.changes ∧ (goodCount s).notices = s.notices ∧
    (goodCount s).order = s.order ∧ (goodCount s).snapshot = s.snapshot ∧ (goodCount s).draws = s.draws ∧
    (goodCount s).pending = s.pending := by
  unfold goodCount
  try dsimp only
  all_goals simp

@[simp] theorem dropReport_frame (f : TxFrame) (s : State) :
    (dropReport f s).pins = s.pins ∧ (dropReport f s).time = s.time ∧ (dropReport f s).line = s.line ∧
    (dropReport f s).coupling = s.coupling ∧ (dropReport f s).roster.entries = s.roster.entries ∧
    (dropReport f s).roster.fullLatch = s.roster.fullLatch ∧ (dropReport f s).naming.plan = s.naming.plan ∧
    (dropReport f s).naming.claims = s.naming.claims ∧ (dropReport f s).census = s.census ∧
    (dropReport f s).service = s.service ∧ (dropReport f s).changes = s.changes ∧
    (dropReport f s).notices = s.notices ∧ (dropReport f s).order.phase = s.order.phase ∧
    (dropReport f s).order.setup = s.order.setup ∧ (dropReport f s).order.opcode = s.order.opcode ∧
    (dropReport f s).order.operand = s.order.operand ∧ (dropReport f s).order.data = s.order.data ∧
    (dropReport f s).snapshot = s.snapshot ∧ (dropReport f s).draws = s.draws ∧ (dropReport f s).pending = s.pending := by
  unfold dropReport
  try dsimp only
  repeat' split
  all_goals simp

@[simp] theorem sentReport_frame (f : TxFrame) (s : State) :
    (sentReport f s).pins = s.pins ∧ (sentReport f s).time = s.time ∧ (sentReport f s).line.enabled = s.line.enabled ∧
    (sentReport f s).line.fault = s.line.fault ∧ (sentReport f s).line.recessive8 = s.line.recessive8 ∧
    (sentReport f s).line.stuck = s.line.stuck ∧ (sentReport f s).line.errors = s.line.errors ∧
    (sentReport f s).line.rx = s.line.rx ∧ (sentReport f s).line.inFlight = s.line.inFlight ∧
    (sentReport f s).line.foreign = s.line.foreign ∧ (sentReport f s).coupling = s.coupling ∧
    (sentReport f s).census.generation = s.census.generation ∧ (sentReport f s).census.settling = s.census.settling ∧
    (sentReport f s).notices = s.notices ∧ (sentReport f s).order.phase = s.order.phase ∧
    (sentReport f s).order.setup = s.order.setup ∧ (sentReport f s).order.opcode = s.order.opcode ∧
    (sentReport f s).order.operand = s.order.operand ∧ (sentReport f s).order.data = s.order.data ∧
    (sentReport f s).snapshot = s.snapshot ∧ (sentReport f s).draws = s.draws ∧ (sentReport f s).pending = s.pending := by
  unfold sentReport
  try dsimp only
  repeat' split
  all_goals simp

@[simp] theorem beginAttempt_frame (s : State) :
    (beginAttempt s).pins = s.pins ∧ (beginAttempt s).time = s.time ∧ (beginAttempt s).line.enabled = s.line.enabled ∧
    (beginAttempt s).line.fault = s.line.fault ∧ (beginAttempt s).line.stuck = s.line.stuck ∧
    (beginAttempt s).line.errors = s.line.errors ∧ (beginAttempt s).line.txDrops = s.line.txDrops ∧
    (beginAttempt s).line.foreign = s.line.foreign ∧ (beginAttempt s).line.beatSeq = s.line.beatSeq ∧
    (beginAttempt s).line.nextTag = s.line.nextTag ∧ (beginAttempt s).coupling = s.coupling ∧
    (beginAttempt s).roster = s.roster ∧ (beginAttempt s).naming = s.naming ∧ (beginAttempt s).census = s.census ∧
    (beginAttempt s).service = s.service ∧ (beginAttempt s).changes = s.changes ∧
    (beginAttempt s).notices = s.notices ∧ (beginAttempt s).order = s.order ∧ (beginAttempt s).snapshot = s.snapshot ∧
    (beginAttempt s).draws = s.draws ∧ (beginAttempt s).pending = s.pending := by
  unfold beginAttempt
  try dsimp only
  repeat' split
  all_goals simp

@[simp] theorem endAttempt_frame (rx : Receiver) (s : State) :
    (endAttempt rx s).pins = s.pins ∧ (endAttempt rx s).time = s.time ∧ (endAttempt rx s).line.enabled = s.line.enabled ∧
    (endAttempt rx s).line.fault = s.line.fault ∧ (endAttempt rx s).line.recessive8 = s.line.recessive8 ∧
    (endAttempt rx s).line.stuck = s.line.stuck ∧ (endAttempt rx s).line.errors = s.line.errors ∧
    (endAttempt rx s).line.txList = s.line.txList ∧ (endAttempt rx s).line.txDrops = s.line.txDrops ∧
    (endAttempt rx s).line.foreign = s.line.foreign ∧ (endAttempt rx s).line.beatSeq = s.line.beatSeq ∧
    (endAttempt rx s).line.nextTag = s.line.nextTag ∧ (endAttempt rx s).coupling = s.coupling ∧
    (endAttempt rx s).roster = s.roster ∧ (endAttempt rx s).naming = s.naming ∧ (endAttempt rx s).census = s.census ∧
    (endAttempt rx s).service = s.service ∧ (endAttempt rx s).changes = s.changes ∧ (endAttempt rx s).notices = s.notices ∧
    (endAttempt rx s).order = s.order ∧ (endAttempt rx s).snapshot = s.snapshot ∧ (endAttempt rx s).draws = s.draws ∧
    (endAttempt rx s).pending = s.pending := by
  unfold endAttempt
  try dsimp only
  all_goals simp

@[simp] theorem failAttempt_frame (i : InFlight) (cause : BitErrorCause) (s : State) :
    (failAttempt i cause s).pins = s.pins ∧ (failAttempt i cause s).time = s.time ∧
    (failAttempt i cause s).line.enabled = s.line.enabled ∧ (failAttempt i cause s).line.recessive8 = s.line.recessive8 ∧
    (failAttempt i cause s).line.stuck = s.line.stuck ∧ (failAttempt i cause s).line.foreign = s.line.foreign ∧
    (failAttempt i cause s).line.beatSeq = s.line.beatSeq ∧ (failAttempt i cause s).line.nextTag = s.line.nextTag ∧
    (failAttempt i cause s).coupling = s.coupling ∧ (failAttempt i cause s).roster.entries = s.roster.entries ∧
    (failAttempt i cause s).roster.fullLatch = s.roster.fullLatch ∧ (failAttempt i cause s).naming.plan = s.naming.plan ∧
    (failAttempt i cause s).naming.claims = s.naming.claims ∧ (failAttempt i cause s).census = s.census ∧
    (failAttempt i cause s).service = s.service ∧ (failAttempt i cause s).changes = s.changes ∧
    (failAttempt i cause s).notices.changes = s.notices.changes ∧ (failAttempt i cause s).notices.service = s.notices.service ∧
    (failAttempt i cause s).notices.order = s.notices.order ∧ (failAttempt i cause s).notices.coupling = s.notices.coupling ∧
    (failAttempt i cause s).notices.census = s.notices.census ∧
    (failAttempt i cause s).notices.couplingSeen = s.notices.couplingSeen ∧
    (failAttempt i cause s).notices.censusSeen = s.notices.censusSeen ∧ (failAttempt i cause s).order.phase = s.order.phase ∧
    (failAttempt i cause s).order.setup = s.order.setup ∧ (failAttempt i cause s).order.opcode = s.order.opcode ∧
    (failAttempt i cause s).order.operand = s.order.operand ∧ (failAttempt i cause s).order.data = s.order.data ∧
    (failAttempt i cause s).snapshot = s.snapshot ∧ (failAttempt i cause s).draws = s.draws ∧
    (failAttempt i cause s).pending = s.pending := by
  unfold failAttempt
  try dsimp only
  repeat' split
  all_goals simp

@[simp] theorem completeAttempt_frame (i : InFlight) (s : State) :
    (completeAttempt i s).pins = s.pins ∧ (completeAttempt i s).time = s.time ∧
    (completeAttempt i s).line.enabled = s.line.enabled ∧ (completeAttempt i s).line.recessive8 = s.line.recessive8 ∧
    (completeAttempt i s).line.stuck = s.line.stuck ∧ (completeAttempt i s).line.foreign = s.line.foreign ∧
    (completeAttempt i s).coupling = s.coupling ∧ (completeAttempt i s).census.generation = s.census.generation ∧
    (completeAttempt i s).census.settling = s.census.settling ∧ (completeAttempt i s).notices = s.notices ∧
    (completeAttempt i s).order.phase = s.order.phase ∧ (completeAttempt i s).order.setup = s.order.setup ∧
    (completeAttempt i s).order.opcode = s.order.opcode ∧ (completeAttempt i s).order.operand = s.order.operand ∧
    (completeAttempt i s).order.data = s.order.data ∧ (completeAttempt i s).snapshot = s.snapshot ∧
    (completeAttempt i s).draws = s.draws ∧ (completeAttempt i s).pending = s.pending := by
  unfold completeAttempt
  try dsimp only
  repeat' split
  all_goals simp

@[simp] theorem goodFrame_frame (s : State) :
    (goodFrame s).pins = s.pins ∧ (goodFrame s).time = s.time ∧ (goodFrame s).line.enabled = s.line.enabled ∧
    (goodFrame s).line.stuck = s.line.stuck ∧ (goodFrame s).line.inFlight = s.line.inFlight ∧
    (goodFrame s).line.txList = s.line.txList ∧ (goodFrame s).line.txDrops = s.line.txDrops ∧
    (goodFrame s).line.foreign = s.line.foreign ∧ (goodFrame s).line.beatSeq = s.line.beatSeq ∧
    (goodFrame s).line.nextTag = s.line.nextTag ∧ (goodFrame s).coupling = s.coupling ∧
    (goodFrame s).roster = s.roster ∧ (goodFrame s).naming = s.naming ∧
    (goodFrame s).census.returnState = s.census.returnState ∧ (goodFrame s).census.generation = s.census.generation ∧
    (goodFrame s).census.settling = s.census.settling ∧ (goodFrame s).census.quiet = s.census.quiet ∧
    (goodFrame s).service = s.service ∧ (goodFrame s).changes = s.changes ∧ (goodFrame s).notices = s.notices ∧
    (goodFrame s).order = s.order ∧ (goodFrame s).snapshot = s.snapshot ∧ (goodFrame s).draws = s.draws ∧
    (goodFrame s).pending = s.pending := by
  unfold goodFrame
  try dsimp only
  all_goals simp

@[simp] theorem takeAnnounce_frame (x : Identity) (p : Name) (revision : Byte) (s : State) :
    (takeAnnounce x p revision s).pins = s.pins ∧ (takeAnnounce x p revision s).time = s.time ∧
    (takeAnnounce x p revision s).line = s.line ∧ (takeAnnounce x p revision s).coupling = s.coupling ∧
    (takeAnnounce x p revision s).roster.asked = s.roster.asked ∧
    (takeAnnounce x p revision s).naming.plan = s.naming.plan ∧
    (takeAnnounce x p revision s).naming.tickets = s.naming.tickets ∧
    (takeAnnounce x p revision s).census.returnState = s.census.returnState ∧
    (takeAnnounce x p revision s).census.generation = s.census.generation ∧
    (takeAnnounce x p revision s).census.settling = s.census.settling ∧
    (takeAnnounce x p revision s).census.firstFrame = s.census.firstFrame ∧
    (takeAnnounce x p revision s).notices = s.notices ∧ (takeAnnounce x p revision s).order = s.order ∧
    (takeAnnounce x p revision s).snapshot = s.snapshot ∧ (takeAnnounce x p revision s).draws = s.draws ∧
    (takeAnnounce x p revision s).pending = s.pending := by
  unfold takeAnnounce
  try dsimp only
  repeat' split
  all_goals simp

@[simp] theorem takeBeat_frame (n : Name) (q : BitVec 8) (s : State) :
    (takeBeat n q s).pins = s.pins ∧ (takeBeat n q s).time = s.time ∧ (takeBeat n q s).line = s.line ∧
    (takeBeat n q s).coupling = s.coupling ∧ (takeBeat n q s).roster.asked = s.roster.asked ∧
    (takeBeat n q s).roster.fullLatch = s.roster.fullLatch ∧ (takeBeat n q s).naming = s.naming ∧
    (takeBeat n q s).census = s.census ∧ (takeBeat n q s).service = s.service ∧ (takeBeat n q s).changes = s.changes ∧
    (takeBeat n q s).notices = s.notices ∧ (takeBeat n q s).order = s.order ∧ (takeBeat n q s).snapshot = s.snapshot ∧
    (takeBeat n q s).draws = s.draws ∧ (takeBeat n q s).pending = s.pending := by
  unfold takeBeat
  try dsimp only
  repeat' split
  all_goals simp

@[simp] theorem takeRelease_frame (n : Name) (x : Identity) (s : State) :
    (takeRelease n x s).pins = s.pins ∧ (takeRelease n x s).time = s.time ∧
    (takeRelease n x s).line.enabled = s.line.enabled ∧ (takeRelease n x s).line.fault = s.line.fault ∧
    (takeRelease n x s).line.recessive8 = s.line.recessive8 ∧ (takeRelease n x s).line.stuck = s.line.stuck ∧
    (takeRelease n x s).line.errors = s.line.errors ∧ (takeRelease n x s).line.rx = s.line.rx ∧
    (takeRelease n x s).line.inFlight = s.line.inFlight ∧ (takeRelease n x s).line.txList = s.line.txList ∧
    (takeRelease n x s).line.txDrops = s.line.txDrops ∧ (takeRelease n x s).line.beatSeq = s.line.beatSeq ∧
    (takeRelease n x s).line.nextTag = s.line.nextTag ∧ (takeRelease n x s).coupling = s.coupling ∧
    (takeRelease n x s).roster.asked = s.roster.asked ∧ (takeRelease n x s).naming.plan = s.naming.plan ∧
    (takeRelease n x s).naming.tickets = s.naming.tickets ∧ (takeRelease n x s).census = s.census ∧
    (takeRelease n x s).notices = s.notices ∧ (takeRelease n x s).order = s.order ∧
    (takeRelease n x s).snapshot = s.snapshot ∧ (takeRelease n x s).draws = s.draws ∧
    (takeRelease n x s).pending = s.pending := by
  unfold takeRelease
  try dsimp only
  repeat' split
  all_goals simp

@[simp] theorem takeCall_frame (n : Name) (cause : Byte) (s : State) :
    (takeCall n cause s).pins = s.pins ∧ (takeCall n cause s).time = s.time ∧ (takeCall n cause s).line = s.line ∧
    (takeCall n cause s).coupling = s.coupling ∧ (takeCall n cause s).roster = s.roster ∧
    (takeCall n cause s).naming = s.naming ∧ (takeCall n cause s).census = s.census ∧
    (takeCall n cause s).changes = s.changes ∧ (takeCall n cause s).notices = s.notices ∧
    (takeCall n cause s).order = s.order ∧ (takeCall n cause s).snapshot = s.snapshot ∧
    (takeCall n cause s).draws = s.draws ∧ (takeCall n cause s).pending = s.pending := by
  unfold takeCall
  try dsimp only
  repeat' split
  all_goals simp

@[simp] theorem dispatch_frame (f : RxFrame) (s : State) :
    (dispatch f s).pins = s.pins ∧ (dispatch f s).time = s.time ∧ (dispatch f s).line.enabled = s.line.enabled ∧
    (dispatch f s).line.fault = s.line.fault ∧ (dispatch f s).line.recessive8 = s.line.recessive8 ∧
    (dispatch f s).line.stuck = s.line.stuck ∧ (dispatch f s).line.errors = s.line.errors ∧
    (dispatch f s).line.rx = s.line.rx ∧ (dispatch f s).line.inFlight = s.line.inFlight ∧
    (dispatch f s).line.beatSeq = s.line.beatSeq ∧ (dispatch f s).coupling = s.coupling ∧
    (dispatch f s).census.generation = s.census.generation ∧ (dispatch f s).census.settling = s.census.settling ∧
    (dispatch f s).notices = s.notices ∧ (dispatch f s).order.phase = s.order.phase ∧
    (dispatch f s).order.setup = s.order.setup ∧ (dispatch f s).order.opcode = s.order.opcode ∧
    (dispatch f s).order.operand = s.order.operand ∧ (dispatch f s).order.data = s.order.data ∧
    (dispatch f s).snapshot = s.snapshot ∧ (dispatch f s).draws = s.draws ∧ (dispatch f s).pending = s.pending := by
  unfold dispatch
  try dsimp only
  repeat' split
  all_goals simp

@[simp] theorem passFrame_frame (s : State) :
    (passFrame s).pins = s.pins ∧ (passFrame s).time = s.time ∧ (passFrame s).line.enabled = s.line.enabled ∧
    (passFrame s).line.fault = s.line.fault ∧ (passFrame s).line.stuck = s.line.stuck ∧
    (passFrame s).line.errors = s.line.errors ∧ (passFrame s).line.inFlight = s.line.inFlight ∧
    (passFrame s).line.txList = s.line.txList ∧ (passFrame s).line.txDrops = s.line.txDrops ∧
    (passFrame s).line.foreign = s.line.foreign ∧ (passFrame s).line.beatSeq = s.line.beatSeq ∧
    (passFrame s).line.nextTag = s.line.nextTag ∧ (passFrame s).coupling = s.coupling ∧
    (passFrame s).roster = s.roster ∧ (passFrame s).naming = s.naming ∧ (passFrame s).census = s.census ∧
    (passFrame s).service = s.service ∧ (passFrame s).changes = s.changes ∧ (passFrame s).notices = s.notices ∧
    (passFrame s).order = s.order ∧ (passFrame s).snapshot = s.snapshot ∧ (passFrame s).draws = s.draws ∧
    (passFrame s).pending = s.pending := by
  unfold passFrame
  repeat' split
  all_goals simp

@[simp] theorem receiveFrame_frame (f : RxFrame) (s : State) :
    (receiveFrame f s).pins.mateA = s.pins.mateA ∧ (receiveFrame f s).pins.mateB = s.pins.mateB ∧
    (receiveFrame f s).pins.lock = s.pins.lock ∧ (receiveFrame f s).pins.supplyGood = s.pins.supplyGood ∧
    (receiveFrame f s).pins.supplyEn = s.pins.supplyEn ∧ (receiveFrame f s).pins.sdo = s.pins.sdo ∧
    (receiveFrame f s).time = s.time ∧ (receiveFrame f s).line.enabled = s.line.enabled ∧
    (receiveFrame f s).line.stuck = s.line.stuck ∧ (receiveFrame f s).line.inFlight = s.line.inFlight ∧
    (receiveFrame f s).line.beatSeq = s.line.beatSeq ∧ (receiveFrame f s).coupling = s.coupling ∧
    (receiveFrame f s).census.generation = s.census.generation ∧
    (receiveFrame f s).census.settling = s.census.settling ∧
    (receiveFrame f s).notices.coupling = s.notices.coupling ∧ (receiveFrame f s).notices.line = s.notices.line ∧
    (receiveFrame f s).notices.census = s.notices.census ∧
    (receiveFrame f s).notices.couplingSeen = s.notices.couplingSeen ∧
    (receiveFrame f s).notices.lineSeen = s.notices.lineSeen ∧
    (receiveFrame f s).notices.censusSeen = s.notices.censusSeen ∧ (receiveFrame f s).order.phase = s.order.phase ∧
    (receiveFrame f s).order.setup = s.order.setup ∧ (receiveFrame f s).order.opcode = s.order.opcode ∧
    (receiveFrame f s).order.operand = s.order.operand ∧ (receiveFrame f s).order.data = s.order.data ∧
    (receiveFrame f s).snapshot = s.snapshot ∧ (receiveFrame f s).draws = s.draws ∧
    (receiveFrame f s).pending = s.pending := by
  unfold receiveFrame
  try dsimp only
  repeat' split
  all_goals simp

end Sys2Proof.Machine
end

