-- ==== Sys2Proof/Laws/FrameCommand.lean ====
section
/-! SUPPORT. Frames of the operations single commands call: for each, every block and field it never changes, as simp lemmas. -/

namespace Sys2Proof.Machine

@[simp] theorem matesMet_frame (s : State) :
    (matesMet s).pins.mateA = s.pins.mateA ∧ (matesMet s).pins.mateB = s.pins.mateB ∧
    (matesMet s).pins.lock = s.pins.lock ∧ (matesMet s).pins.supplyGood = s.pins.supplyGood ∧
    (matesMet s).pins.attn = s.pins.attn ∧ (matesMet s).pins.sdo = s.pins.sdo ∧ (matesMet s).time.now = s.time.now ∧
    (matesMet s).time.freezeStart = s.time.freezeStart ∧ (matesMet s).line.fault = s.line.fault ∧
    (matesMet s).line.stuck = s.line.stuck ∧ (matesMet s).line.errors = s.line.errors ∧
    (matesMet s).line.txList = s.line.txList ∧ (matesMet s).line.txDrops = s.line.txDrops ∧
    (matesMet s).line.foreign = s.line.foreign ∧ (matesMet s).line.beatSeq = s.line.beatSeq ∧
    (matesMet s).line.nextTag = s.line.nextTag ∧ (matesMet s).coupling.unmateCapture = s.coupling.unmateCapture ∧
    (matesMet s).roster.fullLatch = s.roster.fullLatch ∧ (matesMet s).naming.plan = s.naming.plan ∧
    (matesMet s).census.state = s.census.state ∧ (matesMet s).census.returnState = s.census.returnState ∧
    (matesMet s).census.generation = s.census.generation ∧ (matesMet s).census.settling = s.census.settling ∧
    (matesMet s).service = s.service ∧ (matesMet s).changes = s.changes ∧
    (matesMet s).notices.changes = s.notices.changes ∧ (matesMet s).notices.service = s.notices.service ∧
    (matesMet s).notices.order = s.notices.order ∧ (matesMet s).notices.line = s.notices.line ∧
    (matesMet s).notices.census = s.notices.census ∧ (matesMet s).notices.lineSeen = s.notices.lineSeen ∧
    (matesMet s).notices.censusSeen = s.notices.censusSeen ∧ (matesMet s).order.phase = s.order.phase ∧
    (matesMet s).order.setup = s.order.setup ∧ (matesMet s).order.opcode = s.order.opcode ∧
    (matesMet s).order.operand = s.order.operand ∧ (matesMet s).order.data = s.order.data ∧
    (matesMet s).order.state = s.order.state ∧ (matesMet s).order.termination = s.order.termination ∧
    (matesMet s).order.detail = s.order.detail ∧ (matesMet s).order.pingIdentity = s.order.pingIdentity ∧
    (matesMet s).snapshot = s.snapshot ∧ (matesMet s).draws = s.draws ∧ (matesMet s).pending = s.pending := by
  unfold matesMet
  try dsimp only
  repeat' split
  all_goals simp

@[simp] theorem mateParted_frame (s : State) :
    (mateParted s).pins = s.pins ∧ (mateParted s).time.now = s.time.now ∧ (mateParted s).time.beat = s.time.beat ∧
    (mateParted s).line.fault = s.line.fault ∧ (mateParted s).line.stuck = s.line.stuck ∧
    (mateParted s).line.errors = s.line.errors ∧ (mateParted s).line.txList = s.line.txList ∧
    (mateParted s).line.txDrops = s.line.txDrops ∧ (mateParted s).line.foreign = s.line.foreign ∧
    (mateParted s).line.beatSeq = s.line.beatSeq ∧ (mateParted s).line.nextTag = s.line.nextTag ∧
    (mateParted s).coupling.supply = s.coupling.supply ∧ (mateParted s).coupling.settle = s.coupling.settle ∧
    (mateParted s).roster = s.roster ∧ (mateParted s).naming = s.naming ∧ (mateParted s).census = s.census ∧
    (mateParted s).service = s.service ∧ (mateParted s).changes = s.changes ∧
    (mateParted s).notices.changes = s.notices.changes ∧ (mateParted s).notices.service = s.notices.service ∧
    (mateParted s).notices.order = s.notices.order ∧ (mateParted s).notices.line = s.notices.line ∧
    (mateParted s).notices.census = s.notices.census ∧ (mateParted s).notices.lineSeen = s.notices.lineSeen ∧
    (mateParted s).notices.censusSeen = s.notices.censusSeen ∧ (mateParted s).order = s.order ∧
    (mateParted s).snapshot = s.snapshot ∧ (mateParted s).draws = s.draws ∧ (mateParted s).pending = s.pending := by
  unfold mateParted
  try dsimp only
  repeat' split
  all_goals simp

@[simp] theorem lineRecessive_frame (s : State) :
    (lineRecessive s).pins = s.pins ∧ (lineRecessive s).time = s.time ∧
    (lineRecessive s).line.enabled = s.line.enabled ∧ (lineRecessive s).line.errors = s.line.errors ∧
    (lineRecessive s).line.inFlight = s.line.inFlight ∧ (lineRecessive s).line.txList = s.line.txList ∧
    (lineRecessive s).line.txDrops = s.line.txDrops ∧ (lineRecessive s).line.foreign = s.line.foreign ∧
    (lineRecessive s).line.beatSeq = s.line.beatSeq ∧ (lineRecessive s).line.nextTag = s.line.nextTag ∧
    (lineRecessive s).coupling = s.coupling ∧ (lineRecessive s).roster = s.roster ∧
    (lineRecessive s).naming = s.naming ∧ (lineRecessive s).census = s.census ∧
    (lineRecessive s).service = s.service ∧ (lineRecessive s).changes = s.changes ∧
    (lineRecessive s).notices = s.notices ∧ (lineRecessive s).order = s.order ∧
    (lineRecessive s).snapshot = s.snapshot ∧ (lineRecessive s).draws = s.draws ∧
    (lineRecessive s).pending = s.pending := by
  unfold lineRecessive
  try dsimp only
  all_goals simp

@[simp] theorem withdrawLate_frame (tag : Nat) (s : State) :
    (withdrawLate tag s).pins = s.pins ∧ (withdrawLate tag s).time = s.time ∧
    (withdrawLate tag s).line.enabled = s.line.enabled ∧ (withdrawLate tag s).line.fault = s.line.fault ∧
    (withdrawLate tag s).line.recessive8 = s.line.recessive8 ∧ (withdrawLate tag s).line.stuck = s.line.stuck ∧
    (withdrawLate tag s).line.errors = s.line.errors ∧ (withdrawLate tag s).line.rx = s.line.rx ∧
    (withdrawLate tag s).line.inFlight = s.line.inFlight ∧ (withdrawLate tag s).line.foreign = s.line.foreign ∧
    (withdrawLate tag s).line.beatSeq = s.line.beatSeq ∧ (withdrawLate tag s).line.nextTag = s.line.nextTag ∧
    (withdrawLate tag s).coupling = s.coupling ∧ (withdrawLate tag s).roster = s.roster ∧
    (withdrawLate tag s).naming = s.naming ∧ (withdrawLate tag s).census = s.census ∧
    (withdrawLate tag s).service = s.service ∧ (withdrawLate tag s).changes = s.changes ∧
    (withdrawLate tag s).notices = s.notices ∧ (withdrawLate tag s).order = s.order ∧
    (withdrawLate tag s).snapshot = s.snapshot ∧ (withdrawLate tag s).draws = s.draws ∧
    (withdrawLate tag s).pending = s.pending := by
  unfold withdrawLate
  try dsimp only
  repeat' split
  all_goals simp

@[simp] theorem censusOverrun_frame (s : State) :
    (censusOverrun s).pins = s.pins ∧ (censusOverrun s).time = s.time ∧ (censusOverrun s).line = s.line ∧
    (censusOverrun s).coupling = s.coupling ∧ (censusOverrun s).roster = s.roster ∧
    (censusOverrun s).naming = s.naming ∧ (censusOverrun s).census.generation = s.census.generation ∧
    (censusOverrun s).census.settling = s.census.settling ∧
    (censusOverrun s).census.firstFrame = s.census.firstFrame ∧ (censusOverrun s).census.quiet = s.census.quiet ∧
    (censusOverrun s).census.deadline = s.census.deadline ∧ (censusOverrun s).service = s.service ∧
    (censusOverrun s).notices = s.notices ∧ (censusOverrun s).order = s.order ∧
    (censusOverrun s).snapshot = s.snapshot ∧ (censusOverrun s).draws = s.draws ∧
    (censusOverrun s).pending = s.pending := by
  unfold censusOverrun
  try dsimp only
  repeat' split
  all_goals simp

@[simp] theorem finishService_frame (n : Name) (s : State) :
    (finishService n s).pins.mateA = s.pins.mateA ∧ (finishService n s).pins.mateB = s.pins.mateB ∧
    (finishService n s).pins.lock = s.pins.lock ∧ (finishService n s).pins.supplyGood = s.pins.supplyGood ∧
    (finishService n s).pins.supplyEn = s.pins.supplyEn ∧ (finishService n s).time = s.time ∧
    (finishService n s).line = s.line ∧ (finishService n s).coupling = s.coupling ∧
    (finishService n s).roster = s.roster ∧ (finishService n s).naming = s.naming ∧
    (finishService n s).census = s.census ∧ (finishService n s).changes = s.changes ∧
    (finishService n s).notices.coupling = s.notices.coupling ∧ (finishService n s).notices.line = s.notices.line ∧
    (finishService n s).notices.census = s.notices.census ∧
    (finishService n s).notices.couplingSeen = s.notices.couplingSeen ∧
    (finishService n s).notices.lineSeen = s.notices.lineSeen ∧
    (finishService n s).notices.censusSeen = s.notices.censusSeen ∧ (finishService n s).order = s.order ∧
    (finishService n s).snapshot = s.snapshot ∧ (finishService n s).draws = s.draws ∧
    (finishService n s).pending = s.pending := by
  unfold finishService
  try dsimp only
  all_goals simp

@[simp] theorem notInService_frame (s : State) :
    (notInService s).pins.mateA = s.pins.mateA ∧ (notInService s).pins.mateB = s.pins.mateB ∧
    (notInService s).pins.lock = s.pins.lock ∧ (notInService s).pins.supplyGood = s.pins.supplyGood ∧
    (notInService s).pins.supplyEn = s.pins.supplyEn ∧ (notInService s).pins.attn = s.pins.attn ∧
    (notInService s).time = s.time ∧ (notInService s).line = s.line ∧ (notInService s).coupling = s.coupling ∧
    (notInService s).roster = s.roster ∧ (notInService s).naming = s.naming ∧ (notInService s).census = s.census ∧
    (notInService s).service = s.service ∧ (notInService s).changes = s.changes ∧
    (notInService s).notices = s.notices ∧ (notInService s).order = s.order ∧ (notInService s).snapshot = s.snapshot ∧
    (notInService s).draws = s.draws ∧ (notInService s).pending = s.pending := by
  unfold notInService
  try dsimp only
  all_goals simp

@[simp] theorem doneHighest_frame (s : State) :
    (doneHighest s).pins.mateA = s.pins.mateA ∧ (doneHighest s).pins.mateB = s.pins.mateB ∧
    (doneHighest s).pins.lock = s.pins.lock ∧ (doneHighest s).pins.supplyGood = s.pins.supplyGood ∧
    (doneHighest s).pins.supplyEn = s.pins.supplyEn ∧ (doneHighest s).time = s.time ∧ (doneHighest s).line = s.line ∧
    (doneHighest s).coupling = s.coupling ∧ (doneHighest s).roster = s.roster ∧ (doneHighest s).naming = s.naming ∧
    (doneHighest s).census = s.census ∧ (doneHighest s).changes = s.changes ∧
    (doneHighest s).notices.coupling = s.notices.coupling ∧ (doneHighest s).notices.line = s.notices.line ∧
    (doneHighest s).notices.census = s.notices.census ∧
    (doneHighest s).notices.couplingSeen = s.notices.couplingSeen ∧
    (doneHighest s).notices.lineSeen = s.notices.lineSeen ∧
    (doneHighest s).notices.censusSeen = s.notices.censusSeen ∧ (doneHighest s).order = s.order ∧
    (doneHighest s).snapshot = s.snapshot ∧ (doneHighest s).draws = s.draws ∧ (doneHighest s).pending = s.pending := by
  unfold doneHighest
  try dsimp only
  repeat' split
  all_goals simp

@[simp] theorem beginOrder_frame (s : State) :
    (beginOrder s).pins = s.pins ∧ (beginOrder s).time = s.time ∧ (beginOrder s).line = s.line ∧
    (beginOrder s).coupling = s.coupling ∧ (beginOrder s).roster = s.roster ∧ (beginOrder s).naming = s.naming ∧
    (beginOrder s).census = s.census ∧ (beginOrder s).service = s.service ∧ (beginOrder s).changes = s.changes ∧
    (beginOrder s).notices = s.notices ∧ (beginOrder s).order.phase = s.order.phase ∧
    (beginOrder s).order.setup = s.order.setup ∧ (beginOrder s).order.opcode = s.order.opcode ∧
    (beginOrder s).order.operand = s.order.operand ∧ (beginOrder s).order.data = s.order.data ∧
    (beginOrder s).order.pingIdentity = s.order.pingIdentity ∧ (beginOrder s).order.pingWindow = s.order.pingWindow ∧
    (beginOrder s).snapshot = s.snapshot ∧ (beginOrder s).draws = s.draws ∧ (beginOrder s).pending = s.pending := by
  unfold beginOrder
  try dsimp only
  all_goals simp

@[simp] theorem orderBusy_frame (s : State) :
    (orderBusy s).pins.mateA = s.pins.mateA ∧ (orderBusy s).pins.mateB = s.pins.mateB ∧
    (orderBusy s).pins.lock = s.pins.lock ∧ (orderBusy s).pins.supplyGood = s.pins.supplyGood ∧
    (orderBusy s).pins.supplyEn = s.pins.supplyEn ∧ (orderBusy s).pins.attn = s.pins.attn ∧
    (orderBusy s).time = s.time ∧ (orderBusy s).line = s.line ∧ (orderBusy s).coupling = s.coupling ∧
    (orderBusy s).roster = s.roster ∧ (orderBusy s).naming = s.naming ∧ (orderBusy s).census = s.census ∧
    (orderBusy s).service = s.service ∧ (orderBusy s).changes = s.changes ∧ (orderBusy s).notices = s.notices ∧
    (orderBusy s).order = s.order ∧ (orderBusy s).snapshot = s.snapshot ∧ (orderBusy s).draws = s.draws ∧
    (orderBusy s).pending = s.pending := by
  unfold orderBusy
  try dsimp only
  all_goals simp

@[simp] theorem setupOrder_frame (s : State) :
    (setupOrder s).pins = s.pins ∧ (setupOrder s).time = s.time ∧ (setupOrder s).line = s.line ∧
    (setupOrder s).coupling = s.coupling ∧ (setupOrder s).roster = s.roster ∧ (setupOrder s).naming = s.naming ∧
    (setupOrder s).census = s.census ∧ (setupOrder s).service = s.service ∧ (setupOrder s).changes = s.changes ∧
    (setupOrder s).notices = s.notices ∧ (setupOrder s).order.phase = s.order.phase ∧
    (setupOrder s).order.opcode = s.order.opcode ∧ (setupOrder s).order.operand = s.order.operand ∧
    (setupOrder s).order.data = s.order.data ∧ (setupOrder s).snapshot = s.snapshot ∧ (setupOrder s).draws = s.draws ∧
    (setupOrder s).pending = s.pending := by
  unfold setupOrder
  try dsimp only
  repeat' split
  all_goals simp

@[simp] theorem planOrder_frame (s : State) :
    (planOrder s).pins = s.pins ∧ (planOrder s).time = s.time ∧ (planOrder s).line = s.line ∧
    (planOrder s).coupling = s.coupling ∧ (planOrder s).roster = s.roster ∧
    (planOrder s).naming.claims = s.naming.claims ∧ (planOrder s).naming.tickets = s.naming.tickets ∧
    (planOrder s).census = s.census ∧ (planOrder s).service = s.service ∧ (planOrder s).changes = s.changes ∧
    (planOrder s).notices = s.notices ∧ (planOrder s).order.phase = s.order.phase ∧
    (planOrder s).order.setup = s.order.setup ∧ (planOrder s).order.opcode = s.order.opcode ∧
    (planOrder s).order.operand = s.order.operand ∧ (planOrder s).order.data = s.order.data ∧
    (planOrder s).snapshot = s.snapshot ∧ (planOrder s).draws = s.draws ∧ (planOrder s).pending = s.pending := by
  unfold planOrder
  try dsimp only
  repeat' split
  all_goals simp

@[simp] theorem clearPlanOrder_frame (s : State) :
    (clearPlanOrder s).pins = s.pins ∧ (clearPlanOrder s).time = s.time ∧ (clearPlanOrder s).line = s.line ∧
    (clearPlanOrder s).coupling = s.coupling ∧ (clearPlanOrder s).roster = s.roster ∧
    (clearPlanOrder s).naming.claims = s.naming.claims ∧ (clearPlanOrder s).naming.tickets = s.naming.tickets ∧
    (clearPlanOrder s).census = s.census ∧ (clearPlanOrder s).service = s.service ∧
    (clearPlanOrder s).changes = s.changes ∧ (clearPlanOrder s).notices = s.notices ∧
    (clearPlanOrder s).order.phase = s.order.phase ∧ (clearPlanOrder s).order.setup = s.order.setup ∧
    (clearPlanOrder s).order.opcode = s.order.opcode ∧ (clearPlanOrder s).order.operand = s.order.operand ∧
    (clearPlanOrder s).order.data = s.order.data ∧ (clearPlanOrder s).snapshot = s.snapshot ∧
    (clearPlanOrder s).draws = s.draws ∧ (clearPlanOrder s).pending = s.pending := by
  unfold clearPlanOrder
  try dsimp only
  all_goals simp

@[simp] theorem goOrder_frame (s : State) :
    (goOrder s).pins = s.pins ∧ (goOrder s).time = s.time ∧ (goOrder s).line.fault = s.line.fault ∧
    (goOrder s).line.stuck = s.line.stuck ∧ (goOrder s).line.errors = s.line.errors ∧
    (goOrder s).line.txList = s.line.txList ∧ (goOrder s).line.txDrops = s.line.txDrops ∧
    (goOrder s).line.foreign = s.line.foreign ∧ (goOrder s).line.beatSeq = s.line.beatSeq ∧
    (goOrder s).line.nextTag = s.line.nextTag ∧ (goOrder s).coupling.lockedOnce = s.coupling.lockedOnce ∧
    (goOrder s).coupling.supply = s.coupling.supply ∧ (goOrder s).coupling.unmateCapture = s.coupling.unmateCapture ∧
    (goOrder s).coupling.brk = s.coupling.brk ∧ (goOrder s).coupling.settle = s.coupling.settle ∧
    (goOrder s).coupling.holdLimit = s.coupling.holdLimit ∧ (goOrder s).roster = s.roster ∧
    (goOrder s).naming = s.naming ∧ (goOrder s).census = s.census ∧ (goOrder s).service = s.service ∧
    (goOrder s).changes = s.changes ∧ (goOrder s).notices.changes = s.notices.changes ∧
    (goOrder s).notices.service = s.notices.service ∧ (goOrder s).notices.order = s.notices.order ∧
    (goOrder s).notices.line = s.notices.line ∧ (goOrder s).notices.census = s.notices.census ∧
    (goOrder s).notices.lineSeen = s.notices.lineSeen ∧ (goOrder s).notices.censusSeen = s.notices.censusSeen ∧
    (goOrder s).order.setup = s.order.setup ∧ (goOrder s).order.opcode = s.order.opcode ∧
    (goOrder s).order.operand = s.order.operand ∧ (goOrder s).order.data = s.order.data ∧
    (goOrder s).snapshot = s.snapshot ∧ (goOrder s).draws = s.draws ∧ (goOrder s).pending = s.pending := by
  unfold goOrder
  try dsimp only
  repeat' split
  all_goals simp

@[simp] theorem parkOrder_frame (s : State) :
    (parkOrder s).pins.mateA = s.pins.mateA ∧ (parkOrder s).pins.mateB = s.pins.mateB ∧
    (parkOrder s).pins.lock = s.pins.lock ∧ (parkOrder s).pins.supplyGood = s.pins.supplyGood ∧
    (parkOrder s).pins.attn = s.pins.attn ∧ (parkOrder s).pins.sdo = s.pins.sdo ∧
    (parkOrder s).time.now = s.time.now ∧ (parkOrder s).time.freezeStart = s.time.freezeStart ∧
    (parkOrder s).line.txDrops = s.line.txDrops ∧ (parkOrder s).line.foreign = s.line.foreign ∧
    (parkOrder s).line.beatSeq = s.line.beatSeq ∧ (parkOrder s).line.nextTag = s.line.nextTag ∧
    (parkOrder s).coupling.state = s.coupling.state ∧ (parkOrder s).coupling.lockedOnce = s.coupling.lockedOnce ∧
    (parkOrder s).coupling.mateCapture = s.coupling.mateCapture ∧
    (parkOrder s).coupling.unmateCapture = s.coupling.unmateCapture ∧ (parkOrder s).coupling.make = s.coupling.make ∧
    (parkOrder s).coupling.brk = s.coupling.brk ∧ (parkOrder s).census.generation = s.census.generation ∧
    (parkOrder s).census.settling = s.census.settling ∧ (parkOrder s).notices = s.notices ∧
    (parkOrder s).order.phase = s.order.phase ∧ (parkOrder s).order.setup = s.order.setup ∧
    (parkOrder s).order.opcode = s.order.opcode ∧ (parkOrder s).order.operand = s.order.operand ∧
    (parkOrder s).order.data = s.order.data ∧ (parkOrder s).snapshot = s.snapshot ∧ (parkOrder s).draws = s.draws ∧
    (parkOrder s).pending = s.pending := by
  unfold parkOrder
  try dsimp only
  repeat' split
  all_goals simp

@[simp] theorem unparkOrder_frame (s : State) :
    (unparkOrder s).pins.mateA = s.pins.mateA ∧ (unparkOrder s).pins.mateB = s.pins.mateB ∧
    (unparkOrder s).pins.lock = s.pins.lock ∧ (unparkOrder s).pins.supplyGood = s.pins.supplyGood ∧
    (unparkOrder s).pins.attn = s.pins.attn ∧ (unparkOrder s).pins.sdo = s.pins.sdo ∧ (unparkOrder s).time = s.time ∧
    (unparkOrder s).line = s.line ∧ (unparkOrder s).coupling.state = s.coupling.state ∧
    (unparkOrder s).coupling.lockedOnce = s.coupling.lockedOnce ∧
    (unparkOrder s).coupling.mateCapture = s.coupling.mateCapture ∧
    (unparkOrder s).coupling.unmateCapture = s.coupling.unmateCapture ∧
    (unparkOrder s).coupling.make = s.coupling.make ∧ (unparkOrder s).coupling.brk = s.coupling.brk ∧
    (unparkOrder s).coupling.holdLimit = s.coupling.holdLimit ∧ (unparkOrder s).roster = s.roster ∧
    (unparkOrder s).naming = s.naming ∧ (unparkOrder s).census = s.census ∧ (unparkOrder s).service = s.service ∧
    (unparkOrder s).changes = s.changes ∧ (unparkOrder s).notices = s.notices ∧
    (unparkOrder s).order.phase = s.order.phase ∧ (unparkOrder s).order.setup = s.order.setup ∧
    (unparkOrder s).order.opcode = s.order.opcode ∧ (unparkOrder s).order.operand = s.order.operand ∧
    (unparkOrder s).order.data = s.order.data ∧ (unparkOrder s).snapshot = s.snapshot ∧
    (unparkOrder s).draws = s.draws ∧ (unparkOrder s).pending = s.pending := by
  unfold unparkOrder
  try dsimp only
  repeat' split
  all_goals simp

@[simp] theorem recallOrder_frame (s : State) :
    (recallOrder s).pins = s.pins ∧ (recallOrder s).time = s.time ∧ (recallOrder s).line.enabled = s.line.enabled ∧
    (recallOrder s).line.fault = s.line.fault ∧ (recallOrder s).line.recessive8 = s.line.recessive8 ∧
    (recallOrder s).line.stuck = s.line.stuck ∧ (recallOrder s).line.errors = s.line.errors ∧
    (recallOrder s).line.rx = s.line.rx ∧ (recallOrder s).line.inFlight = s.line.inFlight ∧
    (recallOrder s).line.foreign = s.line.foreign ∧ (recallOrder s).line.beatSeq = s.line.beatSeq ∧
    (recallOrder s).coupling = s.coupling ∧ (recallOrder s).roster = s.roster ∧ (recallOrder s).naming = s.naming ∧
    (recallOrder s).census = s.census ∧ (recallOrder s).service = s.service ∧ (recallOrder s).changes = s.changes ∧
    (recallOrder s).notices = s.notices ∧ (recallOrder s).order.phase = s.order.phase ∧
    (recallOrder s).order.setup = s.order.setup ∧ (recallOrder s).order.opcode = s.order.opcode ∧
    (recallOrder s).order.operand = s.order.operand ∧ (recallOrder s).order.data = s.order.data ∧
    (recallOrder s).snapshot = s.snapshot ∧ (recallOrder s).draws = s.draws ∧ (recallOrder s).pending = s.pending := by
  unfold recallOrder
  try dsimp only
  repeat' split
  all_goals simp

@[simp] theorem pingOrder_frame (s : State) :
    (pingOrder s).pins = s.pins ∧ (pingOrder s).time = s.time ∧ (pingOrder s).line.enabled = s.line.enabled ∧
    (pingOrder s).line.fault = s.line.fault ∧ (pingOrder s).line.recessive8 = s.line.recessive8 ∧
    (pingOrder s).line.stuck = s.line.stuck ∧ (pingOrder s).line.errors = s.line.errors ∧
    (pingOrder s).line.rx = s.line.rx ∧ (pingOrder s).line.inFlight = s.line.inFlight ∧
    (pingOrder s).line.foreign = s.line.foreign ∧ (pingOrder s).line.beatSeq = s.line.beatSeq ∧
    (pingOrder s).coupling = s.coupling ∧ (pingOrder s).roster = s.roster ∧ (pingOrder s).naming = s.naming ∧
    (pingOrder s).census = s.census ∧ (pingOrder s).service = s.service ∧ (pingOrder s).changes = s.changes ∧
    (pingOrder s).notices = s.notices ∧ (pingOrder s).order.phase = s.order.phase ∧
    (pingOrder s).order.setup = s.order.setup ∧ (pingOrder s).order.opcode = s.order.opcode ∧
    (pingOrder s).order.operand = s.order.operand ∧ (pingOrder s).order.data = s.order.data ∧
    (pingOrder s).snapshot = s.snapshot ∧ (pingOrder s).draws = s.draws ∧ (pingOrder s).pending = s.pending := by
  unfold pingOrder
  try dsimp only
  repeat' split
  all_goals simp

@[simp] theorem forgetOrder_frame (s : State) :
    (forgetOrder s).pins = s.pins ∧ (forgetOrder s).time = s.time ∧ (forgetOrder s).line = s.line ∧
    (forgetOrder s).coupling = s.coupling ∧ (forgetOrder s).roster.asked = s.roster.asked ∧
    (forgetOrder s).naming.plan = s.naming.plan ∧ (forgetOrder s).naming.tickets = s.naming.tickets ∧
    (forgetOrder s).census = s.census ∧ (forgetOrder s).notices = s.notices ∧
    (forgetOrder s).order.phase = s.order.phase ∧ (forgetOrder s).order.setup = s.order.setup ∧
    (forgetOrder s).order.opcode = s.order.opcode ∧ (forgetOrder s).order.operand = s.order.operand ∧
    (forgetOrder s).order.data = s.order.data ∧ (forgetOrder s).snapshot = s.snapshot ∧
    (forgetOrder s).draws = s.draws ∧ (forgetOrder s).pending = s.pending := by
  unfold forgetOrder
  try dsimp only
  repeat' split
  all_goals simp

@[simp] theorem tick_frame (s : State) :
    (tick s).pins = s.pins ∧ (tick s).time.frozen = s.time.frozen ∧ (tick s).time.freezeStart = s.time.freezeStart ∧
    (tick s).time.beat = s.time.beat ∧ (tick s).line = s.line ∧ (tick s).coupling = s.coupling ∧
    (tick s).roster = s.roster ∧ (tick s).naming = s.naming ∧ (tick s).census = s.census ∧
    (tick s).service = s.service ∧ (tick s).changes = s.changes ∧ (tick s).notices = s.notices ∧
    (tick s).order = s.order ∧ (tick s).snapshot = s.snapshot ∧ (tick s).draws = s.draws ∧
    (tick s).pending = s.pending := by
  unfold tick
  try dsimp only
  all_goals simp

@[simp] theorem idleStep_frame (s : State) :
    (idleStep s).pins = s.pins ∧ (idleStep s).time.frozen = s.time.frozen ∧
    (idleStep s).time.freezeStart = s.time.freezeStart ∧ (idleStep s).time.beat = s.time.beat ∧
    (idleStep s).line = s.line ∧ (idleStep s).coupling = s.coupling ∧ (idleStep s).roster = s.roster ∧
    (idleStep s).naming = s.naming ∧ (idleStep s).census = s.census ∧ (idleStep s).service = s.service ∧
    (idleStep s).changes = s.changes ∧ (idleStep s).notices = s.notices ∧ (idleStep s).order = s.order ∧
    (idleStep s).snapshot = s.snapshot := by
  unfold idleStep
  try dsimp only
  repeat' split
  all_goals simp

@[simp] theorem foreignEdge_frame (s : State) :
    (foreignEdge s).pins.mateA = s.pins.mateA ∧ (foreignEdge s).pins.mateB = s.pins.mateB ∧
    (foreignEdge s).pins.lock = s.pins.lock ∧ (foreignEdge s).pins.supplyGood = s.pins.supplyGood ∧
    (foreignEdge s).pins.supplyEn = s.pins.supplyEn ∧ (foreignEdge s).pins.sdo = s.pins.sdo ∧
    (foreignEdge s).time = s.time ∧ (foreignEdge s).line.enabled = s.line.enabled ∧
    (foreignEdge s).line.fault = s.line.fault ∧ (foreignEdge s).line.stuck = s.line.stuck ∧
    (foreignEdge s).line.errors = s.line.errors ∧ (foreignEdge s).line.txList = s.line.txList ∧
    (foreignEdge s).line.txDrops = s.line.txDrops ∧ (foreignEdge s).line.foreign = s.line.foreign ∧
    (foreignEdge s).line.beatSeq = s.line.beatSeq ∧ (foreignEdge s).line.nextTag = s.line.nextTag ∧
    (foreignEdge s).line.inFlight = s.line.inFlight ∧
    (foreignEdge s).coupling = s.coupling ∧ (foreignEdge s).roster = s.roster ∧ (foreignEdge s).naming = s.naming ∧
    (foreignEdge s).census = s.census ∧ (foreignEdge s).service = s.service ∧ (foreignEdge s).changes = s.changes ∧
    (foreignEdge s).order = s.order ∧ (foreignEdge s).snapshot = s.snapshot ∧ (foreignEdge s).draws = s.draws ∧
    (foreignEdge s).pending = s.pending ∧ (foreignEdge s).notices.coupling = s.notices.coupling ∧
    (foreignEdge s).notices.line = s.notices.line ∧ (foreignEdge s).notices.census = s.notices.census ∧
    (foreignEdge s).notices.couplingSeen = s.notices.couplingSeen ∧
    (foreignEdge s).notices.lineSeen = s.notices.lineSeen ∧
    (foreignEdge s).notices.censusSeen = s.notices.censusSeen := by
  unfold foreignEdge
  repeat' split
  all_goals simp


@[simp] theorem loseArbitration_frame (bit : Nat) (s : State) :
    (loseArbitration bit s).pins.mateA = s.pins.mateA ∧ (loseArbitration bit s).pins.mateB = s.pins.mateB ∧
    (loseArbitration bit s).pins.lock = s.pins.lock ∧ (loseArbitration bit s).pins.supplyGood = s.pins.supplyGood ∧
    (loseArbitration bit s).pins.supplyEn = s.pins.supplyEn ∧ (loseArbitration bit s).pins.sdo = s.pins.sdo ∧
    (loseArbitration bit s).time = s.time ∧ (loseArbitration bit s).line.enabled = s.line.enabled ∧
    (loseArbitration bit s).line.fault = s.line.fault ∧ (loseArbitration bit s).line.stuck = s.line.stuck ∧
    (loseArbitration bit s).line.errors = s.line.errors ∧ (loseArbitration bit s).line.txList = s.line.txList ∧
    (loseArbitration bit s).line.txDrops = s.line.txDrops ∧ (loseArbitration bit s).line.foreign = s.line.foreign ∧
    (loseArbitration bit s).line.beatSeq = s.line.beatSeq ∧ (loseArbitration bit s).line.nextTag = s.line.nextTag ∧
    (loseArbitration bit s).line.recessive8 = s.line.recessive8 ∧ (loseArbitration bit s).coupling = s.coupling ∧
    (loseArbitration bit s).roster = s.roster ∧ (loseArbitration bit s).naming = s.naming ∧
    (loseArbitration bit s).census = s.census ∧ (loseArbitration bit s).service = s.service ∧
    (loseArbitration bit s).changes = s.changes ∧ (loseArbitration bit s).order = s.order ∧
    (loseArbitration bit s).snapshot = s.snapshot ∧ (loseArbitration bit s).draws = s.draws ∧
    (loseArbitration bit s).pending = s.pending ∧ (loseArbitration bit s).notices.coupling = s.notices.coupling ∧
    (loseArbitration bit s).notices.line = s.notices.line ∧
    (loseArbitration bit s).notices.census = s.notices.census ∧
    (loseArbitration bit s).notices.couplingSeen = s.notices.couplingSeen ∧
    (loseArbitration bit s).notices.lineSeen = s.notices.lineSeen ∧
    (loseArbitration bit s).notices.censusSeen = s.notices.censusSeen := by
  unfold loseArbitration
  repeat' split
  all_goals simp


@[simp] theorem loseLine_frame (place : LossPlace) (s : State) :
    (loseLine place s).pins.mateA = s.pins.mateA ∧ (loseLine place s).pins.mateB = s.pins.mateB ∧
    (loseLine place s).pins.lock = s.pins.lock ∧ (loseLine place s).pins.supplyGood = s.pins.supplyGood ∧
    (loseLine place s).pins.supplyEn = s.pins.supplyEn ∧ (loseLine place s).pins.sdo = s.pins.sdo ∧
    (loseLine place s).time = s.time ∧ (loseLine place s).line.enabled = s.line.enabled ∧
    (loseLine place s).line.fault = s.line.fault ∧ (loseLine place s).line.stuck = s.line.stuck ∧
    (loseLine place s).line.errors = s.line.errors ∧ (loseLine place s).line.txList = s.line.txList ∧
    (loseLine place s).line.txDrops = s.line.txDrops ∧ (loseLine place s).line.foreign = s.line.foreign ∧
    (loseLine place s).line.beatSeq = s.line.beatSeq ∧ (loseLine place s).line.nextTag = s.line.nextTag ∧
    (loseLine place s).coupling = s.coupling ∧ (loseLine place s).roster = s.roster ∧
    (loseLine place s).naming = s.naming ∧ (loseLine place s).census = s.census ∧
    (loseLine place s).service = s.service ∧ (loseLine place s).changes = s.changes ∧
    (loseLine place s).order = s.order ∧ (loseLine place s).snapshot = s.snapshot ∧
    (loseLine place s).draws = s.draws ∧ (loseLine place s).pending = s.pending ∧
    (loseLine place s).notices.coupling = s.notices.coupling ∧ (loseLine place s).notices.line = s.notices.line ∧
    (loseLine place s).notices.census = s.notices.census ∧
    (loseLine place s).notices.couplingSeen = s.notices.couplingSeen ∧
    (loseLine place s).notices.lineSeen = s.notices.lineSeen ∧
    (loseLine place s).notices.censusSeen = s.notices.censusSeen := by
  cases place <;> simp [loseLine]


end Sys2Proof.Machine
end

