-- ==== Sys2Proof/Laws/Values.lean ====
section
/-! SUPPORT. What the shared operations write: one lemma per operation and outcome, and the list facts they rest on. -/

namespace Sys2Proof.Machine

/-! ### Lists and counts -/

/-- A saturating sum stays within its limit. -/
theorem satAdd_le (limit n k : Nat) : satAdd limit n k ≤ limit := Nat.min_le_left _ _

/-- Below the limit a saturating sum is the sum. -/
theorem satAdd_eq {limit n k : Nat} (h : n + k ≤ limit) : satAdd limit n k = n + k := Nat.min_eq_right h

/-- An insertion adds one member. -/
@[simp] theorem length_insertBy {α : Type} (behind : α → Bool) (x : α) (l : List α) :
    (insertBy behind x l).length = l.length + 1 := by
  induction l with
  | nil => rfl
  | cons y ys ih =>
    unfold insertBy
    split
    · rfl
    · simp [ih]

/-- The members after an insertion. -/
@[simp] theorem mem_insertBy {α : Type} (behind : α → Bool) (x y : α) (l : List α) :
    y ∈ insertBy behind x l ↔ y = x ∨ y ∈ l := by
  induction l with
  | nil => simp [insertBy]
  | cons z zs ih =>
    unfold insertBy
    split
    · simp
    · simp only [List.mem_cons, ih]
      tauto

/-- An insertion permutes the list with the new member. -/
theorem perm_insertBy {α : Type} (behind : α → Bool) (x : α) (l : List α) : (insertBy behind x l).Perm (x :: l) := by
  induction l with
  | nil => exact List.Perm.refl _
  | cons y ys ih =>
    unfold insertBy
    split
    · exact List.Perm.refl _
    · exact (List.Perm.cons y ih).trans (List.Perm.swap x y ys)

/-- An insertion keeps an order whose test is `behind`. -/
theorem pairwise_insertBy {α : Type} {r : α → α → Prop} {behind : α → Bool} {x : α} {l : List α} (hl : l.Pairwise r)
    (trans : ∀ y z, r x y → r y z → r x z) (ahead : ∀ y ∈ l, behind y = true → r x y)
    (after : ∀ y ∈ l, behind y = false → r y x) : (insertBy behind x l).Pairwise r := by
  induction l with
  | nil => simp [insertBy]
  | cons y ys ih =>
    rw [List.pairwise_cons] at hl
    unfold insertBy
    split
    · rename_i hb
      have hxy : r x y := ahead y (by simp) hb
      refine List.pairwise_cons.mpr ⟨?_, List.pairwise_cons.mpr hl⟩
      intro z hz
      rcases List.mem_cons.mp hz with rfl | hz
      · exact hxy
      · exact trans y z hxy (hl.1 z hz)
    · rename_i hb
      have hyx : r y x := after y (by simp) (by simpa using hb)
      refine List.pairwise_cons.mpr ⟨?_, ih hl.2 (fun z hz => ahead z (by simp [hz])) (fun z hz => after z (by simp [hz]))⟩
      intro z hz
      rcases (mem_insertBy behind x z ys).mp hz with rfl | hz
      · exact hyx
      · exact hl.1 z hz

/-! ### The change queue -/

/-- A record with room enters at the tail with the drop count (R160). -/
theorem queueRecord_room {kind : ChangeKind} {name : Name} {identity : Option Identity} {detail : Nat} {s : State}
    (h : s.changes.queue.length < Config.changeCapacity) :
    (queueRecord kind name identity detail s).changes
      = { queue := s.changes.queue ++
            [{ kind, name, identity, time := s.time.now, detail, droppedBefore := s.changes.drops }],
          drops := 0 } := by
  simp [queueRecord, h]

/-- A record on a full queue is lost and counted (R160). -/
theorem queueRecord_full {kind : ChangeKind} {name : Name} {identity : Option Identity} {detail : Nat} {s : State}
    (h : ¬ s.changes.queue.length < Config.changeCapacity) :
    (queueRecord kind name identity detail s).changes
      = { s.changes with drops := satAdd Config.maxCount8 s.changes.drops 1 } := by
  simp [queueRecord, h]

/-! ### Orders -/

/-- An order's ending (R171). -/
@[simp] theorem endOrder_order (error : Option OrderError) (detail : Nat) (s : State) :
    (endOrder error detail s).order =
      { s.order with state := .done, termination := terminationWord error, detail := BitVec.ofNat 8 detail,
                     pingIdentity := none, pingWindow := none } := rfl

/-- A running order is overtaken; no order is running afterwards (R172). -/
theorem overtakeOrder_not_running (s : State) : (overtakeOrder s).order.state ≠ .running := by
  unfold overtakeOrder
  split
  · simp
  · simp_all

/-! ### The transmit list -/

/-- A frame with room takes its place (R28). -/
theorem offerFrame_inserted {b : TxBody} {owner : Owner} {ref : OwnerRef} {s : State}
    (h : offerOutcome b s = .inserted) :
    (offerFrame b owner ref s).line =
      { s.line with
        txList := insertFrame { tag := s.line.nextTag, body := b, owner, ref, attempts := 0, started := false } s.line.txList
        nextTag := s.line.nextTag + 1 } := by
  simp [offerFrame, h]

/-- A frame that finds no room is dropped and counted (R29). -/
theorem offerFrame_dropped {b : TxBody} {owner : Owner} {ref : OwnerRef} {s : State} (h : offerOutcome b s = .dropped) :
    offerFrame b owner ref s = countTxDrop s := by
  simp [offerFrame, h]

/-- A frame that displaces a BEAT takes its room, and the BEAT is counted (R29). -/
theorem offerFrame_displaces {b : TxBody} {owner : Owner} {ref : OwnerRef} {s : State} {tag : Nat}
    (h : offerOutcome b s = .displaces tag) :
    (offerFrame b owner ref s).line =
      { s.line with
        txList := insertFrame { tag := s.line.nextTag, body := b, owner, ref, attempts := 0, started := false }
          (s.line.txList.filter (fun g => g.tag != tag))
        nextTag := s.line.nextTag + 1
        txDrops := satAdd Config.maxCount16 s.line.txDrops 1 } := by
  simp [offerFrame, h, countTxDrop]

/-- The three outcomes of an OBJECT that disputes a hold (R29, R119, R120). -/
theorem holdDisputed_disputeHold (x : Identity) (n : Name) (reason : Reason) (counter : Name) (s : State) :
    HoldDisputed x n reason counter s.line (disputeHold x n reason counter s).line := by
  have hb : (TxBody.object x n reason counter == .beat) = false := rfl
  have ho : (TxBody.object x n reason counter).isObject = true := rfl
  refine ⟨fun h => ?_, fun h => ⟨fun g hg hgb hgf hone => ?_, fun hall => ?_⟩⟩
  · have hi : offerOutcome (.object x n reason counter) s = .inserted := by
      simp [offerOutcome, hb, Config.txCapacity, h]
    simp [disputeHold, offerFrame_inserted hi]
  · have hd : offerOutcome (.object x n reason counter) s = .displaces g.tag := by
      have hsome : (s.line.displaceable).isSome = true := by
        rw [Line.displaceable, List.find?_isSome]; exact ⟨g, hg, by simp [hgb, hgf]⟩
      obtain ⟨f, hf⟩ := Option.isSome_iff_exists.mp hsome
      have hfg : f = g := by
        have h1 := List.find?_some hf
        exact hone f (List.mem_of_find?_eq_some hf) (by simp at h1; exact h1.1)
      simp [offerOutcome, hb, ho, Config.txCapacity, Nat.not_lt.mpr h, hf, hfg]
    simp [disputeHold, offerFrame_displaces hd, satAdd, Config.maxCount16]
  · have hd : offerOutcome (.object x n reason counter) s = .dropped := by
      have hnone : s.line.displaceable = none := by
        rw [Line.displaceable, List.find?_eq_none]; intro g hg; cases hgb : g.isBeat <;> simp [hall g hg, *]
      simp [offerOutcome, hb, ho, Config.txCapacity, Nat.not_lt.mpr h, hnone]
    simp [disputeHold, offerFrame_dropped hd, countTxDrop, satAdd, Config.maxCount16]

/-- What a HOLD does to a PING order (R177). -/
theorem holdAnswersPing_pingAnswered (x : Identity) (n : Name) (s : State) :
    HoldAnswersPing n x s (pingAnswered x n s) := by
  unfold HoldAnswersPing pingAnswered
  by_cases h : s.pingRunning = true ∧ s.order.operand.toNat = n ∧ s.order.pingWindow.isSome = true
  · by_cases hx : s.order.pingIdentity = some x
    · cases hh : s.holder n with
      | none => simp [h, hx, terminationWord]
      | some e => cases he : e.state <;> simp [h, hx, terminationWord, EntryState.code, he]
    · simp [h, hx, terminationWord, OrderError.bit]
  · rw [if_neg h, if_neg (by simpa [and_assoc] using h)]

/-- A second BEAT is refused and nothing is counted (R28). -/
theorem offerFrame_refused {b : TxBody} {owner : Owner} {ref : OwnerRef} {s : State} (h : offerOutcome b s = .refused) :
    offerFrame b owner ref s = s := by
  simp [offerFrame, h]

/-- What a withdrawal leaves (R31). -/
@[simp] theorem withdraw_line (p : TxFrame → Bool) (s : State) :
    (withdraw p s).line = { s.line with txList := s.line.txList.filter (fun f => !p f) } := rfl

/-! ### Entries -/

/-- The entries after a change of one identity's entry. -/
@[simp] theorem changeEntry_entries (x : Identity) (f : Entry → Entry) (s : State) :
    (changeEntry x f s).roster.entries = s.roster.entries.map (fun e => if e.identity == x then f e else e) := rfl

/-- The claims after one is dropped. -/
@[simp] theorem dropClaim_naming (x : Identity) (s : State) :
    (dropClaim x s).naming = { s.naming with claims := s.naming.claims.filter (fun c => c.claimant != x) } := rfl

/-! ### Line enable and notices -/

/-- The line interface's mark equals the enable condition after it has taken it (R19). -/
theorem syncLine_enabled (s : State) : (syncLine s).line.enabled = s.enableCondition := by
  unfold syncLine
  split
  · simp_all
  · split <;> simp_all

/-- Taking the enable condition does not change it. -/
@[simp] theorem syncLine_enableCondition (s : State) : (syncLine s).enableCondition = s.enableCondition := by
  simp [State.enableCondition]

/-- The SERVICE condition looks at the roster and the service unit only (R146). -/
theorem serviceCondition_congr {s t : State} (hr : t.roster = s.roster) (hs : t.service = s.service) :
    t.serviceCondition = s.serviceCondition := by
  have holderEq : ∀ n, t.holder n = s.holder n := fun n => by simp [State.holder, hr]
  have aboveEq : ∀ e, t.bridgeAbove e = s.bridgeAbove e := fun e => by simp [State.bridgeAbove, holderEq]
  have chainEq : ∀ d e, t.chainAbove d e = s.chainAbove d e := by
    intro d
    induction d with
    | zero => intro e; rfl
    | succ d ih => intro e; simp [State.chainAbove, aboveEq, ih]
  have maskedEq : ∀ n, t.masked n = s.masked n := fun n => by
    simp [State.masked, hs, holderEq, State.bridgesAbove, chainEq]
  simp [State.serviceCondition, State.openRequests, hs, maskedEq]

/-- The flags after a refresh: the level flags equal their conditions, the latched ones are as before (R163). -/
@[simp] theorem refreshNotices_notices (s : State) :
    (refreshNotices s).notices =
      { s.notices with changes := !s.changes.queue.isEmpty, service := s.serviceCondition,
                       order := s.order.state == .done } := rfl

/-- ATTN after a refresh follows the refreshed flags (R167). -/
@[simp] theorem refreshNotices_attn (s : State) :
    (refreshNotices s).pins.attn = attnAsserted (refreshNotices s).notices s.order := rfl

/-! ### The frames a receiver can hear (R10) -/

@[simp] theorem sameStart_nil_left (b : List Bool) : sameStart [] b = true := by simp [sameStart]
@[simp] theorem sameStart_nil_right (a : List Bool) : sameStart a [] = true := by simp [sameStart]

/-- A hunting receiver can hear any frame, once it is receiving. -/
theorem mayHear_of_hunting {s : State} (start : List Bool) (n : Nat) (h : s.line.rx = .hunting) :
    s.mayHear start n = s.receiving := by
  simp [State.mayHear, State.huntedFor, Receiver.kept, h]

theorem hears_of_hunting {s : State} (f : RxFrame) (h : s.line.rx = .hunting) : s.hears f = s.receiving :=
  mayHear_of_hunting _ _ h

/-- A receiver that waits hears what began at the moment from which it hunts or later (R19). -/
theorem mayHear_of_waiting {s : State} {m : Time} (start : List Bool) (n : Nat) (h : s.line.rx = .waiting m) :
    s.mayHear start n = (s.receiving && s.due (some (m + BitVec.ofNat 32 (s.halves n)))) := by
  simp [State.mayHear, State.huntedFor, Receiver.kept, h]

/-- The bit period is 8, 4 or 2 µs (R1). -/
theorem halves_eq (s : State) (n : Nat) : s.halves n = n * (s.linePeriod / 2) := by
  unfold State.halves State.linePeriod bitPeriod
  split <;> simp_all

/-- The receiver right after an enable or an edge waits 2 P, and after a sampled bit 3/2 P (R3, R4). -/
theorem waits_zero (s : State) : s.waits 0 = .waiting (s.time.now + BitVec.ofNat 32 (2 * s.linePeriod)) := by
  have h : 4 * (s.linePeriod / 2) = 2 * s.linePeriod := by unfold State.linePeriod; split <;> (try split) <;> rfl
  simp [State.waits, State.after, halves_eq, h]

theorem waits_one (s : State) : s.waits 1 = .waiting (s.time.now + BitVec.ofNat 32 (3 * s.linePeriod / 2)) := by
  have h : 3 * (s.linePeriod / 2) = 3 * s.linePeriod / 2 := by unfold State.linePeriod; split <;> (try split) <;> rfl
  simp [State.waits, State.after, halves_eq, h]

/-- What taking the enable condition does to the receiver and the attempt (R19). -/
theorem takesEnable_syncLine (s : State) : TakesEnable s (syncLine s) := by
  have h := waits_zero s
  unfold TakesEnable syncLine
  constructor <;> intro h1 h2 <;> split at h2 <;> (try split at h2) <;> simp_all

/-- A falling edge leaves a receiver that does not wait as it is. -/
theorem waitsAnew_of_not_waiting {s : State} (h : ∀ m, s.line.rx ≠ .waiting m) : s.waitsAnew = s.line.rx := by
  unfold State.waitsAnew; split <;> simp_all

/-- The part is receiving where it can hear anything. -/
theorem receiving_of_mayHear {s : State} {start : List Bool} {n : Nat} (h : s.mayHear start n = true) : s.receiving = true := by
  simp only [State.mayHear, Bool.and_eq_true] at h; exact h.1.1

theorem passFrame_of_waiting {s : State} {m : Time} (h : s.line.rx = .waiting m) (hr : s.receiving = true) :
    passFrame s = s.withLine { s.line with recessive8 := false, rx := .hunting } := by
  simp [passFrame, h, hr]

/-- A receiver that does not wait is left as it is by a frame it cannot hear. -/
theorem passFrame_of_not_waiting {s : State} (h : ∀ m, s.line.rx ≠ .waiting m) : passFrame s = s := by
  unfold passFrame; split <;> simp_all

/-- A frame the part can hear is a good frame, dispatched or counted as foreign; any other only ends. -/
theorem receiveFrame_hears {s : State} {f : RxFrame} (h : s.hears f = true) :
    receiveFrame f s = close (if formOk s.ownIdentity f then dispatch f (goodFrame s) else countForeign (goodFrame s)) := by
  simp [receiveFrame, h]

theorem receiveFrame_deaf {s : State} {f : RxFrame} (h : s.hears f = false) : receiveFrame f s = passFrame s := by
  simp [receiveFrame, h]

/-! ### Transactions of the arm port (R169) -/

@[simp] theorem length_clocked (count : Nat) (sdo : List Byte) : (clocked count sdo).length = count + 1 := by
  simp [clocked]

/-- What is clocked out beyond a reply is 00. -/
theorem clocked_getElem? {count i : Nat} (sdo : List Byte) (h : i < count + 1) :
    (clocked count sdo)[i]? = some (sdo.getD i 0) := by
  unfold clocked
  rw [List.getElem?_take_of_lt h, List.getD_eq_getElem?_getD]
  by_cases hi : i < sdo.length
  · rw [List.getElem?_append_left hi, List.getElem?_eq_getElem hi]; rfl
  · rw [List.getElem?_append_right (by omega), List.getElem?_eq_none (by omega : sdo.length ≤ i)]
    rw [List.getElem?_replicate, if_pos (by omega)]; rfl

/-! ### Deadlines that are due (R40, R41) -/

theorem due_iff_reached {s : State} {d : Option Time} : s.due d = true ↔ s.Reached d := by
  cases d with
  | none => simp [State.due, State.Reached]
  | some v => simp [State.due, State.Reached, isAhead]; omega

theorem toolDue_iff_reached {s : State} {d : Option Time} : s.toolDue d = true ↔ s.ToolReached d := by
  simp [State.toolDue, State.ToolReached, due_iff_reached]

@[simp] theorem mem_ifDue {b : Bool} {c d : Instr} : c ∈ ifDue b d ↔ b = true ∧ c = d := by
  cases b <;> simp [ifDue]

/-! ### The census at the close of an event (R129) -/

theorem quietCondition_iff {s : State} : s.quietCondition = true ↔ s.QuietHolds := by
  simp [State.quietCondition, State.QuietHolds, State.seekers, Entry.seeking, List.filter_eq_nil_iff]

/-- What `close` does to the census, whatever the event did before. -/
theorem censusCloses_close {s u : State}
    (h : u.toolAfter (1000 * u.cfg.quiet) = s.toolAfter (1000 * s.cfg.quiet)) : CensusCloses s u.census (close u) := by
  intro _
  have hq : (close u).QuietHolds ↔ u.quietCondition = true := by
    rw [quietCondition_iff]; simp [State.QuietHolds, close]
  rw [hq]
  constructor
  · intro h1
    constructor <;> intro h2 <;> simp [close, testQuiet, h1, h2, enterQuiet, ms, h]
  · intro h1
    cases hc : u.census.state <;> simp_all [close, testQuiet]

/-- The frames that a heard OBJECT withdraws are those of R114. -/
theorem yieldsTo_eq_withdrawn (x : Identity) (d : Name) (reason : Byte) (f : TxFrame) :
    f.yieldsTo x d (reason.toNat == Reason.conflict.code) = Withdrawn x d reason f := by
  have h : (reason.toNat == Reason.conflict.code) = (reason == 7) := by
    rw [Bool.eq_iff_iff, beq_iff_eq, beq_iff_eq, ← BitVec.toNat_inj]; rfl
  rw [h]; unfold TxFrame.yieldsTo Withdrawn
  cases f.ref <;> cases f.body <;> simp [Bool.and_comm, Bool.and_left_comm]

end Sys2Proof.Machine
end

