-- ==== Sys2Proof/Tests/Slice0.lean ====
section
/-! SUPPORT. The model's own tests: ill-formed commands the check refuses, small steps, and for every statement that has
hypotheses a state and operands that meet them, clause by clause. -/

namespace Sys2Proof.Tests

open Sys2Proof Sys2Proof.Machine

/-! ### Well-formedness: one ill-formed command for each check -/

theorem test_illformed_arbitrationLoss : (Instr.arbitrationLoss (.bit 52)).wellFormed = false := by decide
theorem test_illformed_bitError : (Instr.bitError (.mismatch 144)).wellFormed = false := by decide
theorem test_illformed_receiveError_length : (Instr.receiveError (.length 4 6)).wellFormed = false := by decide
theorem test_illformed_receiveError_crc :
    (Instr.receiveError (.crc ⟨8, 5, [0, 0]⟩ (WireFrame.crc ⟨8, 5, [0, 0]⟩))).wellFormed = false := by
  simp [Instr.wellFormed, ReceiveErrorCause.fails]
theorem test_illformed_foreignFrame_known : (Instr.foreignFrame ⟨1, 5, []⟩).wellFormed = false := by decide
theorem test_illformed_foreignFrame_long : (Instr.foreignFrame ⟨0, 5, List.replicate 10 0⟩).wellFormed = false := by decide
theorem test_illformed_announce_maker : (Instr.announceReceived 0x0000310000A1 0 0 0).wellFormed = false := by decide
theorem test_illformed_announce_path : (Instr.announceReceived 0x0A3C310000A1 63 0 0).wellFormed = false := by decide
theorem test_illformed_announce_wish : (Instr.announceReceived 0x0A3C310000A1 0 0 63).wellFormed = false := by decide
theorem test_illformed_beat_key : (Instr.beatReceived 0 1 2).wellFormed = false := by decide
theorem test_illformed_release_identity : (Instr.releaseReceived 5 0xFFFF31000001).wellFormed = false := by decide
theorem test_illformed_recall_key : (Instr.recallReceived 63 1).wellFormed = false := by decide
theorem test_illformed_armEndProbe_key : (Instr.probeOfArmEnd 64).wellFormed = false := by decide
theorem test_illformed_probe_target : (Instr.probeReceived 5 0).wellFormed = false := by decide
theorem test_illformed_probe_range : (Instr.probeReceived 5 63).wellFormed = false := by decide
theorem test_illformed_claim_name : (Instr.claimReceived 0x0A3C310000A1 64 0).wellFormed = false := by decide
theorem test_illformed_object_reason : (Instr.objectReceived 5 0x0A3C310000A1 8 8 0).wellFormed = false := by decide
theorem test_illformed_object_name : (Instr.objectReceived 5 0x0A3C310000A1 0 1 0).wellFormed = false := by decide
theorem test_illformed_object_counter : (Instr.objectReceived 5 0x0A3C310000A1 8 1 63).wellFormed = false := by decide
theorem test_illformed_hold_identity : (Instr.holdReceived 5 0).wellFormed = false := by decide
theorem test_illformed_call_key : (Instr.callReceived 0 1).wellFormed = false := by decide
theorem test_illformed_slots : (Instr.claimDeadline 48).wellFormed = false ∧ (Instr.silenceDeadline 48).wellFormed = false
    ∧ (Instr.lossDeadline 48).wellFormed = false := by decide
theorem test_illformed_probeWindowEnd : (Instr.probeWindowEnd 63).wellFormed = false := by decide
theorem test_illformed_writeOrder : (Instr.writeOrder 1 0 0 2 [7]).wellFormed = false := by decide
theorem test_illformed_done : (Instr.done 0).wellFormed = false := by decide
theorem test_illformed_unknownCommand : (Instr.unknownCommand 0xA5).wellFormed = false := by decide

/-! ### A running part -/

/-- Setup values inside every range of 00 Table 7. -/
def cfgT : Setup :=
  { rate := 1, identity := 0x123401000001, beat := 100, silence := 100, loss := 3, window := 2000, claim := 500,
    first := 200, quiet := 30, census := 2000, make := 20, brk := 20, settle := 50, hold := 1000, rotation := true,
    autoDone := false, enables := 0x3F }

/-- The test devices, and the test bridge. -/
def dev (n : Nat) : Identity := BitVec.ofNat 48 (0x0A3C31000000 + n)
def bridge : Identity := 0x0A3C7E000001

/-- An entry with the deadlines of its state. -/
def entry (slot : Nat) (x : Identity) (state : EntryState) (name : Option Name) (path : Name) : Entry :=
  { slot, identity := x, state, name, prior := none, origin := .free, path, revision := 1, firstHeard := 5000,
    lastHeard := 900000, beatSeq := none, gaps := 0, objections := 0, storm := false,
    claimDl := if state = .heard then some 1400000 else none,
    silenceDl := if state = .named then some 1050000 else none,
    lossDl := if state = .silent then some 1200000 else none }

/-- A tool at work: dev 1 NAMED 5, dev 2 HEARD, the bridge NAMED 7 with dev 3 SILENT 9 behind it, dev 4 CLAIMING 11 with its
window ended, dev 5 LOST 13; requests of 5 and 9, and 7 in service. -/
def run : State :=
  { State.reset with
    pins := { mateA := true, mateB := true, lock := true, supplyGood := true, supplyEn := true, attn := true, sdo := [] }
    time := { now := 1000000, frozen := false, freezeStart := 0, beat := some 1090000 }
    line := { Line.reset with enabled := true, recessive8 := true, rx := .hunting, errors := 3, nextTag := 4 }
    coupling := { Coupling.reset with state := .coupled, lockedOnce := true, supply := .on, mateCapture := 1000 }
    roster := {
      entries := [entry 0 (dev 1) .named (some 5) 0, entry 1 (dev 2) .heard none 0, entry 2 bridge .named (some 7) 0,
                  entry 3 (dev 3) .silent (some 9) 7, entry 4 (dev 4) .claiming (some 11) 0,
                  entry 5 (dev 5) .lost (some 13) 0]
      asked := [{ name := 20, probe := .opened, window := some 1015000, tag := some 1 }], fullLatch := false }
    naming := {
      plan := [{ maker := 0x0A3C, cls := 0x31, serial := 9, wildcard := false, name := 30, binding := some (dev 9) }]
      claims := [{ claimant := dev 4, name := 11, windowEnd := 999000, windowEnded := true, hold := 1001000,
                   objectSent := false }]
      tickets := [{ tag := 2, claimant := dev 2, deadline := 1001500 }] }
    census := { Census.reset with state := .gathering, deadline := some 2400000 }
    service := { requests := [⟨5, 1, false⟩, ⟨9, 2, false⟩], inService := [7], mask := 0, bottom := 62 }
    changes := { queue := [⟨.named, 5, some (dev 1), 700000, 0, 0⟩], drops := 0 }
    notices := { Notices.reset with changes := true, service := true }
    order := { Order.reset with phase := .run, setup := some cfgT } }

/-- The run with one of its blocks replaced. -/
def atLine (f : Line → Line) (s : State := run) : State := { s with line := f s.line }
def atOrder (opcode operand : Byte) (state : OrderState) (s : State := run) : State :=
  { s with order := { s.order with opcode, operand, state } }
def atSetup (s : State := run) : State := { s with order := { s.order with phase := .setup } }
def atCoupling (c : CouplingState) (lock mateA : Bool) (s : State := run) : State :=
  { s with pins := { s.pins with lock, mateA }, coupling := { s.coupling with state := c } }
/-- The run some microseconds later. -/
def later (us : Nat) (s : State := run) : State := { s with time := { s.time with now := s.time.now + BitVec.ofNat 32 us } }
/-- The time base at which every deadline of the run is past. -/
def runLate : State := later 500000

/-- A frame of the transmit list. -/
def frameT (tag : Nat) (body : TxBody) (ref : OwnerRef) (attempts : Nat) : TxFrame :=
  { tag, body, owner := .naming, ref, attempts, started := true }
/-- The run with one frame in the list and in flight. -/
def flying (body : TxBody) (ref : OwnerRef) (attempts : Nat) (s : State := run) : State :=
  atLine (fun l => { l with txList := [frameT 3 body ref attempts], inFlight := some ⟨3, body.wire 0 20⟩ }) s
/-- Twelve frames. -/
def fullList : List TxFrame :=
  (List.range 11).map (fun k => frameT (10 + k) (.probe 3) (.adoptionProbe 3) 0) ++ [frameT 30 .beat .none 0]
/-- A full roster. -/
def fullRoster (s : State := run) : State :=
  { s with roster := { s.roster with
      entries := (List.range 48).map (fun k => entry k (dev (100 + k)) .named (some (1 + k)) 0) } }

/-! ### Hypotheses of the invariants -/

theorem test_run_agrees : NoticesAgree run ∧ LineAgrees run ∧ FaultFollowsCount run ∧ CountsBounded run ∧ TxListOk run := by
  unfold NoticesAgree LevelsFollow LineAgrees FaultFollowsCount CountsBounded TxListOk; decide
theorem test_run_rosterOk : RosterOk run := by unfold RosterOk; decide
theorem test_run_claims : ClaimsInStep run := by unfold ClaimsInStep; decide
theorem test_run_supply : SupplyAgrees run := by unfold SupplyAgrees ToolEmpty; decide
theorem test_run_coupling : CouplingAgrees run := by unfold CouplingAgrees; decide
theorem test_run_census : CensusAgrees run := by unfold CensusAgrees; decide
theorem test_run_service : ServiceAgrees run := by unfold ServiceAgrees; decide
theorem test_run_order : OrderAgrees run := by unfold OrderAgrees; decide
theorem test_run_stages : StagesOk run := by unfold StagesOk; decide
theorem test_run_asked : AskedOk run := by unfold AskedOk; decide
theorem test_run_arrival : TxArrivalOk run := by unfold TxArrivalOk; decide
theorem test_run_tickets : TicketsAgree run := by
  intro k hk
  exact ⟨by revert k; decide, fun f hf => absurd hf List.not_mem_nil⟩
/-- The run receives whatever frame begins on the line: its receiver has kept no bits (R10). -/
theorem test_run_hears (f : RxFrame) : run.hears f = true := rfl
/-- The step of the invariant statements and of `StepRunsFrontCommand`: a command waits, and the step answers next. -/
theorem test_run_steps : ∃ t, step { run with pending := [.take] } = .next t := ⟨_, rfl⟩

/-! ### Hypotheses of the other statements

Each theorem is named for its statement, and has one line for each clause. -/

theorem test_hyp_EmptyQueueStep : run.pending = [] ∧ run.dueCommands = [] ∧ runLate.pending = [] ∧ runLate.dueCommands ≠ [] := by
  decide

/-- Held unlocked over 600 ms, with tool deadlines and the hold limit past. -/
def frozenRun : State :=
  { (atCoupling .held false true runLate) with
    time := { runLate.time with frozen := true, freezeStart := 900000 }
    line := { runLate.line with enabled := false, rx := .off }
    coupling := { runLate.coupling with state := .held, holdLimit := some 1400000 } }
theorem test_hyp_ToolDeadlinesWaitInFreeze : frozenRun.time.frozen = true ∧ frozenRun.dueCommands = [.holdLimitDeadline] := by
  decide

theorem test_hyp_MateInputsMoveCoupling :
    (∀ c ∈ [CouplingState.openState, .breaking], ∀ lock : Bool, (atCoupling c lock false).pins.mate .a = false
      ∧ (atCoupling c lock false).order.phase = .run ∧ (atCoupling c lock false).pins.otherMate .a = true)
    ∧ ((atSetup (atCoupling .openState true false)).pins.mate .a = false
      ∧ (atSetup (atCoupling .openState true false)).order.phase = .setup)
    ∧ (State.reset.pins.mate .b = false ∧ State.reset.pins.otherMate .b = false)
    ∧ (∀ c ∈ [CouplingState.openState, .making, .coupled, .held, .breaking], (atCoupling c true true).pins.mate .a = true
      ∧ (atCoupling c true true).order.phase = .run)
    ∧ ((atSetup run).pins.mate .b = true ∧ (atSetup run).order.phase = .setup) := by decide

/-- In MAKING with the make deadline past. -/
def makingDue (lock : Bool) : State :=
  { (atCoupling .making lock true) with coupling := { run.coupling with state := .making, make := some 1000000 } }
theorem test_hyp_LockAndMakeDeadline :
    ((atCoupling .held false true).pins.lock = false ∧ (atCoupling .held false true).coupling.state = .held)
    ∧ (run.pins.lock = true ∧ run.order.phase = .run ∧ run.coupling.state = .coupled)
    ∧ (∀ lock : Bool, (makingDue lock).due (makingDue lock).coupling.make = true ∧ (makingDue lock).order.phase = .run
      ∧ (makingDue lock).coupling.state = .making ∧ (makingDue lock).pins.lock = lock)
    ∧ ((atSetup run).pins.lock = !false ∧ (makingDue false).pins.lock = !true ∧ (makingDue true).pins.lock = !false) := by
  decide

theorem test_hyp_SupplyLossAndHoldLimitPark :
    (run.pins.supplyGood = true ∧ run.coupling.supply = .on)
    ∧ frozenRun.due frozenRun.coupling.holdLimit = true
    ∧ (State.reset.pins.supplyGood ≠ true ∧ State.reset.coupling.supply ≠ .on)
    ∧ ({ run with coupling := { run.coupling with supply := .off } } : State).pins.supplyGood ≠ false := by decide

/-- In BREAKING with the break deadline at this moment. -/
def breakingDue (mateA : Bool) : State :=
  { (atCoupling .breaking true mateA) with coupling := { run.coupling with state := .breaking, brk := some 1000000 } }
theorem test_hyp_BreakDeadlineTearsDown : ∀ mateA : Bool,
    (breakingDue mateA).due (breakingDue mateA).coupling.brk = true ∧ (breakingDue mateA).pins.mateA = mateA
    ∧ (breakingDue mateA).pins.mateB = true := by decide

/-- RAMPING with the settle deadline at this moment. -/
def rampingDue (good : Bool) : State :=
  { run with pins := { run.pins with supplyGood := good },
             coupling := { run.coupling with supply := .ramping, settle := some 1000000 } }
theorem test_hyp_SettleDeadlineDecidesSupply : ∀ good : Bool,
    (rampingDue good).due (rampingDue good).coupling.settle = true ∧ (rampingDue good).pins.supplyGood = good := by decide

theorem test_hyp_CrcFollowsR7 : lengthOk 8 2 = true ∧ lengthOk 0 9 = true ∧ lengthOk 0 0 = true := by decide

/-- A running RECALL with its frame in the list. -/
def recallRun (attempts : Nat) : State := flying .recall .none attempts (atOrder 0x12 0 .running)
/-- A running PING of name 5 that awaits dev 1, its window armed. -/
def pingRun : State :=
  { (atOrder 0x13 5 .running) with
    order := { run.order with opcode := 0x13, operand := 5, state := .running, pingIdentity := some (dev 1),
                              pingWindow := some 1010000 } }
/-- A running PING of name n that awaits dev 1, its window armed. -/
def pingOf (n : Byte) (s : State := run) : State :=
  { s with order := { run.order with opcode := 0x13, operand := n, state := .running, pingIdentity := some (dev 1),
                                     pingWindow := some 1010000 } }
/-- A running PING of name 5 whose PROBE is in the list. -/
def pingQueued (attempts : Nat) : State := flying (.probe 5) (.pingProbe 5) attempts (atOrder 0x13 5 .running)

theorem test_hyp_LineErrorsAndRecovery :
    (run.receiving = true ∧ (atLine (fun l => { l with stuck := true, fault := true })).receiving = true)
    ∧ (ReceiveErrorCause.earlyEnd.fails = true ∧ (ReceiveErrorCause.length 4 5).fails = true
      ∧ (ReceiveErrorCause.length 0 10).fails = true ∧ (ReceiveErrorCause.length 4 6).fails = false)
    ∧ ((atLine (fun l => { l with errors := 95 })).mayHear ReceiveErrorCause.earlyEnd.start 4 = true
      ∧ (atLine (fun l => { l with errors := 255, fault := true })).mayHear (ReceiveErrorCause.length 4 5).start 113 = true)
    ∧ (run.line.enabled = true ∧ run.line.fault = false ∧ run.recallRunning = false)
    ∧ ((recallRun 0).line.enabled = true ∧ (recallRun 0).line.fault = false ∧ (recallRun 0).recallRunning = true) := by decide

/-- The line interface was enabled some microseconds ago; P is 4 µs, so the receiver hunts from 8 µs after the enable on. -/
def enabledFor (us : Nat) : State :=
  atLine (fun l => { l with recessive8 := false, rx := .waiting (run.time.now + 8 - BitVec.ofNat 32 us) })
theorem test_hyp_LineErrorsAndRecovery_waiting :
    (∀ us ∈ [0, 7, 8, 335, 336], (enabledFor us).receiving = true)
    ∧ ((enabledFor 335).hears ⟨5, .probe 0⟩ = false ∧ (enabledFor 336).hears ⟨5, .probe 0⟩ = true)
    ∧ ((enabledFor 0).mayHear (arbitrationField 0 5) 148 = false ∧ fixedLength 0 = none)
    ∧ (enabledFor 0).mayHear ReceiveErrorCause.earlyEnd.start ReceiveErrorCause.earlyEnd.halves = false
    ∧ ((enabledFor 7).due (some ((enabledFor 7).time.now + 1)) = false ∧ (enabledFor 8).due (some (enabledFor 8).time.now) = true)
    ∧ run.line.rx = .hunting := by decide
theorem test_hyp_LineErrorsAndRecovery_brings : Brings ⟨5, .beat 0 0⟩ (.beatReceived 5 0 0)
    ∧ Brings ⟨5, .beat 0 0⟩ (.malformedFrame ⟨5, .beat 0 0⟩) ∧ Brings ⟨5, .probe 0⟩ (.probeOfArmEnd 5) := ⟨rfl, rfl, rfl⟩

/-- A frame at the head of the list, the line IDLE. -/
def waiting (body : TxBody) : State := atLine (fun l => { l with txList := [frameT 3 body .none 0, frameT 2 .beat .none 0] })
/-- The part has lost arbitration at the fourth bit, with a 0 on the line: kind 6 at most can follow. -/
def lostAtFour : State := atLine (fun l => { l with rx := .assembling [false, true, true, false] })
theorem test_hyp_AttemptTakesHead_bodies :
    ∀ b ∈ [TxBody.beat, .object (dev 4) 11 .taken 0, .recall, .hold 0x123401000001, .probe 5], (waiting b).mayTransmit = true := by
  decide
theorem test_hyp_AttemptTakesHead_start : lostAtFour.hears ⟨dev 9, .announce 0 0 0⟩ = true
    ∧ lostAtFour.hears ⟨dev 9, .claim 5 0⟩ = false ∧ lostAtFour.hears ⟨5, .beat 0 0⟩ = false
    ∧ lostAtFour.mayHear (ReceiveErrorCause.length 4 5).start 113 = false
    ∧ lostAtFour.mayHear (ReceiveErrorCause.length 6 5).start 113 = true := by decide
theorem test_hyp_AttemptTakesHead :
    ((waiting (.probe 5)).mayTransmit = true ∧ (waiting .beat).mayTransmit = true)
    ∧ (TxBody.wire 0 20 .beat).bits[0]? = some true ∧ (TxBody.wire 0 20 (.probe 5)).bits[3]? = some true := by
  exact ⟨by decide, rfl, rfl⟩

theorem test_hyp_BitErrorCountsAttempt :
    (∀ i, (flying .beat .none 0).line.inFlight = some i → i.isBitError .endMark = true)
    ∧ (flying .beat .none 0).line.inFlight.isSome = true
    ∧ ((flying .beat .none 2).line.frame 3 = some (frameT 3 .beat .none 2) ∧ (frameT 3 .beat .none 2).attempts + 1 < 4)
    ∧ ((flying .beat .none 3).line.frame 3 = some (frameT 3 .beat .none 3) ∧ 4 ≤ (frameT 3 .beat .none 3).attempts + 1)
    ∧ (flying .beat .none 0).line.frame 9 = none
    ∧ ((pingQueued 3).pingRunning = true ∧ (pingQueued 3).line.frame 3 = some (frameT 3 (.probe 5) (.pingProbe 5) 3))
    ∧ ((recallRun 3).recallRunning = true ∧ (recallRun 3).line.frame 3 = some (frameT 3 .recall .none 3))
    ∧ (atLine (fun l => { l with errors := 88 }) (recallRun 0)).line.errors + 8 = 96 := by
  refine ⟨?_, by decide, by decide, by decide, by decide, by decide, by decide, by decide⟩
  intro i h
  have : i = ⟨3, TxBody.wire 0 20 .beat⟩ := (Option.some.inj h).symm
  subst this; decide
/-- The PROBE of an asked name, and an OBJECT with its ticket, each at its fourth attempt. -/
def adoptionLast : State := flying (.probe 20) (.adoptionProbe 20) 3
def objectLast : State := flying (.object (dev 2) 5 .taken 1) (.claimObjection (dev 2) 1001500) 3
theorem test_hyp_BitErrorCountsAttempt_reports :
    adoptionLast.line.frame 3 = some (frameT 3 (.probe 20) (.adoptionProbe 20) 3)
    ∧ objectLast.line.frame 3 = some (frameT 3 (.object (dev 2) 5 .taken 1) (.claimObjection (dev 2) 1001500) 3)
    ∧ adoptionLast.line.inFlight.map (·.tag) = some 3 ∧ objectLast.line.inFlight.map (·.tag) = some 3 := by decide
theorem test_hyp_BitErrorCountsAttempt_arrival : ∀ s ∈ [flying .beat .none 0, flying .beat .none 2, flying .beat .none 3,
    pingQueued 3, recallRun 0, recallRun 3, adoptionLast, objectLast], TxArrivalOk s := by
  unfold TxArrivalOk; decide

theorem test_hyp_FrameSentIsReported :
    ∀ f ∈ [frameT 3 .beat .none 0, frameT 3 (.object (dev 4) 11 .taken 0) (.claimObjection (dev 4) 1002000) 0,
           frameT 3 (.probe 20) (.adoptionProbe 20) 0, frameT 3 (.hold 0x123401000001) .none 0, frameT 3 (.probe 5) (.pingProbe 5) 0],
      (flying f.body f.ref 0 pingRun).line.frame 3 = some f ∧ f.isRecall = false ∧ f.refFits = true
      ∧ (flying f.body f.ref 0 pingRun).line.inFlight.map (·.tag) = some 3
      ∧ (flying f.body f.ref 0 pingRun).quietCondition = false
      ∧ (flying f.body f.ref 0 pingRun).census.state = .gathering := by decide

/-- A BEAT that was withdrawn while in flight: no frame of the list has its number. -/
theorem test_hyp_FrameSentIsReported_withdrawn :
    (∀ s ∈ [atLine (fun l => { l with txList := [] }) (flying .beat .none 0)],
      s.line.inFlight.map (·.tag) = some 3 ∧ s.line.frame 3 = none ∧ CensusAgrees s) := by unfold CensusAgrees; decide

theorem test_hyp_RecallReachesEveryOwner :
    ((atLine (fun l => { l with txList := fullList })).hears ⟨1, .recall 1⟩ = true ∧ senderKeyOk 1 = true ∧ senderKeyOk 62 = true
      ∧ run.census.state.lineActive = true ∧ fullList.length ≤ 12 ∧ (fullList.filter TxFrame.isBeat).length ≤ 1)
    ∧ ((recallRun 0).recallRunning = true ∧ (recallRun 0).line.txList.any TxFrame.isRecall = true
      ∧ (atLine (fun l => { l with inFlight := none }) (recallRun 0)).hears ⟨1, .recall 1⟩ = true)
    ∧ ((pingQueued 0).pingRunning = true ∧ (pingQueued 0).line.txList.any TxFrame.isPingProbe = true
      ∧ (atLine (fun l => { l with inFlight := none }) (pingQueued 0)).hears ⟨62, .recall 1⟩ = true)
    ∧ ((recallRun 0).line.frame 3 = some (frameT 3 .recall .none 0) ∧ (recallRun 0).line.inFlight.map (·.tag) = some 3) := by
  decide
theorem test_hyp_RecallReachesEveryOwner_list : TxListOk (recallRun 0) := by unfold TxListOk; decide

theorem test_hyp_ForeignFramesAreCounted : run.mayHear (arbitrationField 0 5) 148 = true
    ∧ run.mayHear (arbitrationField 15 5) 292 = true ∧ run.hears ⟨0, .beat 0 0⟩ = true ∧ fixedLength 0 = none ∧ fixedLength 15 = none
    ∧ formOk run.ownIdentity ⟨0, .beat 0 0⟩ = false ∧ formOk run.ownIdentity ⟨5, .hold 0x123401000001⟩ = false := by decide

theorem test_hyp_AnnounceOfStranger :
    (run.hears ⟨dev 9, .announce 0 1 0⟩ = true ∧ run.census.state.lineActive = true ∧ formOk run.ownIdentity ⟨dev 9, .announce 0 1 0⟩ = true
      ∧ formOk run.ownIdentity ⟨dev 9, .announce 62 1 62⟩ = true ∧ run.entryOf (dev 9) = none)
    ∧ (pathOk (dev 9) 0 run = true ∧ pathOk (dev 9) 7 run = true ∧ run.freeSlot = some 6)
    ∧ (pathOk (dev 9) 0 (fullRoster) = true ∧ (fullRoster).freeSlot = none ∧ (fullRoster).entryOf (dev 9) = none)
    ∧ pathOk (dev 9) 62 run = false := by decide

/-- A second bridge, NAMED 15 behind the first. -/
def bridge2 : Identity := 0x0A3C7E000002
def nested : State := { run with roster := { run.roster with entries := run.roster.entries ++ [entry 6 bridge2 .named (some 15) 7] } }
/-- The refused paths of R76, in its order: no holder, a LOST one, one of another class, the announcer, one behind it. -/
theorem test_hyp_AnnounceOfStranger_refused :
    (∀ p ∈ [(dev 1, 62), (dev 1, 13), (dev 2, 5), (bridge, 7), (bridge, 15)], pathOk p.1 p.2 nested = false
      ∧ (nested.entryOf p.1).isSome = true ∧ nested.hears ⟨p.1, .announce (BitVec.ofNat 8 p.2) 0 0⟩ = true
      ∧ formOk nested.ownIdentity ⟨p.1, .announce (BitVec.ofNat 8 p.2) 0 0⟩ = true)
    ∧ pathOk bridge2 7 nested = true := by decide
theorem test_hyp_AnnounceOfStranger_roster : RosterOk nested := by unfold RosterOk; decide

theorem test_hyp_AnnounceOfKnown :
    ∀ p ∈ [(2, EntryState.heard), (4, .claiming), (1, .named), (3, .silent), (5, .lost)],
      (run.entryOf (dev p.1)).map (·.state) = some p.2 ∧ isBridge (dev p.1) = false ∧ pathOk (dev p.1) 0 run = true
      ∧ formOk run.ownIdentity ⟨dev p.1, .announce 0 1 62⟩ = true := by decide

/-- The bridge LOST, and dev 3 LOST behind it. -/
def stageLost : State :=
  { run with
    roster := { run.roster with entries :=
      [entry 1 (dev 2) .heard none 0, entry 2 bridge .lost (some 7) 0, entry 3 (dev 3) .lost (some 9) 7] }
    naming := { run.naming with claims := [] } }
theorem test_hyp_FrameOfHolderRefreshes :
    (∀ p ∈ [(5, EntryState.named), (9, .silent), (13, .lost)], (run.holder p.1).map (·.state) = some p.2
      ∧ senderKeyOk (BitVec.ofNat 48 p.1) = true ∧ run.census.state ≠ .powering)
    ∧ (stageLost.hears ⟨9, .beat 0 0⟩ = true ∧ run.hears ⟨5, .probe 62⟩ = true ∧ (stageLost.holder 9).map (·.state) = some .lost
      ∧ (stageLost.holder 9).map stageLost.behindLost = some true)
    ∧ (run.holder 13).map run.behindLost = some false := by decide
theorem test_hyp_FrameOfHolderRefreshes_agrees : RosterOk stageLost ∧ CensusAgrees stageLost := by
  unfold RosterOk CensusAgrees; decide

/-- Name 22 is asked about and its PROBE was dropped, with this list. -/
def unsentRun (list : List TxFrame) : State :=
  { (atLine (fun l => { l with txList := list })) with
    roster := { run.roster with asked := [{ name := 22, probe := .unsent, window := none, tag := none }] } }
theorem test_hyp_StrangerIsAsked_again :
    (∀ l ∈ [[], fullList], (unsentRun l).hears ⟨22, .call 1⟩ = true ∧ (unsentRun l).holder 22 = none
      ∧ (unsentRun l).roster.asked.map (fun a => (a.name, a.probe)) = [(22, .unsent)])
    ∧ senderKeyOk 22 = true ∧ fullList.length = 12 := by decide
theorem test_hyp_StrangerIsAsked_asked : AskedOk (unsentRun []) ∧ AskedOk (unsentRun fullList)
    ∧ AskedOk (atLine (fun l => { l with txList := fullList })) := by unfold AskedOk; decide
theorem test_hyp_StrangerIsAsked :
    (run.hears ⟨20, .beat 0 0⟩ = true ∧ run.hears ⟨20, .probe 1⟩ = true ∧ run.hears ⟨20, .call 0⟩ = true ∧ senderKeyOk 20 = true ∧ run.holder 20 = none
      ∧ run.roster.asked.any (fun a => a.name == 20 && a.probe != .unsent) = true)
    ∧ (senderKeyOk 21 = true ∧ run.holder 21 = none ∧ run.roster.asked.all (fun a => a.name != 21) = true
      ∧ run.line.txList.length < 12)
    ∧ ((atLine (fun l => { l with txList := fullList })).line.txList.length = 12
      ∧ (atLine (fun l => { l with txList := fullList })).hears ⟨21, .beat 0 0⟩ = true
      ∧ (atLine (fun l => { l with txList := fullList })).holder 21 = none) := by decide

theorem test_hyp_ArmEndAnswersProbe :
    (run.hears ⟨5, .probe 0⟩ = true ∧ senderKeyOk 5 = true ∧ run.order.setup = some cfgT
      ∧ (run.holder 5).map (·.state) = some .named ∧ run.line.txList.any TxFrame.isHold = false)
    ∧ (waiting (.hold 0x123401000001)).line.txList.any TxFrame.isHold = true
    ∧ (waiting (.hold 0x123401000001)).hears ⟨5, .probe 0⟩ = true
    ∧ ((unsentRun fullList).line.txList.any TxFrame.isHold = false ∧ 12 ≤ (unsentRun fullList).line.txList.length
      ∧ (unsentRun fullList).hears ⟨5, .probe 0⟩ = true ∧ ((unsentRun fullList).holder 5).map (·.state) = some .named) := by
  decide
/-- A SILENT, a LOST and an unknown sender, and one LOST behind a LOST bridge. -/
theorem test_hyp_ArmEndAnswersProbe_any :
    (∀ n ∈ [9, 13, 62], run.hears ⟨BitVec.ofNat 48 n, .probe 0⟩ = true ∧ senderKeyOk (BitVec.ofNat 48 n) = true)
    ∧ ((run.holder 9).map (·.state) = some .silent ∧ (run.holder 13).map (·.state) = some .lost ∧ run.holder 62 = none)
    ∧ ((stageLost.holder 9).map (fun e => (e.state, stageLost.behindLost e)) = some (.lost, true)
      ∧ stageLost.hears ⟨9, .probe 0⟩ = true ∧ stageLost.order.setup = some cfgT) := by decide
theorem test_hyp_ArmEndAnswersProbe_asked : AskedOk stageLost ∧ RosterOk stageLost := by unfold AskedOk RosterOk; decide

theorem test_hyp_ReleaseAndItsStage :
    ((run.holder 5).map (·.identity) = some (dev 1) ∧ isBridge (dev 1) = false
      ∧ formOk run.ownIdentity ⟨5, .release (dev 1)⟩ = true)
    ∧ ((run.holder 5).map (·.identity) ≠ some (dev 2) ∧ run.holder 62 = none
      ∧ formOk run.ownIdentity ⟨62, .release (dev 2)⟩ = true)
    ∧ ((run.holder 7).map (·.identity) = some bridge ∧ isBridge bridge = true
      ∧ formOk run.ownIdentity ⟨7, .release bridge⟩ = true ∧ run.stage bridge = [entry 3 (dev 3) .silent (some 9) 7]) := by
  decide
theorem test_hyp_ReleaseAndItsStage_forget : StagesOk stageLost ∧ RosterOk stageLost ∧ ClaimsInStep stageLost
    ∧ (atOrder 0x14 7 .idle stageLost).order.state = .idle ∧ (atOrder 0x14 7 .idle stageLost).order.phase = .run
    ∧ (stageLost.holder 7).map (·.state) = some .lost ∧ (stageLost.stage bridge).length = 1 := by
  unfold StagesOk RosterOk ClaimsInStep; decide
theorem test_hyp_ReleaseAndItsStage_leaving :
    (formOk run.ownIdentity ⟨bridge, .announce 0 1 0⟩ = true ∧ pathOk bridge 0 run = true
      ∧ formOk stageLost.ownIdentity ⟨bridge, .announce 0 1 0⟩ = true ∧ pathOk bridge 0 stageLost = true
      ∧ (run.entryOf bridge).map (·.heldName) = some (some 7) ∧ (stageLost.entryOf bridge).map (·.heldName) = some (some 7))
    ∧ (formOk run.ownIdentity ⟨20, .hold bridge⟩ = true ∧ run.pingRunning = false ∧ run.line.txList.length < 12
      ∧ (run.entryOf bridge).map (·.objections) = some 0)
    ∧ (formOk run.ownIdentity ⟨5, .object bridge 7 7 0⟩ = true ∧ (run.holder 5).map (·.state) = some .named
      ∧ (run.holder 5).map (·.identity) ≠ some bridge) := by decide

theorem test_hyp_ReleaseAndItsStage_claim :
    (run.census.state.lineActive = true ∧ formOk run.ownIdentity ⟨bridge, .claim 7 0⟩ = true
      ∧ (run.entryOf bridge).map (fun e => (e.state, e.heldName)) = some (.named, some 7))
    ∧ ((run.entryOf (dev 3)).map (fun e => (e.state, e.heldName)) = some (.silent, some 9))
    ∧ ((run.entryOf (dev 5)).map (fun e => (e.state, e.heldName, run.behindLost e)) = some (.lost, some 13, false))
    ∧ ((stageLost.entryOf bridge).map (fun e => (e.state, stageLost.behindLost e)) = some (.lost, false)) := by decide

theorem test_hyp_ClaimIsJudged :
    ((run.entryOf (dev 2)).map (·.state) = some .heard ∧ run.hears ⟨dev 2, .claim 62 0⟩ = true)
    ∧ (formOk run.ownIdentity ⟨dev 2, .claim 62 0⟩ = true ∧ claimTest (dev 2) 62 run = none)
    ∧ (formOk run.ownIdentity ⟨dev 2, .claim 0 0⟩ = true ∧ claimTest (dev 2) 0 run = some (.range, 1))
    ∧ (claimTest (dev 2) 5 run = some (.taken, 1) ∧ run.line.txList.length < 12) := by decide

theorem test_hyp_ClaimIsJudged_again :
    ((run.entryOf (dev 4)).map (·.state) = some .claiming ∧ formOk run.ownIdentity ⟨dev 4, .claim 11 1⟩ = true
      ∧ run.hears ⟨dev 4, .claim 11 1⟩ = true ∧ run.census.state.lineActive = true)
    ∧ ((stageLost.entryOf (dev 3)).map (fun e => (e.state, stageLost.behindLost e)) = some (.lost, true)
      ∧ formOk stageLost.ownIdentity ⟨dev 3, .claim 9 0⟩ = true ∧ stageLost.hears ⟨dev 3, .claim 9 0⟩ = true) := by decide

theorem test_hyp_ClaimTestsInOrder : claimTest (dev 2) 0 run = some (.range, 1) ∧ claimTest (dev 2) 62 run = none := by decide

theorem test_hyp_ClaimOfStrangerJoins :
    (run.entryOf (dev 9) = none ∧ run.freeSlot = some 6 ∧ formOk run.ownIdentity ⟨dev 9, .claim 0 0⟩ = true)
    ∧ ((fullRoster).entryOf (dev 9) = none ∧ (fullRoster).freeSlot = none
      ∧ (fullRoster).hears ⟨dev 9, .claim 1 0⟩ = true
      ∧ formOk run.ownIdentity ⟨dev 9, .claim 1 0⟩ = true ∧ formOk run.ownIdentity ⟨dev 9, .claim 62 0⟩ = true) := by decide

theorem test_hyp_ObjectDropsClaim :
    run.hears ⟨5, .object (dev 4) 11 7 62⟩ = true ∧ formOk run.ownIdentity ⟨5, .object (dev 4) 11 7 62⟩ = true
    ∧ (run.holder 5).map (·.state) = some .named ∧ (run.holder 9).map (·.state) = some .silent
    ∧ (run.holder 13).map (fun o => (o.state, run.behindLost o)) = some (.lost, false) ∧ (run.claimOf (dev 4)).isSome = true
    ∧ (run.entryOf (dev 4)).isSome = true := by decide

/-- The objector holds a name, is unknown, or is LOST behind a LOST bridge; the identity has a claim, an entry without one, or
no entry; and at reason CONFLICT the holder of the disputed name is another. -/
theorem test_hyp_ObjectDropsClaim_any :
    (∀ n ∈ [5, 13, 62], ∀ k ∈ [2, 4, 9], run.hears ⟨BitVec.ofNat 48 n, .object (dev k) 9 7 0⟩ = true
      ∧ formOk run.ownIdentity ⟨BitVec.ofNat 48 n, .object (dev k) 9 7 0⟩ = true)
    ∧ run.holder 62 = none ∧ run.census.state.lineActive = true
    ∧ (run.holder 9).map (·.identity) = some (dev 3)
    ∧ ((run.claimOf (dev 4)).isSome = true ∧ run.claimOf (dev 2) = none ∧ run.entryOf (dev 9) = none)
    ∧ (stageLost.holder 9).map (fun o => (o.state, stageLost.behindLost o)) = some (.lost, true) := by decide

theorem test_hyp_HoldIsAccepted : run.hears ⟨11, .hold (dev 4)⟩ = true ∧ run.pingRunning = false
    ∧ formOk run.ownIdentity ⟨11, .hold (dev 4)⟩ = true ∧ run.acceptable (dev 4) 11 = true := by decide

theorem test_hyp_HoldIsAccepted_held :
    (∀ p ∈ [(1, 5, EntryState.named), (3, 9, .silent), (5, 13, .lost)],
      (run.entryOf (dev p.1)).map (fun e => (e.heldName, e.state, run.behindLost e)) = some (some p.2.1, p.2.2, false)
      ∧ formOk run.ownIdentity ⟨BitVec.ofNat 48 p.2.1, .hold (dev p.1)⟩ = true)
    ∧ ((stageLost.entryOf (dev 3)).map (fun e => (e.state, stageLost.behindLost e)) = some (.lost, true)
      ∧ formOk stageLost.ownIdentity ⟨9, .hold (dev 3)⟩ = true ∧ stageLost.pingRunning = false) := by decide

theorem test_hyp_HoldIsAdopted :
    (formOk run.ownIdentity ⟨62, .hold (dev 2)⟩ = true ∧ run.freeFor (dev 2) 62 = true
      ∧ (run.entryOf (dev 2)).map (·.state) = some .heard)
    ∧ (formOk run.ownIdentity ⟨62, .hold (dev 4)⟩ = true ∧ run.freeFor (dev 4) 62 = true
      ∧ (run.entryOf (dev 4)).map (·.state) = some .claiming ∧ run.acceptable (dev 4) 62 = false)
    ∧ (formOk run.ownIdentity ⟨1, .hold (dev 9)⟩ = true ∧ run.freeFor (dev 9) 1 = true ∧ run.entryOf (dev 9) = none
      ∧ run.freeSlot = some 6)
    ∧ ((fullRoster).freeFor (dev 9) 62 = true ∧ (fullRoster).entryOf (dev 9) = none ∧ (fullRoster).freeSlot = none
      ∧ (fullRoster).line.txList.length < 12 ∧ (fullRoster).pingRunning = false
      ∧ formOk (fullRoster).ownIdentity ⟨62, .hold (dev 9)⟩ = true) := by decide
theorem test_fullRoster_ok : RosterOk fullRoster := by unfold RosterOk; decide

theorem test_hyp_HoldConflicts : formOk run.ownIdentity ⟨5, .hold (dev 2)⟩ = true
    ∧ (run.entryOf (dev 2)).map (fun e => (e.state, decide (e.objections < 7))) = some (.heard, true)
    ∧ (run.holder 5).isSome = true ∧ run.line.txList.length < 12 ∧ run.pingRunning = false := by decide

/-- A conflict over a held, a claimed and a reserved name, from a HEARD entry, a CLAIMING one and an identity without one. -/
theorem test_hyp_HoldConflicts_cases :
    (∀ n ∈ [5, 11, 30], run.freeFor (dev 2) n = false ∧ formOk run.ownIdentity ⟨BitVec.ofNat 48 n, .hold (dev 2)⟩ = true)
    ∧ (∀ n ∈ [5, 30], run.freeFor (dev 4) n = false ∧ run.acceptable (dev 4) n = false
      ∧ (run.entryOf (dev 4)).map (·.state) = some .claiming ∧ run.census.state.lineActive = true)
    ∧ (∀ n ∈ [5, 11, 30], run.freeFor (dev 8) n = false ∧ run.entryOf (dev 8) = none
      ∧ formOk run.ownIdentity ⟨BitVec.ofNat 48 n, .hold (dev 8)⟩ = true) := by decide

theorem test_hyp_HoldEndsPing : pingRun.hears ⟨5, .hold (dev 1)⟩ = true ∧ pingRun.pingRunning = true ∧ pingRun.order.pingWindow.isSome = true
    ∧ pingRun.order.operand.toNat = (5 : Key).toNat ∧ pingRun.order.pingIdentity = some (dev 1)
    ∧ formOk pingRun.ownIdentity ⟨5, .hold (dev 1)⟩ = true ∧ formOk pingRun.ownIdentity ⟨5, .hold (dev 2)⟩ = true
    ∧ (pingRun.holder 5).isSome = true
    ∧ ((pingOf 62).holder 62 = none ∧ (pingOf 62).hears ⟨62, .hold (dev 1)⟩ = true ∧ (pingOf 62).pingRunning = true
      ∧ formOk (pingOf 62).ownIdentity ⟨62, .hold (dev 1)⟩ = true)
    ∧ ((pingQueued 0).pingRunning = true ∧ (pingQueued 0).order.pingWindow = none
      ∧ (atLine (fun l => { l with inFlight := none }) (pingQueued 0)).hears ⟨5, .hold (dev 1)⟩ = true
      ∧ (pingOf 62).hears ⟨5, .hold (dev 1)⟩ = true) := by decide

/-- A HOLD that the PING of its name awaits, in each case of the judgement: accepted, a refresh, foreign, adopted by an entry,
without one and on a full roster, a conflict, and the demotion of a holder of another name. -/
theorem test_hyp_HoldWhilePingRuns :
    (∀ p ∈ [(11, 4), (5, 1), (62, 2), (62, 4), (1, 9), (5, 2), (30, 4), (5, 8), (20, 1)],
      (pingOf (BitVec.ofNat 8 p.1)).pingRunning = true ∧ (pingOf (BitVec.ofNat 8 p.1)).order.operand.toNat = p.1
      ∧ (pingOf (BitVec.ofNat 8 p.1)).hears ⟨BitVec.ofNat 48 p.1, .hold (dev p.2)⟩ = true
      ∧ formOk (pingOf (BitVec.ofNat 8 p.1)).ownIdentity ⟨BitVec.ofNat 48 p.1, .hold (dev p.2)⟩ = true)
    ∧ (pingOf 11).acceptable (dev 4) 11 = true
    ∧ ((pingOf 5).entryOf (dev 1)).map (·.heldName) = some (some 5)
    ∧ ((pingOf 62).freeFor (dev 2) 62 = true ∧ (pingOf 62).freeFor (dev 4) 62 = true ∧ (pingOf 1).freeFor (dev 9) 1 = true)
    ∧ ((pingOf 62 fullRoster).freeFor (dev 9) 62 = true ∧ (pingOf 62 fullRoster).freeSlot = none
      ∧ (pingOf 62 fullRoster).pingRunning = true)
    ∧ ((pingOf 5).freeFor (dev 2) 5 = false ∧ (pingOf 30).freeFor (dev 4) 30 = false ∧ (pingOf 5).freeFor (dev 8) 5 = false)
    ∧ ((pingOf 20).entryOf (dev 1)).map (·.heldName) = some (some 5)
    ∧ ((pingOf 9 stageLost).entryOf (dev 3)).map (fun e => (e.state, (pingOf 9 stageLost).behindLost e)) = some (.lost, true)
    ∧ (pingOf 9 stageLost).pingRunning = true := by decide
theorem test_hyp_HoldWhilePingRuns_ok : RosterOk (pingOf 5) ∧ StagesOk (pingOf 20) ∧ ClaimsInStep (pingOf 20) := by
  unfold RosterOk StagesOk ClaimsInStep; decide

theorem test_hyp_CallJoinsRequests :
    ((run.holder 5).map (·.state) = some .named ∧ run.service.requests.any (fun r => r.name == 5) = true)
    ∧ ((run.holder 9).map (·.state) = some .silent ∧ senderKeyOk 9 = true)
    ∧ ((run.holder 7).map (·.state) = some .named ∧ run.service.requests.any (fun r => r.name == 7) = false)
    ∧ ((run.holder 13).map (fun e => (e.state, run.behindLost e)) = some (.lost, false) ∧ run.holder 62 = none
      ∧ (∀ n ∈ [5, 9, 13, 62], run.hears ⟨BitVec.ofNat 48 n, .call 3⟩ = true ∧ senderKeyOk (BitVec.ofNat 48 n) = true))
    ∧ ((stageLost.holder 9).map (fun e => (e.state, stageLost.behindLost e)) = some (.lost, true)
      ∧ stageLost.hears ⟨9, .call 3⟩ = true) := by decide

/-- The bridge SILENT, its loss deadline past. -/
def bridgeSilent : State :=
  { runLate with
    roster := { run.roster with entries := [entry 2 bridge .silent (some 7) 0, entry 3 (dev 3) .named (some 9) 7] }
    naming := { run.naming with claims := [] } }
theorem test_hyp_EntryDeadlinesMoveEntries :
    (∀ e, runLate.entryAt 1 = some e → runLate.toolDue e.claimDl = true) ∧ (runLate.entryAt 1).isSome = true
    ∧ (runLate.entryAt 0).map (fun e => (e.name, runLate.toolDue e.silenceDl)) = some (some 5, true)
    ∧ (runLate.entryAt 3).map (fun e => (e.name, runLate.toolDue e.lossDl, isBridge e.identity)) = some (some 9, true, false)
    ∧ (bridgeSilent.entryAt 2).map (fun e => (e.name, bridgeSilent.toolDue e.lossDl, isBridge e.identity))
        = some (some 7, true, true) := by
  refine ⟨?_, by decide, by decide, by decide, by decide⟩
  intro e h
  have : e = entry 1 (dev 2) .heard none 0 := (Option.some.inj h).symm
  subst this; decide
theorem test_hyp_EntryDeadlinesMoveEntries_roster : RosterOk runLate ∧ RosterOk bridgeSilent := by unfold RosterOk; decide

theorem test_hyp_EntryDeadlinesMoveEntries_stage : StagesOk bridgeSilent ∧ ClaimsInStep bridgeSilent := by
  unfold StagesOk ClaimsInStep; decide
/-- A claim of dev 4 whose window ends at this moment. -/
def claimT : PendingClaim :=
  { claimant := dev 4, name := 11, windowEnd := 1000000, windowEnded := false, hold := 1002000, objectSent := false }
def claimRun : State := { run with naming := { run.naming with claims := [claimT] } }
theorem test_hyp_WindowDeadlinesEndTheirWatch :
    (claimRun.claimOf (dev 4) = some claimT ∧ claimT.windowEnded = false ∧ claimRun.toolDue (some claimT.windowEnd) = true)
    ∧ ((runLate.claimOf (dev 4)).map (fun c => runLate.toolDue (some c.hold)) = some true)
    ∧ ((runLate.roster.asked.find? (fun b => b.name == 20)).map (fun a => runLate.toolDue a.window) = some true)
    ∧ ((later 10000 pingRun).pingRunning = true ∧ (later 10000 pingRun).toolDue (later 10000 pingRun).order.pingWindow = true)
    ∧ ((runLate.naming.tickets.find? (fun b => b.tag == 2)).map (fun k => runLate.toolDue (some k.deadline)) = some true) := by
  decide

/-- The census in a state with these deadlines at this moment. -/
def censusDue (c : CensusState) : State :=
  { run with census := { run.census with state := c, firstFrame := some 1000000, quiet := some 1000000, deadline := some 1000000 } }
theorem test_hyp_CensusDeadlines :
    ((censusDue .powering).toolDue (censusDue .powering).census.firstFrame = true ∧ (censusDue .powering).census.state = .powering)
    ∧ ((censusDue .quiet).toolDue (censusDue .quiet).census.quiet = true ∧ (censusDue .quiet).census.state = .quiet)
    ∧ ((censusDue .gathering).toolDue (censusDue .gathering).census.deadline = true
      ∧ (censusDue .gathering).census.state = .gathering)
    ∧ (censusDue .quiet).toolDue (censusDue .quiet).census.deadline = true := by decide

/-- Twelve frames in the list, the BEAT last. -/
def full : State := atLine (fun l => { l with txList := fullList, nextTag := 40 })
/-- The same list, its BEAT in flight. -/
def fullFlying : State := atLine (fun l => { l with inFlight := some ⟨30, TxBody.wire 0 20 .beat⟩ }) full
/-- Twelve frames in the list, no BEAT among them. -/
def fullProbes : State :=
  atLine (fun l => { l with txList := frameT 9 (.probe 3) (.adoptionProbe 3) 0 :: fullList.take 11, nextTag := 40 })
theorem test_hyp_OffersAndTheBeatComparator_list : TxListOk full ∧ TxListOk fullFlying ∧ TxListOk fullProbes := by unfold TxListOk; decide
theorem test_hyp_OffersAndTheBeatComparator :
    (full.line.txList.any TxFrame.isBeat = true ∧ full.line.txList.length = 12)
    ∧ (∃ g ∈ full.line.txList, g.isBeat = true ∧ full.line.flies g = false)
    ∧ (∀ g ∈ fullFlying.line.txList, g.isBeat = true → fullFlying.line.flies g = true)
    ∧ (run.line.txList.any TxFrame.isBeat = false ∧ run.line.txList.length < 12)
    ∧ ((later 90000).time.beat = some 1090000 ∧ (later 90000).toolDue (some 1090000) = true)
    ∧ fullProbes.line.txList.any TxFrame.isBeat = false := by decide

/-- A hold disputed on a full list, with a BEAT to displace and without one: by a CONFLICT over name 5 from
dev 2, dev 4, dev 8 and the holder of 7, and by a FULL on a full roster. -/
theorem test_hyp_HoldDisputed_full :
    (∀ s ∈ [full, fullProbes], s.hears ⟨5, .hold (dev 2)⟩ = true ∧ 12 ≤ s.line.txList.length
      ∧ s.freeFor (dev 2) 5 = false ∧ s.freeFor (dev 4) 5 = false ∧ s.freeFor (dev 8) 5 = false
      ∧ (s.entryOf bridge).map (·.heldName) = some (some 7))
    ∧ (∀ s ∈ [fullRoster full, fullRoster fullProbes], s.hears ⟨62, .hold (dev 9)⟩ = true ∧ s.freeSlot = none
      ∧ s.freeFor (dev 9) 62 = true)
    ∧ (∃ g ∈ full.line.txList, g.isBeat = true ∧ full.line.flies g = false
      ∧ ∀ h ∈ full.line.txList, h.isBeat = true → h = g)
    ∧ (∀ g ∈ fullProbes.line.txList, g.isBeat = true → fullProbes.line.flies g = true) := by decide
theorem test_hyp_HoldDisputed_ok (l : Line) : RosterOk (atLine (fun _ => l)) ∧ StagesOk (atLine (fun _ => l))
    ∧ ClaimsInStep (atLine (fun _ => l)) ∧ RosterOk (fullRoster (atLine (fun _ => l))) :=
  ⟨test_run_rosterOk, test_run_stages, test_run_claims, test_fullRoster_ok⟩

/-- The bridge holding 7 with seven objections, its storm mark clear. -/
def stormBridge : State :=
  { run with roster := { run.roster with
      entries := run.roster.entries.map (fun e => if e.identity = bridge then { e with objections := 7 } else e) } }
theorem test_hyp_ReleaseAndItsStage_storm :
    (stormBridge.entryOf bridge).map (fun e => (e.heldName, e.objections, e.storm)) = some (some 7, 7, false)
    ∧ stormBridge.hears ⟨20, .hold bridge⟩ = true ∧ (stormBridge.stage bridge).length = 1 := by decide
theorem test_hyp_ReleaseAndItsStage_storm_ok : RosterOk stormBridge ∧ StagesOk stormBridge ∧ ClaimsInStep stormBridge := by
  unfold RosterOk StagesOk ClaimsInStep; decide

theorem test_hyp_RecordEntersOrIsCounted : run.changes.queue.length < 32
    ∧ 32 ≤ (List.replicate 32 (⟨.named, 5, none, 0, 0, 0⟩ : ChangeRecord)).length ∧ run.changes.drops ≤ 255 := by decide

theorem test_hyp_ReadsAndSnapshot :
    (48 ≤ (48 : Byte).toNat ∧ (47 : Byte).toNat < 48 ∧ run.snapshot.latched = false)
    ∧ commandCodes.contains 0xFF = false ∧ (atOrder 0x12 0 .running).order.state ≠ .idle ∧ (atOrder 0x12 0 .done).order.state ≠ .idle
    ∧ (portEvent run [0x21, 3] false = none ∧ portEvent run [0x21, 3] true = some (.readSnapshot 3)
      ∧ portEvent run [0x32, 0, 9] false = some .done0 ∧ portEvent run [0x10, 0x13, 5, 0, 1] true = none
      ∧ portEvent run [0x10, 0x13, 5, 0, 1, 8] false = some (.writeOrder 0x13 5 0 1 [8])
      ∧ portEvent (atOrder 0x13 5 .idle) [0x11] false = some .ping ∧ portEvent (atOrder 0x13 5 .done) [0x11] false = some .startOrderBusy
      ∧ portEvent run [0x77, 1, 2] false = some (.unknownCommand 0x77) ∧ portEvent run [] true = none)
    ∧ ({ latched := true, copy := { run.snapshot.copy with entries := run.roster.entries } : Snapshot }.copy.entries.find?
        (fun g => g.slot == 5)).isSome = true := by decide

theorem test_hyp_ChangesAndNoticesAreRead :
    run.changes.queue = [⟨.named, 5, some (dev 1), 700000, 0, 0⟩] ∧ State.reset.changes.queue = [] := by decide

theorem test_hyp_OrderRecordWrittenAndRetired :
    (min (255 : Byte).toNat 40 ≤ (List.replicate 40 (0 : Byte)).length ∧ min (0 : Byte).toNat 40 ≤ ([] : List Byte).length
      ∧ min (1 : Byte).toNat 40 ≤ ([7, 8, 9] : List Byte).length ∧ ([7] : List Byte).length < min (2 : Byte).toNat 40)
    ∧ (run.order.state = .idle ∧ run.order.data.length = 40)
    ∧ (atOrder 0x12 0 .running).order.state ≠ .idle ∧ (atOrder 0x10 0 .done).order.state = .done := by decide

/-- The setup record of `cfgT` but for its last two bytes, and a batch of four plan entries. -/
def setupBytes : List Byte :=
  [1, 0x12, 0x34, 1, 0, 0, 1, 0, 100, 0, 100, 3, 0x07, 0xD0, 0x01, 0xF4, 0, 200, 0, 30, 0x07, 0xD0, 20, 20, 0, 50, 0x03, 0xE8]
def planBytes : List Byte :=
  [4, 0x0A, 0x3C, 0x31, 0, 0, 1, 0, 1] ++ [0x0A, 0x3C, 0x31, 0, 0, 2, 0, 62] ++ [0x0A, 0x3C, 0x31, 0, 0, 0, 1, 5]
    ++ [0x0A, 0x3C, 0x31, 0, 0, 0, 1, 6]
/-- The SETUP phase with this opcode and data area. -/
def setupPhase (opcode : Byte) (data : List Byte) : State :=
  { State.reset with order := { Order.reset with opcode, data } }
theorem test_hyp_SetupOrdersEndAtOnce :
    (∀ op ∈ [(0x01 : Byte), 0x02, 0x03, 0x04], (setupPhase op []).order.state = .idle ∧ (setupPhase op []).order.phase = .setup
      ∧ (setupPhase op []).order.opcode = op)
    ∧ firstBadField (setupOf (setupBytes ++ [3, 0x3F])) = none
    ∧ firstBadField (setupOf (0x03 :: setupBytes.tail)) = some 1
    ∧ firstBadField (setupOf (setupBytes.take 26 ++ [0, 0, 0, 0])) = some 14
    ∧ (((List.range 4).map (fun k => planEntryAt planBytes (k + 1))).all planEntryOk = true
      ∧ planClash run.naming.plan ((List.range 4).map (fun k => planEntryAt planBytes (k + 1))) = false)
    ∧ ((planBytes.getD 0 0).toNat = 4 ∧ byteAt (0 :: planBytes.tail) 0 = 0 ∧ byteAt (5 :: planBytes.tail) 0 = 5)
    ∧ (((List.range 4).map (fun k => planEntryAt (planBytes.set 16 63) (k + 1))).map planEntryOk = [true, false, true, true])
    ∧ planClash run.naming.plan ((List.range 4).map (fun k => planEntryAt (planBytes.set 16 30) (k + 1))) = true
    ∧ (setupPhase 0x04 []).order.setup = none ∧ (atOrder 0x04 0 .idle (atSetup run)).order.setup = some cfgT
    ∧ (atOrder 0x04 0 .idle (atSetup run)).pins.mateA = true := by decide

theorem test_hyp_OrderChecksPhaseAndOpcode :
    (∀ op ∈ [(0x01 : Byte), 0x02, 0x03, 0x04], (atOrder op 0 .idle).order.phase = .run ∧ (atOrder op 0 .idle).order.state = .idle)
    ∧ (∀ op ∈ [(0x10 : Byte), 0x11, 0x12, 0x13, 0x14], (setupPhase op []).order.phase = .setup
      ∧ (setupPhase op []).order.state = .idle)
    ∧ (∀ op ∈ [(0x00 : Byte), 0x05, 0x0F, 0x15, 0xFF], (setupOpcodes ++ runOpcodes).contains op = false) := by decide
theorem test_hyp_OrderChecksPhaseAndOpcode_census : CensusAgrees (setupPhase 0x10 []) ∧ CensusAgrees (atOrder 0x01 0 .idle) := by
  unfold CensusAgrees; decide

/-- A parked tool, coupled. -/
def parked (supply : SupplyState) : State :=
  { run with roster := Roster.reset, naming := Naming.reset, census := { Census.reset with state := .parked },
             coupling := { run.coupling with supply } }
theorem test_hyp_ParkAndUnpark :
    ((atOrder 0x10 0 .idle).order.phase = .run ∧ run.coupling.state = .coupled ∧ run.census.state.lineActive = true)
    ∧ ((atCoupling .held false true).coupling.state = .held)
    ∧ ((parked .off).census.state = .parked ∧ (parked .off).coupling.state = .coupled ∧ (parked .ramping).coupling.supply = .ramping)
    ∧ ((parked .off).census.state.lineActive = false ∧ (atCoupling .breaking true true).coupling.state ≠ .coupled
      ∧ run.census.state ≠ .parked) := by decide
theorem test_hyp_ParkAndUnpark_census : CensusAgrees (parked .off) ∧ CensusAgrees (atCoupling .breaking true true) := by
  unfold CensusAgrees; decide

theorem test_hyp_RecallAndPingStart :
    (run.census.state.lineActive = true ∧ run.line.fault = false ∧ run.line.txList.length < 12)
    ∧ (full.census.state.lineActive = true ∧ full.line.fault = false ∧ full.line.txList.length = 12)
    ∧ ((parked .off).census.state.lineActive = false ∧ (atLine (fun l => { l with fault := true })).line.fault = true)
    ∧ ((run.holder 5).isSome = true ∧ (1 : Nat) ≤ (5 : Byte).toNat ∧ run.holder 62 = none ∧ 63 ≤ (63 : Byte).toNat) := by decide

theorem test_hyp_ForgetRemovesLost :
    ((run.holder 13).map (fun e => (e.state, isBridge e.identity)) = some (.lost, false) ∧ run.holder 1 = none)
    ∧ ((run.holder 5).map (·.state) = some .named ∧ (atOrder 0x14 63 .idle).order.operand.toNat = 63) := by decide

/-- The run with this name alone in service. -/
def busy (n : Name) : State := { run with service := { run.service with inService := [n] } }
theorem test_hyp_TakeHandsOutHighest :
    (run.service.requests.find? (fun q => q.name == 5) = some ⟨5, 1, false⟩ ∧ run.masked 5 = false
      ∧ (∀ q ∈ run.service.requests, q.name ≠ 5 → run.masked q.name = false →
          rank run.service.bottom 5 < rank run.service.bottom q.name)
      ∧ (∀ m ∈ run.service.inService, rank run.service.bottom 5 < rank run.service.bottom m))
    ∧ (∀ r ∈ (busy 5).service.requests, (busy 5).masked r.name = false →
        ∃ m ∈ (busy 5).service.inService, rank (busy 5).service.bottom m ≤ rank (busy 5).service.bottom r.name)
    ∧ (∀ r ∈ State.reset.service.requests, State.reset.masked r.name = false →
        ∃ m ∈ State.reset.service.inService, rank 62 m ≤ rank 62 r.name) := by decide

theorem test_hyp_DoneAndSetMask :
    (7 ∈ run.service.inService ∧ (∀ m ∈ run.service.inService, m ≠ 7 → rank run.service.bottom 7 < rank run.service.bottom m))
    ∧ (8 ∉ run.service.inService ∧ State.reset.service.inService = [])
    ∧ (run.order.phase = .run ∧ State.reset.order.phase = .setup)
    ∧ (1 ≤ (62 : Nat) ∧ (62 : Nat) ≤ 62 ∧ (62 : Byte) ≠ 0) := by decide

theorem test_hyp_RanksFollowR140 : (62 : Nat) ∈ [1, 62] ∧ run.serviceCondition = true ∧ run.takeChoice = some 5
    ∧ run.service.inService ≠ [] := by decide

theorem test_hyp_RanksFollowR140_masked : { run with service := { run.service with mask := 0x80 } }.masked 9 = true
    ∧ run.masked 9 = false := by decide

/-! ### Small steps -/

/-- The answer of a command, on a state. -/
def after (c : Instr) (s : State := run) : State :=
  match exec c s with
  | .next t => t
  | _ => State.reset

theorem test_crc_of_nothing : crcOf [] = 0xFFFF := by decide
theorem test_take_hands_out_five : (after .take).pins.sdo.drop 1 = [5, 1, 0] ∧ (after .take).service.inService = [5, 7] := by decide
theorem test_done_rotates : (after (.done 7)).service.bottom = 7 := by decide
theorem test_hold_names : (after (.holdReceived 11 (dev 4))).holder 11 ≠ none := by decide
theorem test_claim_taken : ((after (.claimReceived (dev 2) 5 0)).line.txList.map (·.body)) = [.object (dev 2) 5 .taken 1] := by
  decide
theorem test_release_of_bridge : (after (.releaseReceived 7 bridge)).roster.entries.length = 4 := by decide
/-- A falling edge of another station before the part's start mark: the line is BUSY and the part does not begin (R9). -/
theorem test_foreign_edge : (after (.arbitrationLoss .beforeStart) (waiting .beat)).mayTransmit = false
    ∧ (after (.arbitrationLoss .beforeStart) (waiting .beat)).line.state = .busy := by decide
/-- The frame in progress at the enable is not received, and the next one is (R19). -/
theorem test_frame_in_progress : (after (.beatReceived 5 7 0) (enabledFor 0)).line.errors = 3
    ∧ (after (.beatReceived 5 7 0) (enabledFor 0)).line.rx = .hunting
    ∧ (after (.beatReceived 5 7 0) (after (.beatReceived 5 7 0) (enabledFor 0))).line.errors = 2 := by decide
/-- The rest of a frame after a bit error or a receive error is neither received nor counted (R11, R13). -/
theorem test_rest_of_frame_after_errors :
    (after (.receiveError .earlyEnd) (after (.bitError .startMark) (flying .beat .none 0))).line.errors = 11
    ∧ (after (.beatReceived 5 7 0) (after (.bitError (.mismatch 60)) (flying .beat .none 0))).line.errors
      = (after (.bitError (.mismatch 60)) (flying .beat .none 0)).line.errors
    ∧ (after (.receiveError .lateEdge) (after (.receiveError (.length 4 5)))).line.errors = 4 := by decide
/-- The lock's return is a new enable: the receiver waits 2 P (R19). -/
theorem test_enable_waits : (after .lockEngaged (after .lockReleased)).line.rx = .waiting (run.time.now + 8)
    ∧ (after .lockEngaged (after .lockReleased)).line.enabled = true := by decide
/-- A fourth bit error drops the adoption PROBE and the name becomes UNSENT (R86). -/
theorem test_bit_error_drops : (after (.bitError .endMark) (waiting .beat)).line.errors = 3
    ∧ (after (.bitError .endMark) adoptionLast).line.txDrops = 1 := by decide
/-- An unknown command: 00₁₆ after the status byte (R169). -/
theorem test_unknown_command_zeros : (match transaction [0x77, 1, 2, 3] false run with
    | .next t => t.pins.sdo
    | _ => []) = [statusByte run, 0, 0, 0] := by decide
/-- The loss of a bridge runs through its stage: dev 3 is LOST behind it, with two LOST records (R91). -/
theorem test_bridge_lost : (after (.lossDeadline 2) bridgeSilent).roster.entries.map (·.state) = [.lost, .lost]
    ∧ ((after (.lossDeadline 2) bridgeSilent).changes.queue.drop 1).map (fun r => (r.kind, r.name, r.detail))
      = [(.lost, 7, 0), (.lost, 9, 7)] := by decide
theorem test_lock_released_freezes : (after .lockReleased).time.frozen = true ∧ (after .lockReleased).line.enabled = false := by
  decide
theorem test_supply_drop_parks : (after (.supplyGoodChange false)).census.state = .parked := by decide
theorem test_status_block_length : (after .readStatus).pins.sdo.length = 31 := by decide
theorem test_setup_go : (after .go { (setupPhase 0x04 []) with
    order := { Order.reset with opcode := 0x04, setup := some cfgT } }).order.phase = .run := by decide

end Sys2Proof.Tests
end

/-! The frame as bits on the wire: what the CRC generator, a field's bits and the CRC check of a received frame are (R7, R13). -/

namespace Sys2Proof

/-! ### The CRC generator -/

@[simp] theorem crcOf_nil : crcOf [] = 0xFFFF#16 := rfl

/-- The generator takes its bits in one at a time, the last one last. -/
@[simp] theorem crcOf_concat (bits : List Bool) (b : Bool) : crcOf (bits ++ [b]) = crcStep (crcOf bits) b := by
  simp only [crcOf, List.foldl_append, List.foldl_cons, List.foldl_nil]

/-- R7's step with the exclusive OR outside the choice: it takes 0 where the compared bits agree. -/
theorem crcStep_eq_shift_xor (r : BitVec 16) (b : Bool) :
    crcStep r b = (r <<< 1) ^^^ (if r.msb = b then 0x0000 else 0x1021) := by
  by_cases agree : r.msb = b
  · simp [crcStep, ← BitVec.msb_eq_getMsbD_zero, agree]
  · simp [crcStep, ← BitVec.msb_eq_getMsbD_zero, agree]

/-! ### The bits of a field -/

@[simp] theorem msbBits_length (n : Nat) (x : BitVec n) : (msbBits n x).length = n := by
  simp [msbBits]

/-- Place i of a field of n bits carries the bit of weight 2ⁿ⁻¹⁻ⁱ. -/
theorem msbBits_getElem? {n i : Nat} (x : BitVec n) (hi : i < n) :
    (msbBits n x)[i]? = some (x.getLsbD (n - 1 - i)) := by
  have weight : x.getMsbD i = x.getLsbD (n - 1 - i) := by simp [BitVec.getMsbD, hi]
  simp [msbBits, hi, weight]

/-! ### The frame -/

/-- The CRC covers kind, key, length and payload, in the order they are sent. -/
theorem WireFrame.crc_eq_crcOf_fields (f : WireFrame) :
    f.crc = crcOf (msbBits 4 f.kind ++ msbBits 48 f.key ++ msbBits 4 (BitVec.ofNat 4 f.payload.length)
      ++ f.payload.flatMap (msbBits 8)) := rfl

/-- The CRC field follows the bits that it covers. -/
theorem WireFrame.bits_eq_body_append_crc (f : WireFrame) : f.bits = f.bodyBits ++ msbBits 16 f.crc := rfl

/-- On a frame whose length is allowed, the CRC check of R13 fails exactly on a received CRC that is not the computed one. -/
theorem ReceiveErrorCause.fails_crc_iff {f : WireFrame} (received : BitVec 16)
    (hlen : lengthOk f.kind.toNat f.payload.length = true) :
    (ReceiveErrorCause.crc f received).fails = true ↔ received ≠ f.crc := by
  simp only [ReceiveErrorCause.fails, hlen, Bool.true_and, bne_iff_ne]
  exact ne_comm

/-- Settles O23: the generator by its last bit (`crcOf_concat`, `crcStep_eq_shift_xor`), a field by its places, and the
receive error by the CRC check of R13. -/
theorem crcFollowsR7 : Obligations.CrcFollowsR7 := by
  unfold Obligations.CrcFollowsR7
  refine ⟨crcOf_nil, ?lastBit, WireFrame.crc_eq_crcOf_fields, WireFrame.bits_eq_body_append_crc, ?field, ?received⟩
  case lastBit =>
    intro bits b
    rw [crcOf_concat, crcStep_eq_shift_xor]
  case field => exact fun n x => ⟨msbBits_length n x, fun i hi => msbBits_getElem? x hi⟩
  case received => exact fun f received hlen => ReceiveErrorCause.fails_crc_iff received hlen

end Sys2Proof

/-! Names and who may have them: who holds and who claims a name (R73), what the plan keeps for an identity (R101), when a
name is free and which one is offered instead (R102), and the claim tests over these (R108). -/

namespace Sys2Proof.Machine

/-! ### Holders and claimants -/

/-- An entry holds a name in the three states of R73. -/
theorem Entry.heldName_eq_some_iff {e : Entry} {n : Name} :
    e.heldName = some n ↔ e.name = some n ∧ (e.state = .named ∨ e.state = .silent ∨ e.state = .lost) := by
  cases hst : e.state <;> simp [Entry.heldName, Entry.holds, hst]

theorem Entry.claimedName_eq_some_iff {e : Entry} {n : Name} :
    e.claimedName = some n ↔ e.name = some n ∧ e.state = .claiming := by
  by_cases claims : e.state = .claiming
  · simp [Entry.claimedName, claims]
  · simp [Entry.claimedName, claims]

theorem State.entryOf_isNone_iff {s : State} {x : Identity} :
    (s.entryOf x).isNone = true ↔ ∀ e ∈ s.roster.entries, e.identity ≠ x := by
  simp [State.entryOf]

theorem State.holder_isSome_iff {s : State} {n : Name} :
    (s.holder n).isSome = true ↔ ∃ e ∈ s.roster.entries,
      e.name = some n ∧ (e.state = .named ∨ e.state = .silent ∨ e.state = .lost) := by
  simp only [State.holder, List.find?_isSome, beq_iff_eq, Entry.heldName_eq_some_iff]

theorem State.holder_isNone_iff {s : State} {n : Name} :
    (s.holder n).isNone = true ↔ ∀ e ∈ s.roster.entries,
      e.name = some n → e.state ≠ .named ∧ e.state ≠ .silent ∧ e.state ≠ .lost := by
  simp [State.holder, Entry.heldName_eq_some_iff]

theorem State.claimed_iff {s : State} {n : Name} :
    s.roster.entries.any (fun e => e.claimedName == some n) = true ↔
      ∃ e ∈ s.roster.entries, e.name = some n ∧ e.state = .claiming := by
  simp only [List.any_eq_true, beq_iff_eq, Entry.claimedName_eq_some_iff]

theorem State.claimedByOther_eq_false_iff {s : State} {x : Identity} {n : Name} :
    s.claimedByOther x n = false ↔
      ∀ e ∈ s.roster.entries, e.name = some n → e.state = .claiming → e.identity = x := by
  simp [State.claimedByOther, Entry.claimedName_eq_some_iff]

/-! ### The name plan (R101) -/

theorem PlanEntry.family_iff {p : PlanEntry} {x : Identity} :
    p.family x = true ↔ p.maker = makerOf x ∧ p.cls = classOf x := by
  simp [PlanEntry.family]

/-- The reservation's third class: an unbound wildcard entry of x's maker and class. -/
theorem PlanEntry.unboundFamily_iff {p : PlanEntry} {x : Identity} :
    (p.wildcard && p.binding == none && p.family x) = true ↔
      p.wildcard = true ∧ p.binding = none ∧ p.maker = makerOf x ∧ p.cls = classOf x := by
  simp only [Bool.and_eq_true, beq_iff_eq, PlanEntry.family_iff, and_assoc]

theorem Naming.exactFor_iff {m : Naming} {x : Identity} :
    m.exactFor x = true ↔ ∃ q ∈ m.plan, q.wildcard = false ∧ q.identity = x := by
  simp [Naming.exactFor]

theorem Naming.boundTo_iff {m : Naming} {x : Identity} :
    m.boundTo x = true ↔ ∃ q ∈ m.plan, q.wildcard = true ∧ q.binding = some x := by
  simp [Naming.boundTo]

/-- An exact entry stands by its identity, a bound wildcard entry by its binding, an unbound one by its family and by the
entries that x already has. -/
theorem Naming.standsAgainst_iff {m : Naming} {x : Identity} {p : PlanEntry} :
    m.standsAgainst x p = true ↔ StandsAgainst m x p := by
  cases hw : p.wildcard with
  | false => simp [Naming.standsAgainst, StandsAgainst, hw]
  | true =>
    cases hb : p.binding with
    | some y => simp [Naming.standsAgainst, StandsAgainst, hw, hb]
    | none =>
      by_cases fam : p.family x = true
      · obtain ⟨maker, cls⟩ := PlanEntry.family_iff.mp fam
        simp [Naming.standsAgainst, StandsAgainst, hw, hb, fam, maker, cls, Naming.exactFor_iff, Naming.boundTo_iff]
      · have other : p.maker ≠ makerOf x ∨ p.cls ≠ classOf x := by rwa [PlanEntry.family_iff, not_and_or] at fam
        simp [Naming.standsAgainst, StandsAgainst, hw, hb, fam, other]

theorem Naming.reservedAgainst_iff {m : Naming} {x : Identity} {n : Name} :
    m.reservedAgainst x n = true ↔ ∃ p ∈ m.plan, p.name = n ∧ m.standsAgainst x p = true := by
  simp only [Naming.reservedAgainst, List.any_eq_true, Bool.and_eq_true, beq_iff_eq]

/-- The reservation is looked for in the three classes of R101, a later one only where the earlier ones are empty. -/
theorem Naming.reservation_follows_R101 (m : Naming) (x : Identity) : ReservationFollowsR101 m x := by
  unfold ReservationFollowsR101 Naming.reservation
  cases own : m.plan.find? (fun p => !p.wildcard && p.identity == x) with
  | some p => exact ⟨List.mem_of_find?_eq_some own, .inl (by simpa using List.find?_some own)⟩
  | none =>
    have noExact : ∀ q ∈ m.plan, q.wildcard = false → q.identity ≠ x := by simpa using own
    cases bound : m.plan.find? (fun p => p.wildcard && p.binding == some x) with
    | some p => exact ⟨List.mem_of_find?_eq_some bound, .inr (.inl ⟨noExact, by simpa using List.find?_some bound⟩)⟩
    | none =>
      have noBound : ∀ q ∈ m.plan, q.wildcard = true → q.binding ≠ some x := by simpa using bound
      cases unbound : m.plan.find? (fun p => p.wildcard && p.binding == none && p.family x) with
      | some p =>
        obtain ⟨fits, front, back, split, earlier⟩ := List.find?_eq_some_iff_append.mp unbound
        obtain ⟨wild, free, maker, cls⟩ := PlanEntry.unboundFamily_iff.mp fits
        have lowest : ∀ q ∈ front,
            ¬ (q.wildcard = true ∧ q.binding = none ∧ q.maker = makerOf x ∧ q.cls = classOf x) := by
          intro q hq
          rw [← PlanEntry.unboundFamily_iff, Bool.not_eq_true]
          simpa only [Bool.not_eq_true'] using earlier q hq
        exact ⟨List.mem_of_find?_eq_some unbound,
          .inr (.inr ⟨noExact, noBound, wild, free, maker, cls, front, back, split, lowest⟩)⟩
      | none =>
        exact fun q hq => ⟨noExact q hq, noBound q hq,
          fun fits => List.find?_eq_none.mp unbound q hq (PlanEntry.unboundFamily_iff.mpr fits)⟩

/-! ### Free names and the counter-offer (R102) -/

theorem State.freeFor_iff {s : State} {x : Identity} {n : Name} : s.freeFor x n = true ↔ FreeFor s x n := by
  have unreserved : s.naming.reservedAgainst x n = false ↔
      ∀ p ∈ s.naming.plan, p.name = n → ¬ StandsAgainst s.naming x p := by
    simp [← Bool.not_eq_true, Naming.reservedAgainst_iff, Naming.standsAgainst_iff]
  simp only [State.freeFor, FreeFor, Bool.and_eq_true, Bool.not_eq_true', State.holder_isNone_iff,
    State.claimedByOther_eq_false_iff, unreserved, and_assoc]
  exact and_left_comm

theorem State.freeFor_eq_false_iff {s : State} {x : Identity} {n : Name} : s.freeFor x n = false ↔ ¬ FreeFor s x n := by
  rw [← Bool.not_eq_true, State.freeFor_iff]

theorem State.freeReserved_eq_some_iff {s : State} {x : Identity} {n : Name} :
    s.freeReserved x = some n ↔ ∃ p, s.naming.reservation x = some p ∧ p.name = n ∧ FreeFor s x n := by
  unfold State.freeReserved
  cases s.naming.reservation x with
  | none => simp
  | some p =>
    simp only [Option.ite_none_right_eq_some, State.freeFor_iff, Option.some.injEq]
    constructor
    · rintro ⟨hfree, rfl⟩
      exact ⟨p, rfl, rfl, hfree⟩
    · rintro ⟨_, rfl, rfl, hfree⟩
      exact ⟨hfree, rfl⟩

theorem State.freePrior_eq_some_iff {s : State} {x : Identity} {n : Name} :
    s.freePrior x = some n ↔ ∃ e, s.entryOf x = some e ∧ e.prior = some n ∧ FreeFor s x n := by
  unfold State.freePrior
  cases s.entryOf x with
  | none => simp
  | some e =>
    cases hp : e.prior with
    | none => simp [hp]
    | some p =>
      simp only [hp, Option.ite_none_right_eq_some, State.freeFor_iff, Option.some.injEq]
      constructor
      · rintro ⟨hfree, rfl⟩
        exact ⟨e, rfl, hp, hfree⟩
      · rintro ⟨_, rfl, hprior, hfree⟩
        obtain rfl : p = n := Option.some.inj (hp.symm.trans hprior)
        exact ⟨hfree, rfl⟩

theorem toolNames_eq_range' : toolNames = List.range' 1 62 := by decide

/-- The lowest name in 1 to 62 that is free for x is the one found. -/
theorem State.find?_toolNames_of_lowest {s : State} {x : Identity} {n : Nat} (h1 : 1 ≤ n) (h62 : n ≤ 62)
    (hfree : FreeFor s x n) (lowest : ∀ k, 1 ≤ k → k < n → ¬ FreeFor s x k) :
    toolNames.find? (s.freeFor x) = some n := by
  rw [toolNames_eq_range', List.find?_range'_eq_some]
  refine ⟨State.freeFor_iff.mpr hfree, List.mem_range'_1.mpr ⟨h1, by omega⟩, fun k hk hkn => ?_⟩
  rw [State.freeFor_eq_false_iff.mpr (lowest k hk hkn), Bool.not_false]

theorem State.find?_toolNames_of_none_free {s : State} {x : Identity}
    (none_free : ∀ n : Nat, 1 ≤ n → n ≤ 62 → ¬ FreeFor s x n) : toolNames.find? (s.freeFor x) = none := by
  rw [toolNames_eq_range', List.find?_range'_eq_none]
  intro n h1 h63
  rw [State.freeFor_eq_false_iff.mpr (none_free n h1 (by omega)), Bool.not_false]

theorem State.counterOffer_of_freeReserved {s : State} {x : Identity} {n : Name} (h : s.freeReserved x = some n) :
    s.counterOffer x = n := by
  simp [State.counterOffer, h]

theorem State.counterOffer_of_freePrior {s : State} {x : Identity} {n : Name} (hr : s.freeReserved x = none)
    (h : s.freePrior x = some n) : s.counterOffer x = n := by
  simp [State.counterOffer, hr, h]

theorem State.counterOffer_of_neither {s : State} {x : Identity} (hr : s.freeReserved x = none)
    (hp : s.freePrior x = none) : s.counterOffer x = (toolNames.find? (s.freeFor x)).getD 0 := by
  simp [State.counterOffer, hr, hp]

theorem State.counterOffer_follows_R102 (s : State) (x : Identity) : CounterOfferFollowsR102 s x := by
  unfold CounterOfferFollowsR102
  simp only [← State.freeReserved_eq_some_iff, ← State.freePrior_eq_some_iff, ← Option.eq_none_iff_forall_ne_some,
    implies_true, true_and]
  refine ⟨fun n => State.counterOffer_of_freeReserved, fun noReserved =>
    ⟨fun n => State.counterOffer_of_freePrior noReserved, fun noPrior => ?_⟩⟩
  rw [State.counterOffer_of_neither noReserved noPrior]
  exact ⟨fun n h1 h62 hfree lowest => by rw [State.find?_toolNames_of_lowest h1 h62 hfree lowest, Option.getD_some],
    fun none_free => by rw [State.find?_toolNames_of_none_free none_free, Option.getD_none]⟩

/-! ### The claim tests (R108) -/

/-- Settles O37: the tests before the sixth agree condition by condition, the sixth and seventh by what is free for x, and
R101 and R102 are the lemmas above. -/
theorem claimTestsInOrder : Obligations.ClaimTestsInOrder := by
  unfold Obligations.ClaimTestsInOrder
  intro s x n
  refine ⟨?tests, ?objected, ?accepted, fun p => Naming.standsAgainst_iff, Naming.reservation_follows_R101 s.naming x,
    State.freeFor_iff, State.counterOffer_follows_R102 s x⟩
  case tests =>
    unfold claimTest
    refine if_congr Iff.rfl rfl <| if_congr State.entryOf_isNone_iff rfl <| if_congr State.holder_isSome_iff rfl <|
      if_congr State.claimed_iff rfl <| if_congr Naming.reservedAgainst_iff rfl ?_
    cases s.freeReserved x with
    | some r =>
      by_cases own : r = n
      · simp [own]
        rfl
      · simp [own]
    | none =>
      cases s.freePrior x with
      | some p =>
        by_cases own : p = n
        · simp [own]
          rfl
        · simp [own]
      | none =>
        simp
        rfl
  case objected => exact fun reason counter objection => by simp only [judgeClaim, objection]
  case accepted => exact fun passes => by simp only [judgeClaim, passes]

end Sys2Proof.Machine

/-! Priority and masking: the rank of a name (R140), which names are effectively masked (R142), and how the SERVICE
condition, TAKE and DONE 0 choose by the two (R146, R147, R152). -/

namespace Sys2Proof.Machine

/-! ### Ranks (R140) -/

/-- The names above the bottom name come first, counted from it. -/
theorem rank_of_lt {b p : Nat} (h : b < p) : rank b p = p - b := if_pos h

/-- The bottom name and those below it come after the others. -/
theorem rank_of_le {b p : Nat} (h : p ≤ b) : rank b p = p + 62 - b := if_neg (Nat.not_lt.mpr h)

theorem rank_self (b : Nat) : rank b b = 62 := by
  rw [rank_of_le (Nat.le_refl b), Nat.add_sub_cancel_left]

theorem one_le_rank {b p : Nat} (hb : b ≤ 62) (hp : 1 ≤ p) : 1 ≤ rank b p := by
  rcases Nat.lt_or_ge b p with above | below
  · rw [rank_of_lt above]
    omega
  · rw [rank_of_le below]
    omega

theorem rank_le_62 {b p : Nat} (hp : p ≤ 62) : rank b p ≤ 62 := by
  rcases Nat.lt_or_ge b p with above | below
  · rw [rank_of_lt above]
    omega
  · rw [rank_of_le below]
    omega

/-- The ranks of the names above the bottom name end at 62 − b, and the others begin after that. -/
theorem rank_le_iff_lt {b p : Nat} (hb : b ≤ 62) (hp : 1 ≤ p) (hp62 : p ≤ 62) : rank b p ≤ 62 - b ↔ b < p := by
  rcases Nat.lt_or_ge b p with above | below
  · rw [rank_of_lt above]
    omega
  · rw [rank_of_le below]
    omega

/-- No two names share a rank: equal ranks put both on one side of the bottom name, where ranks count up with the names. -/
theorem rank_injective {b p q : Nat} (hb : b ≤ 62) (hp : 1 ≤ p) (hp62 : p ≤ 62) (hq : 1 ≤ q) (hq62 : q ≤ 62)
    (h : rank b p = rank b q) : p = q := by
  have side : b < p ↔ b < q := by rw [← rank_le_iff_lt hb hp hp62, ← rank_le_iff_lt hb hq hq62, h]
  rcases Nat.lt_or_ge b p with above | below
  · rw [rank_of_lt above, rank_of_lt (side.mp above)] at h
    omega
  · rw [rank_of_le below, rank_of_le (by omega)] at h
    omega

/-! ### The name of highest priority -/

theorem highest_eq_none_iff {b : Name} {l : List Name} : highest b l = none ↔ l = [] := by
  cases l with
  | nil => simp [highest]
  | cons n ns =>
    cases rest : highest b ns with
    | none => simp [highest, rest]
    | some m => by_cases lower : rank b m < rank b n <;> simp [highest, rest, lower]

/-- The name found is one of the list, and none of the list ranks below it. -/
theorem highest_spec {b n : Name} {l : List Name} (h : highest b l = some n) :
    n ∈ l ∧ ∀ m ∈ l, rank b n ≤ rank b m := by
  induction l generalizing n with
  | nil => simp [highest] at h
  | cons k ks ih =>
    cases rest : highest b ks with
    | none =>
      obtain rfl : k = n := by simpa [highest, rest] using h
      simp [highest_eq_none_iff.mp rest]
    | some m =>
      obtain ⟨hm, lowest⟩ := ih rest
      by_cases lower : rank b m < rank b k
      · obtain rfl : m = n := by simpa [highest, rest, lower] using h
        exact ⟨List.mem_cons_of_mem k hm, List.forall_mem_cons.mpr ⟨lower.le, lowest⟩⟩
      · obtain rfl : k = n := by simpa [highest, rest, lower] using h
        exact ⟨List.mem_cons_self, List.forall_mem_cons.mpr
          ⟨le_rfl, fun q hq => (Nat.not_lt.mp lower).trans (lowest q hq)⟩⟩

/-! ### Holders and stages (R73, R91) -/

theorem RosterOk.eq_of_identity {s : State} (ok : RosterOk s) {e f : Entry} (he : e ∈ s.roster.entries)
    (hf : f ∈ s.roster.entries) (same : e.identity = f.identity) : e = f := by
  obtain ⟨_, _, identities, _⟩ := ok
  exact List.inj_on_of_nodup_map identities he hf same

/-- Names are all different, whether held or claimed. -/
theorem RosterOk.eq_of_name {s : State} (ok : RosterOk s) {e f : Entry} {n : Name} (he : e ∈ s.roster.entries)
    (hf : f ∈ s.roster.entries) (hen : e.name = some n) (hfn : f.name = some n) : e = f := by
  obtain ⟨_, _, _, names⟩ := ok
  have differs_symm : Std.Symm fun e f : Entry => ∀ n, e.name = some n → ∀ m, f.name = some m → n ≠ m :=
    ⟨fun _ _ differ n hn m hm => (differ m hm n hn).symm⟩
  by_contra other
  exact (List.pairwise_filterMap.mp names).forall he hf other n hen n hfn rfl

theorem RosterOk.eq_of_heldName {s : State} (ok : RosterOk s) {e f : Entry} {n : Name} (he : e ∈ s.roster.entries)
    (hf : f ∈ s.roster.entries) (hen : e.heldName = some n) (hfn : f.heldName = some n) : e = f := by
  obtain ⟨heName, _⟩ := Entry.heldName_eq_some_iff.mp hen
  obtain ⟨hfName, _⟩ := Entry.heldName_eq_some_iff.mp hfn
  exact ok.eq_of_name he hf heName hfName

theorem State.holder_eq_some_iff {s : State} (ok : RosterOk s) {n : Name} {e : Entry} :
    s.holder n = some e ↔ e ∈ s.roster.entries ∧ e.heldName = some n := by
  constructor
  · intro h
    exact ⟨List.mem_of_find?_eq_some h, by simpa using List.find?_some h⟩
  · rintro ⟨he, hen⟩
    obtain ⟨f, hf⟩ : ∃ f, s.holder n = some f := by
      rw [← Option.isSome_iff_exists, State.holder, List.find?_isSome]
      exact ⟨e, he, by simpa using hen⟩
    have hfn : f.heldName = some n := by simpa using List.find?_some hf
    rw [hf, ok.eq_of_heldName (List.mem_of_find?_eq_some hf) he hfn hen]

theorem State.mem_entries_of_bridgeAbove {s : State} {e b : Entry} (h : s.bridgeAbove e = some b) :
    b ∈ s.roster.entries := by
  obtain ⟨_, holds⟩ := Option.ite_none_left_eq_some.mp h
  exact List.mem_of_find?_eq_some holds

theorem State.mem_entries_of_mem_chainAbove {s : State} {depth : Nat} {e b : Entry} (h : b ∈ s.chainAbove depth e) :
    b ∈ s.roster.entries := by
  induction depth generalizing e with
  | zero => simp [State.chainAbove] at h
  | succ depth ih =>
    cases above : s.bridgeAbove e with
    | none => simp [State.chainAbove, above] at h
    | some c =>
      rcases (by simpa [State.chainAbove, above] using h : b = c ∨ b ∈ s.chainAbove depth c) with rfl | further
      · exact State.mem_entries_of_bridgeAbove above
      · exact ih further

theorem State.mem_entries_of_mem_bridgesAbove {s : State} {e b : Entry} (h : b ∈ s.bridgesAbove e) :
    b ∈ s.roster.entries :=
  State.mem_entries_of_mem_chainAbove h

/-- Identities are all different, so being behind an identity is being behind the entry that has it. -/
theorem State.mem_bridgesAbove_iff {s : State} (ok : RosterOk s) {e b : Entry} :
    b ∈ s.bridgesAbove e ↔ b ∈ s.roster.entries ∧ s.isBehind e b.identity = true := by
  simp only [State.isBehind, List.any_eq_true, beq_iff_eq]
  constructor
  · exact fun h => ⟨State.mem_entries_of_mem_bridgesAbove h, b, h, rfl⟩
  · rintro ⟨hb, c, hc, same⟩
    rwa [← ok.eq_of_identity (State.mem_entries_of_mem_bridgesAbove hc) hb same]

/-! ### Effective masking (R142) -/

theorem Entry.heldName_masked_iff {v : Service} {b : Entry} :
    (b.heldName.map v.masks).getD false = true ↔ ∃ m, b.heldName = some m ∧ v.mask.getLsbD m = true := by
  cases b.heldName with
  | none => simp
  | some m => simp [Service.masks]

theorem State.masked_iff {s : State} (ok : RosterOk s) {n : Name} :
    s.masked n = true ↔ s.service.mask.getLsbD n = true
      ∨ ∃ e ∈ s.roster.entries, e.heldName = some n ∧ ∃ b ∈ s.roster.entries, s.isBehind e b.identity = true
        ∧ ∃ m, b.heldName = some m ∧ s.service.mask.getLsbD m = true := by
  have byStage : s.masked n = true ↔ s.service.mask.getLsbD n = true
      ∨ ∃ e, s.holder n = some e ∧ ∃ b ∈ s.bridgesAbove e, (b.heldName.map s.service.masks).getD false = true := by
    cases held : s.holder n with
    | none => simp [State.masked, Service.masks, held]
    | some e => simp only [State.masked, Service.masks, held, Bool.or_eq_true, List.any_eq_true, Option.some.injEq,
        exists_eq_left']
  simp only [byStage, State.holder_eq_some_iff ok, State.mem_bridgesAbove_iff ok, Entry.heldName_masked_iff, and_assoc]

/-! ### The choice of a request (R146, R147) -/

theorem State.mem_openRequests_iff {s : State} {n : Name} :
    n ∈ s.openRequests ↔ (∃ r ∈ s.service.requests, r.name = n) ∧ s.masked n = false := by
  simp [State.openRequests]

theorem Service.outranksService_iff {v : Service} {n : Name} :
    v.outranksService n = true ↔ ∀ m ∈ v.inService, rank v.bottom n < rank v.bottom m := by
  simp [Service.outranksService]

theorem State.serviceCondition_iff {s : State} :
    s.serviceCondition = true ↔ ∃ r ∈ s.service.requests, s.masked r.name = false
      ∧ ∀ m ∈ s.service.inService, rank s.service.bottom r.name < rank s.service.bottom m := by
  simp only [State.serviceCondition, List.any_eq_true, State.mem_openRequests_iff, Service.outranksService_iff]
  constructor
  · rintro ⟨_, ⟨⟨r, hr, rfl⟩, unmasked⟩, outranks⟩
    exact ⟨r, hr, unmasked, outranks⟩
  · rintro ⟨r, hr, unmasked, outranks⟩
    exact ⟨r.name, ⟨⟨r, hr, rfl⟩, unmasked⟩, outranks⟩

theorem State.takeChoice_eq_some_iff {s : State} {n : Name} :
    s.takeChoice = some n ↔
      highest s.service.bottom s.openRequests = some n ∧ s.service.outranksService n = true := by
  unfold State.takeChoice
  cases highest s.service.bottom s.openRequests with
  | none => simp
  | some k =>
    simp only [Option.ite_none_right_eq_some, Option.some.injEq]
    constructor
    · rintro ⟨outranks, rfl⟩
      exact ⟨rfl, outranks⟩
    · rintro ⟨rfl, outranks⟩
      exact ⟨outranks, rfl⟩

/-! ### The non-specific DONE (R152) -/

/-- A finished name leaves I; that it may become the bottom name does not change I. -/
theorem finishService_inService (n : Name) (s : State) :
    (finishService n s).service.inService = s.service.inService.filter (fun m => m != n) := by
  cases rotates : s.cfg.rotation <;> simp [finishService, Service.doneWith, Service.finish, rotates]

theorem doneHighest_of_highest {s : State} {n : Name} (h : highest s.service.bottom s.service.inService = some n) :
    doneHighest s = finishService n s := by
  simp only [doneHighest, h]

theorem exec_done0 (s : State) : exec .done0 s = .next (doneHighest s) := rfl

/-! ### Priority and masking in use -/

/-- Settles O60: the ranks by the side of the bottom name a name stands on, masking by the bridges above the holder, and the
three users by `highest` and `outranksService`. -/
theorem ranksFollowR140 : Obligations.RanksFollowR140 := by
  unfold Obligations.RanksFollowR140
  refine ⟨?ranks, ?table, fun s n ok => State.masked_iff ok, fun s => State.serviceCondition_iff, ?take, ?done⟩
  case ranks =>
    exact fun b p _ hb62 hp hp62 => ⟨rfl, one_le_rank hb62 hp, rank_le_62 hp62, rank_self b,
      fun q hq hq62 => rank_injective hb62 hp hp62 hq hq62⟩
  case table => decide
  case take =>
    intro s n chosen
    obtain ⟨best, outranks⟩ := State.takeChoice_eq_some_iff.mp chosen
    obtain ⟨isOpen, lowest⟩ := highest_spec best
    obtain ⟨requested, unmasked⟩ := State.mem_openRequests_iff.mp isOpen
    exact ⟨requested, unmasked,
      fun r hr notMasked => lowest r.name (State.mem_openRequests_iff.mpr ⟨⟨r, hr, rfl⟩, notMasked⟩),
      Service.outranksService_iff.mp outranks⟩
  case done =>
    intro s serving
    obtain ⟨n, best⟩ := Option.ne_none_iff_exists'.mp (mt highest_eq_none_iff.mp serving)
    obtain ⟨inService, lowest⟩ := highest_spec best
    refine ⟨n, inService, lowest, finishService n s, ?_, finishService_inService n s⟩
    rw [exec_done0, doneHighest_of_highest best]

end Sys2Proof.Machine

/-! The change queue: what a record writes on a queue with room and on a full one (R158 to R160). -/

namespace Sys2Proof.Machine

section

variable {kind : ChangeKind} {name : Name} {identity : Option Identity} {detail : Nat} {s : State}

/-- A record writes the change block alone, so its effect is known from `queueRecord_room` and `queueRecord_full`. -/
theorem queueRecord_eq_withChanges :
    queueRecord kind name identity detail s = s.withChanges (queueRecord kind name identity detail s).changes := by
  by_cases room : s.changes.queue.length < Config.changeCapacity
  · simp only [queueRecord, if_pos room, State.withChanges_changes]
  · simp only [queueRecord, if_neg room, State.withChanges_changes]

/-- The drop count is at its limit or below it after a record, whatever it was before: it returns to 0 or saturates. -/
theorem queueRecord_drops_le : (queueRecord kind name identity detail s).changes.drops ≤ Config.maxCount8 := by
  by_cases room : s.changes.queue.length < Config.changeCapacity
  · rw [queueRecord_room room]
    exact Nat.zero_le _
  · rw [queueRecord_full room]
    exact satAdd_le _ _ _

end

/-- Settles O49: only the change block is written (`queueRecord_eq_withChanges`), with room as `queueRecord_room` says and on
a full queue as `queueRecord_full` says. -/
theorem recordEntersOrIsCounted : Obligations.RecordEntersOrIsCounted := by
  unfold Obligations.RecordEntersOrIsCounted
  refine fun s kind name identity detail => ⟨?room, ?full, fun _ => queueRecord_drops_le⟩
  case room =>
    intro room
    rw [queueRecord_eq_withChanges, queueRecord_room room]
    rfl
  case full =>
    intro full
    rw [queueRecord_eq_withChanges, queueRecord_full (Nat.not_lt.mpr full)]
    rfl

end Sys2Proof.Machine

/-! What a step can do (00, 03 section 3.1, 09, 10): the own clock on an empty queue, and for a command one of the effects
listed once in `Effect`, which every invariant's proof goes through. -/

namespace Sys2Proof.Machine

/-! ### The step -/

theorem step_of_pending {s : State} {c : Instr} {rest : List Instr} (h : s.pending = c :: rest) :
    step s = exec c { s with pending := rest } := by
  simp only [step, h]

theorem step_of_empty {s : State} (h : s.pending = []) : step s = .next (idleStep s) := by
  simp only [step, h]

theorem idleStep_of_nothing_due {s : State} (h : s.dueCommands = []) : idleStep s = tick s := by
  simp only [idleStep, h]

/-- One due event goes into the queue, whichever the free value picks. -/
theorem idleStep_of_due {s : State} (h : s.dueCommands ≠ []) :
    ∃ c ∈ s.dueCommands, ∃ d, idleStep s = { s with pending := [c], draws := d } := by
  match due : s.dueCommands with
  | [] => exact absurd due h
  | [c] => exact ⟨c, List.mem_singleton_self c, s.draws, by simp only [idleStep, due]⟩
  | c :: d :: more =>
    have inside : Config.freePick s.draws % (c :: d :: more).length < (c :: d :: more).length :=
      Nat.mod_lt _ (Nat.succ_pos _)
    refine ⟨(c :: d :: more).getD (Config.freePick s.draws % (c :: d :: more).length) c, ?_, s.draws + 1, ?_⟩
    · rw [List.getD_eq_getElem _ _ inside]
      exact List.getElem_mem inside
    · simp only [idleStep, due]

/-! ### The effects of a command -/

/-- Of the pins only the input levels differ (R52). -/
def InputsOnly (s : State) (p : Pins) : Prop :=
  p = { s.pins with mateA := p.mateA, mateB := p.mateB, lock := p.lock, supplyGood := p.supplyGood }

/-- What a command other than a reset can do to the part, one constructor per branch of the meanings that acts. -/
inductive Effect (s : State) : State → Prop
  | noEvent : Effect s s
  | level {p : Pins} (inputs : InputsOnly s p) : Effect s (refreshNotices (s.withPins p))
  | mated {p : Pins} (inputs : InputsOnly s p) (lock : p.lock = s.pins.lock) (phase : s.order.phase = .run) :
      Effect s (refreshNotices (matesMet (s.withPins p)))
  | parted {p : Pins} (inputs : InputsOnly s p) (phase : s.order.phase = .run) :
      Effect s (refreshNotices (mateParted (s.withPins p)))
  | lockEngages (phase : s.order.phase = .run) (held : s.coupling.state = .held) :
      Effect s (refreshNotices (enterCoupled (s.withPins { s.pins with lock := true })))
  | lockReleases (phase : s.order.phase = .run) (coupled : s.coupling.state = .coupled) :
      Effect s (refreshNotices (enterHeld (beginFreeze (s.withPins { s.pins with lock := false }))))
  | supplyDrops (on : s.coupling.supply = .on) :
      Effect s (refreshNotices (parkOvertaking .supplyFault 2 (s.withPins { s.pins with supplyGood := false })))
  | makeExpires (due : s.due s.coupling.make = true) (making : s.coupling.state = .making) :
      Effect s (refreshNotices (coupleByLock (s.withCoupling { s.coupling with make := none })))
  | makeLapses (due : s.due s.coupling.make = true) (other : s.coupling.state ≠ .making) :
      Effect s (refreshNotices (s.withCoupling { s.coupling with make := none }))
  | breakExpires (due : s.due s.coupling.brk = true) :
      Effect s (refreshNotices (teardown (s.withCoupling { s.coupling with brk := none })))
  | settles (due : s.due s.coupling.settle = true) (good : s.pins.supplyGood = true) :
      Effect s (refreshNotices (syncLine (enterPowering (s.withCoupling { s.coupling with settle := none, supply := .on }))))
  | settleFails (due : s.due s.coupling.settle = true) :
      Effect s (refreshNotices (parkOvertaking .supplyFault 1 (s.withCoupling { s.coupling with settle := none })))
  | holdLimitExpires (due : s.due s.coupling.holdLimit = true) :
      Effect s (refreshNotices (parkOvertaking .parked 2 (s.withCoupling { s.coupling with holdLimit := none })))
  | lineIdles (receiving : s.receiving = true) : Effect s (refreshNotices (lineRecessive s))
  | attemptBegins (may : s.mayTransmit = true) : Effect s (refreshNotices (beginAttempt s))
  | foreignEdge (receiving : s.receiving = true) :
      Effect s (refreshNotices (s.withLine { s.line with recessive8 := false, rx := s.waitsAnew }))
  | arbitrationLost {i : InFlight} (bits : List Bool) (inFlight : s.line.inFlight = some i) :
      Effect s (refreshNotices (s.withLine { s.line with inFlight := none, rx := .assembling bits }))
  | bitError {i : InFlight} (cause : BitErrorCause) (inFlight : s.line.inFlight = some i) :
      Effect s (refreshNotices (failAttempt i cause s))
  | sent {i : InFlight} (inFlight : s.line.inFlight = some i) : Effect s (close (completeAttempt i s))
  | receiveError (cause : ReceiveErrorCause) (receiving : s.receiving = true) :
      Effect s (refreshNotices (checkFault (s.withLine { s.line with
        errors := satAdd Config.maxErrors s.line.errors 1, rx := s.afterError cause, recessive8 := false })))
  | stuckAgain (enabled : s.line.enabled = true) (fault : s.line.fault = true) :
      Effect s (refreshNotices (s.withLine { s.line with
        stuck := true, rx := .waiting s.time.now, recessive8 := false }))
  | stuckEnters (enabled : s.line.enabled = true) (fault : s.line.fault = false) :
      Effect s (refreshNotices (enterFault (s.withLine { s.line with
        stuck := true, rx := .waiting s.time.now, recessive8 := false })))
  | framePasses : Effect s (passFrame s)
  | foreign (receiving : s.receiving = true) : Effect s (close (countForeign (goodFrame s)))
  | received {f : RxFrame} (receiving : s.receiving = true) (form : formOk s.ownIdentity f = true) :
      Effect s (close (dispatch f (goodFrame s)))
  | claimExpires {slot : Nat} {e : Entry} (entry : s.entryAt slot = some e) (due : s.toolDue e.claimDl = true) :
      Effect s (close (removeEntry e .stalled (queueRecord .stalled 0 (some e.identity) 0 s)))
  | silenceExpires {slot : Nat} {e : Entry} (entry : s.entryAt slot = some e) (due : s.toolDue e.silenceDl = true) :
      Effect s (refreshNotices (queueRecord .silent (e.name.getD 0) (some e.identity) 0
        (changeEntry e.identity (Entry.toSilent (s.cfg.loss * ms s.cfg.silence)) s)))
  | lossExpires {slot : Nat} {e : Entry} (entry : s.entryAt slot = some e) (due : s.toolDue e.lossDl = true) :
      Effect s (close (if isBridge e.identity then cascadeLoss Config.rosterCapacity (e.name.getD 0) (loseEntry e 0 s)
        else loseEntry e 0 s))
  | probeWindowEnds (n : Name) : Effect s (refreshNotices (leaveAsked n s))
  | objectionWindowEnds (x : Identity) :
      Effect s (refreshNotices (s.withNaming { s.naming with
        claims := s.naming.claims.map (fun d => if d.claimant == x then { d with windowEnded := true } else d) }))
  | holdExpires {x : Identity} {c : PendingClaim} (claim : s.claimOf x = some c) :
      Effect s (close (entryToHeard x (dropClaim x s)))
  | ticketExpires (k : Nat) (ticket : ∃ b ∈ s.naming.tickets, b.tag = k) :
      Effect s (refreshNotices (withdrawLate k (s.withNaming { s.naming with
        tickets := s.naming.tickets.filter (fun t => t.tag != k) })))
  | firstFrameExpires (powering : s.census.state = .powering) :
      Effect s (refreshNotices (enterComplete (s.withCensus { s.census with firstFrame := none })))
  | firstFrameLapses : Effect s (refreshNotices (s.withCensus { s.census with firstFrame := none }))
  | quietExpires (quiet : s.census.state = .quiet) :
      Effect s (refreshNotices (enterComplete (s.withCensus { s.census with quiet := none })))
  | quietLapses : Effect s (refreshNotices (s.withCensus { s.census with quiet := none }))
  | censusExpires : Effect s (refreshNotices (censusOverrun (s.withCensus { s.census with deadline := none })))
  | pingWindowEnds :
      Effect s (refreshNotices (endPingOrder (some .noAnswer) 0 (s.withOrder { s.order with pingWindow := none })))
  | beatMatches {v : Time} (armed : s.time.beat = some v) :
      Effect s (refreshNotices (offerFrame .beat .timeBase .none
        (s.withTime { s.time with beat := some (v + BitVec.ofNat 32 (ms s.cfg.beat)) })))
  | reply (bytes : List Byte) : Effect s (clockOut s bytes s)
  | noticesRead (bytes : List Byte) :
      Effect s (clockOut s bytes (s.withNotices { s.notices with
        couplingSeen := s.notices.couplingSeen || s.notices.coupling
        lineSeen := s.notices.lineSeen || s.notices.line
        censusSeen := s.notices.censusSeen || s.notices.census }))
  | noticesCleared (selection : Byte) :
      Effect s (clockOut s [] (refreshNotices (s.withNotices (s.notices.cleared selection))))
  | orderWritten (opcode operand : Byte) (offset : Nat) (bytes : List Byte) (idle : s.order.state = .idle) :
      Effect s (clockOut s [0x00] (s.withOrder { s.order with
        opcode, operand, data := writeData s.order.data offset bytes }))
  | retired (done : s.order.state = .done) :
      Effect s (clockOut s [] (refreshNotices (s.withOrder { s.order with state := .idle })))
  | snapshotMoves (bytes : List Byte) (p : Snapshot) : Effect s (clockOut s bytes (s.withSnapshot p))
  | changeRead {r : ChangeRecord} {rest : List ChangeRecord} (queue : s.changes.queue = r :: rest) :
      Effect s (clockOut s (recordBytes r) (refreshNotices (s.withChanges { s.changes with queue := rest })))
  | taken {n : Name} (choice : s.takeChoice = some n) :
      Effect s (clockOut s (s.service.takeReply n) (refreshNotices (s.withService (s.service.taken s.cfg n))))
  | finished {n : Name} (serving : n ∈ s.service.inService) : Effect s (finishService n s)
  | maskSet (mask : BitVec 64) :
      Effect s (clockOut s [0x00] (refreshNotices (s.withService { s.service with mask := maskOf mask })))
  | orderRejected (error : OrderError) (idle : s.order.state = .idle) :
      Effect s (clockOut s [0x00] (close (endOrder (some error) 0 (beginOrder s))))
  | orderSetup (idle : s.order.state = .idle) (opcode : s.order.opcode = 0x01) (phase : s.order.phase = .setup) :
      Effect s (clockOut s [0x00] (close (setupOrder (beginOrder s))))
  | orderPlan (idle : s.order.state = .idle) (opcode : s.order.opcode = 0x02) (phase : s.order.phase = .setup) :
      Effect s (clockOut s [0x00] (close (planOrder (beginOrder s))))
  | orderClearPlan (idle : s.order.state = .idle) (opcode : s.order.opcode = 0x03) (phase : s.order.phase = .setup) :
      Effect s (clockOut s [0x00] (close (clearPlanOrder (beginOrder s))))
  | orderGo (idle : s.order.state = .idle) (opcode : s.order.opcode = 0x04) (phase : s.order.phase = .setup) :
      Effect s (clockOut s [0x00] (close (goOrder (beginOrder s))))
  | orderPark (idle : s.order.state = .idle) (opcode : s.order.opcode = 0x10) (phase : s.order.phase = .run) :
      Effect s (clockOut s [0x00] (close (parkOrder (beginOrder s))))
  | orderUnpark (idle : s.order.state = .idle) (opcode : s.order.opcode = 0x11) (phase : s.order.phase = .run) :
      Effect s (clockOut s [0x00] (close (unparkOrder (beginOrder s))))
  | orderRecall (idle : s.order.state = .idle) (opcode : s.order.opcode = 0x12) (phase : s.order.phase = .run) :
      Effect s (clockOut s [0x00] (close (recallOrder (beginOrder s))))
  | orderPing (idle : s.order.state = .idle) (opcode : s.order.opcode = 0x13) (phase : s.order.phase = .run) :
      Effect s (clockOut s [0x00] (close (pingOrder (beginOrder s))))
  | orderForget (idle : s.order.state = .idle) (opcode : s.order.opcode = 0x14) (phase : s.order.phase = .run) :
      Effect s (clockOut s [0x00] (close (forgetOrder (beginOrder s))))

/-- The result is a next state that an effect leads to. -/
def Acts (s : State) (r : Result) : Prop := ∃ t, r = .next t ∧ Effect s t

theorem Acts.of_effect {s t : State} (h : Effect s t) : Acts s (.next t) := ⟨t, rfl, h⟩

/-- A choice acts if both of its sides do. -/
theorem Acts.ite {p : Prop} [Decidable p] {s : State} {r q : Result} (yes : p → Acts s r) (no : ¬ p → Acts s q) :
    Acts s (if p then r else q) := by
  by_cases h : p
  · rw [if_pos h]; exact yes h
  · rw [if_neg h]; exact no h

theorem Acts.none {s : State} : Acts s (.next s) := .of_effect .noEvent

/-! #### The input pins and the coupling deadlines -/

theorem inputsOnly_setMate (s : State) (i : MateInput) (v : Bool) : InputsOnly s (s.pins.setMate i v) := by
  cases i <;> rfl

theorem setMate_lock (p : Pins) (i : MateInput) (v : Bool) : (p.setMate i v).lock = p.lock := by
  cases i <;> rfl

theorem execMateAsserted_acts (i : MateInput) (s : State) : Acts s (execMateAsserted i s) := by
  refine Acts.ite (fun _ => .none) fun _ => .of_effect ?_
  have inputs := inputsOnly_setMate s i true
  split
  · next h =>
    simp only [Bool.and_eq_true, beq_iff_eq, State.withPins_order] at h
    exact .mated inputs (setMate_lock _ _ _) h.1
  · exact .level inputs

theorem execMateReleased_acts (i : MateInput) (s : State) : Acts s (execMateReleased i s) := by
  refine Acts.ite (fun _ => .of_effect ?_) fun _ => .none
  have inputs := inputsOnly_setMate s i false
  split
  · next h => exact .parted inputs (by simpa using h)
  · exact .level inputs

theorem execLockEngaged_acts (s : State) : Acts s (execLockEngaged s) := by
  refine Acts.ite (fun _ => .none) fun _ => .of_effect ?_
  split
  · next h =>
    simp only [Bool.and_eq_true, beq_iff_eq, State.withPins_order, State.withPins_coupling] at h
    exact .lockEngages h.1 h.2
  · exact .level rfl

theorem execLockReleased_acts (s : State) : Acts s (execLockReleased s) := by
  refine Acts.ite (fun _ => .of_effect ?_) fun _ => .none
  split
  · next h =>
    simp only [Bool.and_eq_true, beq_iff_eq, State.withPins_order, State.withPins_coupling] at h
    exact .lockReleases h.1 h.2
  · exact .level rfl

theorem execSupplyGoodChange_acts (level : Bool) (s : State) : Acts s (execSupplyGoodChange level s) := by
  refine Acts.ite (fun _ => .none) fun _ => .of_effect ?_
  split
  · next h =>
    simp only [Bool.and_eq_true, Bool.not_eq_true', beq_iff_eq, State.withPins_coupling] at h
    obtain ⟨rfl, on⟩ := h
    exact .supplyDrops on
  · exact .level rfl

theorem execMakeDeadline_acts (s : State) : Acts s (execMakeDeadline s) := by
  refine Acts.ite (fun due => .of_effect ?_) fun _ => .none
  split
  · next h => exact .makeExpires due (by simpa using h)
  · next h => exact .makeLapses due (by simpa using h)

theorem execSettleDeadline_acts (s : State) : Acts s (execSettleDeadline s) := by
  refine Acts.ite (fun due => .of_effect ?_) fun _ => .none
  split
  · next h => exact .settles due h
  · exact .settleFails due

/-! #### The plug line -/

theorem State.receiving_of_foreignFrame {s : State} {f : WireFrame} {n : Nat}
    (h : s.mayHear (arbitrationField f.kind f.key) n = true) : s.receiving = true := receiving_of_mayHear h

theorem loseLine_acts (place : LossPlace) (s : State) : Effect s (loseLine place s) := by
  cases place with
  | beforeStart =>
    by_cases h : s.receiving = true
    · simpa [loseLine, Machine.foreignEdge, h] using Effect.foreignEdge h
    · simpa [loseLine, Machine.foreignEdge, h] using Effect.noEvent
  | bit place =>
    cases flying : s.line.inFlight with
    | none => simpa [loseLine, loseArbitration, flying] using Effect.noEvent
    | some i =>
      by_cases h : i.losesAt place = true
      · simpa [loseLine, loseArbitration, flying, h] using
          Effect.arbitrationLost (i.wire.bits.take place ++ [false]) flying
      · simpa [loseLine, loseArbitration, flying, h] using Effect.noEvent

theorem execBitError_acts (cause : BitErrorCause) (s : State) : Acts s (execBitError cause s) := by
  unfold execBitError
  split
  · next i flying => exact Acts.ite (fun _ => .of_effect (.bitError cause flying)) fun _ => .none
  · exact .none

theorem execAttemptSuccess_acts (s : State) : Acts s (execAttemptSuccess s) := by
  unfold execAttemptSuccess
  split
  · next i flying => exact .of_effect (.sent flying)
  · exact .none

theorem execReceiveError_acts (cause : ReceiveErrorCause) (s : State) : Acts s (execReceiveError cause s) := by
  refine Acts.ite (fun h => .of_effect (.receiveError cause ?_)) fun _ => .none
  rw [Bool.and_eq_true] at h
  exact receiving_of_mayHear h.1

theorem execStuckDominant_acts (s : State) : Acts s (execStuckDominant s) := by
  refine Acts.ite (fun enabled => .of_effect ?_) fun _ => .none
  split
  · next h => exact .stuckAgain enabled h
  · next h => exact .stuckEnters enabled (by simpa using h)

theorem execStuckMarkClear_acts (s : State) : Acts s (execStuckMarkClear s) := by
  refine Acts.ite (fun h => .of_effect (.lineIdles ?_)) fun _ => .none
  rw [Bool.and_eq_true] at h
  exact h.1

theorem execForeignFrame_acts (f : WireFrame) (s : State) : Acts s (execForeignFrame f s) := by
  refine Acts.ite (fun _ => .of_effect ?_) fun _ => .none
  split
  · next h => exact .foreign (receiving_of_mayHear h)
  · exact .framePasses

theorem receiveFrame_acts (f : RxFrame) (s : State) : Effect s (receiveFrame f s) := by
  cases h : s.hears f with
  | false => rw [receiveFrame_deaf h]; exact .framePasses
  | true =>
    rw [receiveFrame_hears h]
    split
    · next form => exact .received (receiving_of_mayHear h) form
    · exact .foreign (receiving_of_mayHear h)

/-! #### The tool deadlines -/

theorem execClaimDeadline_acts (slot : Nat) (s : State) : Acts s (execClaimDeadline slot s) := by
  unfold execClaimDeadline
  split
  · next e entry => exact Acts.ite (fun due => .of_effect (.claimExpires entry due)) fun _ => .none
  · exact .none

theorem execSilenceDeadline_acts (slot : Nat) (s : State) : Acts s (execSilenceDeadline slot s) := by
  unfold execSilenceDeadline
  split
  · next e entry => exact Acts.ite (fun due => .of_effect (.silenceExpires entry due)) fun _ => .none
  · exact .none

theorem execLossDeadline_acts (slot : Nat) (s : State) : Acts s (execLossDeadline slot s) := by
  unfold execLossDeadline
  split
  · next e entry => exact Acts.ite (fun due => .of_effect (.lossExpires entry due)) fun _ => .none
  · exact .none

theorem execProbeWindowEnd_acts (n : Name) (s : State) : Acts s (execProbeWindowEnd n s) := by
  unfold execProbeWindowEnd
  split
  · exact Acts.ite (fun _ => .of_effect (.probeWindowEnds n)) fun _ => .none
  · exact .none

theorem execObjectionWindowEnd_acts (x : Identity) (s : State) : Acts s (execObjectionWindowEnd x s) := by
  unfold execObjectionWindowEnd
  split
  · exact Acts.ite (fun _ => .of_effect (.objectionWindowEnds x)) fun _ => .none
  · exact .none

theorem execHoldDeadline_acts (x : Identity) (s : State) : Acts s (execHoldDeadline x s) := by
  unfold execHoldDeadline
  split
  · next c claim => exact Acts.ite (fun _ => .of_effect (.holdExpires claim)) fun _ => .none
  · exact .none

theorem execObjectionTicketDeadline_acts (k : Nat) (s : State) : Acts s (execObjectionTicketDeadline k s) := by
  unfold execObjectionTicketDeadline
  split
  · next b found =>
    have ticket : ∃ b ∈ s.naming.tickets, b.tag = k :=
      ⟨b, List.mem_of_find?_eq_some found, by simpa using List.find?_some found⟩
    exact Acts.ite (fun _ => .of_effect (.ticketExpires k ticket)) fun _ => .none
  · exact .none

theorem execFirstFrameDeadline_acts (s : State) : Acts s (execFirstFrameDeadline s) := by
  refine Acts.ite (fun _ => .of_effect ?_) fun _ => .none
  split
  · next h => exact .firstFrameExpires (by simpa using h)
  · exact .firstFrameLapses

theorem execQuietDeadline_acts (s : State) : Acts s (execQuietDeadline s) := by
  refine Acts.ite (fun _ => .of_effect ?_) fun _ => .none
  split
  · next h => exact .quietExpires (by simpa using h)
  · exact .quietLapses

theorem execBeatComparatorMatch_acts (s : State) : Acts s (execBeatComparatorMatch s) := by
  unfold execBeatComparatorMatch
  split
  · next v armed => exact Acts.ite (fun _ => .of_effect (.beatMatches armed)) fun _ => .none
  · exact .none

/-! #### The port commands and the orders -/

theorem execWriteOrder_acts (opcode operand offset count : Byte) (data : List Byte) (s : State) :
    Acts s (execWriteOrder opcode operand offset count data s) := by
  refine Acts.ite (fun _ => .of_effect (.reply [])) fun _ => Acts.ite (fun idle => .of_effect ?_) fun _ =>
    .of_effect (.reply [0x01])
  exact .orderWritten opcode operand offset.toNat (data.take (dataCount count)) (by simpa using idle)

theorem execRetireOrder_acts (s : State) : Acts s (execRetireOrder s) := by
  refine .of_effect ?_
  split
  · next h => exact .retired (by simpa using h)
  · exact .reply []

theorem execLatch_acts (s : State) : Acts s (execLatch s) :=
  Acts.ite (fun _ => .of_effect (.reply [0x02])) fun _ => .of_effect (.snapshotMoves [0x00] _)

theorem execReadChange_acts (s : State) : Acts s (execReadChange s) := by
  unfold execReadChange
  split
  · next r rest queue => exact .of_effect (.changeRead queue)
  · exact .of_effect (.reply _)

theorem execTake_acts (s : State) : Acts s (execTake s) := by
  unfold execTake
  split
  · next n choice => exact .of_effect (.taken choice)
  · exact .of_effect (.reply _)

theorem doneHighest_acts (s : State) : Effect s (doneHighest s) := by
  unfold doneHighest
  split
  · next n best => exact .finished (highest_spec best).1
  · exact .reply _

theorem execDone_acts (name : Byte) (s : State) : Acts s (execDone name s) := by
  refine Acts.ite (fun _ => .of_effect (doneHighest_acts s)) fun _ => Acts.ite (fun h => .of_effect (.finished ?_)) fun _ =>
    .of_effect (.reply _)
  simpa using h

theorem execSetMask_acts (mask : BitVec 64) (s : State) : Acts s (execSetMask mask s) :=
  Acts.ite (fun _ => .of_effect (.maskSet mask)) fun _ => .of_effect (.reply [0x06])

theorem execUnknownCommand_acts (command : Byte) (s : State) : Acts s (execUnknownCommand command s) :=
  Acts.ite (fun _ => .none) fun _ => .of_effect (.reply [])

/-- A START ORDER acts if its order does where it begins. -/
theorem startOrder_acts {opcode : Byte} {order : State → State} {s : State}
    (begins : s.order.state = .idle → s.order.opcode = opcode →
      Effect s (clockOut s [0x00] (close (order (beginOrder s))))) :
    Acts s (.next (startOrder opcode order s)) := by
  refine .of_effect ?_
  unfold startOrder
  split
  · next idle =>
    split
    · next same => exact begins (by simpa using idle) same
    · exact .noEvent
  · exact .reply [0x01]

/-- An order in its phase, or one refused with PHASE. -/
theorem inPhase_acts {p : Phase} {order : State → State} {s : State} (idle : s.order.state = .idle)
    (runs : s.order.phase = p → Effect s (clockOut s [0x00] (close (order (beginOrder s))))) :
    Effect s (clockOut s [0x00] (close (inPhase p order (beginOrder s)))) := by
  unfold inPhase
  split
  · next h => exact runs (by simpa [beginOrder] using h)
  · exact .orderRejected .phase idle

theorem execUnknownOpcode_acts (s : State) : Acts s (execUnknownOpcode s) := by
  refine Acts.ite (fun _ => .of_effect ?_) fun _ => startOrder_acts fun idle _ => .orderRejected .unknownOp idle
  split
  · exact .noEvent
  · exact .reply [0x01]

theorem execStartOrderBusy_acts (s : State) : Acts s (execStartOrderBusy s) :=
  Acts.ite (fun _ => .none) fun _ => .of_effect (.reply [0x01])

/-- Every command but a reset answers a next state by one of the effects. -/
theorem exec_acts (c : Instr) (s : State) (hreset : c ≠ .reset) (hrestart : c ≠ .restart) : Acts s (exec c s) := by
  cases c with
  | reset => exact absurd rfl hreset
  | mateAsserted i => exact execMateAsserted_acts i s
  | mateReleased i => exact execMateReleased_acts i s
  | lockEngaged => exact execLockEngaged_acts s
  | lockReleased => exact execLockReleased_acts s
  | supplyGoodChange level => exact execSupplyGoodChange_acts level s
  | makeDeadline => exact execMakeDeadline_acts s
  | breakDeadline => exact Acts.ite (fun due => .of_effect (.breakExpires due)) fun _ => .none
  | settleDeadline => exact execSettleDeadline_acts s
  | holdLimitDeadline => exact Acts.ite (fun due => .of_effect (.holdLimitExpires due)) fun _ => .none
  | lineIdle => exact Acts.ite (fun receiving => .of_effect (.lineIdles receiving)) fun _ => .none
  | transmitAttempt => exact Acts.ite (fun may => .of_effect (.attemptBegins may)) fun _ => .none
  | arbitrationLoss place => exact .of_effect (loseLine_acts place s)
  | bitError cause => exact execBitError_acts cause s
  | attemptSuccess => exact execAttemptSuccess_acts s
  | receiveError cause => exact execReceiveError_acts cause s
  | stuckDominant => exact execStuckDominant_acts s
  | stuckMarkClear => exact execStuckMarkClear_acts s
  | foreignFrame f => exact execForeignFrame_acts f s
  | malformedFrame f => exact .of_effect (receiveFrame_acts f s)
  | announceReceived key path revision wish => exact .of_effect (receiveFrame_acts ⟨key, .announce path revision wish⟩ s)
  | beatReceived key sequence window => exact .of_effect (receiveFrame_acts ⟨key, .beat sequence window⟩ s)
  | releaseReceived key holder => exact .of_effect (receiveFrame_acts ⟨key, .release holder⟩ s)
  | recallReceived key reason => exact .of_effect (receiveFrame_acts ⟨key, .recall reason⟩ s)
  | probeOfArmEnd key => exact .of_effect (receiveFrame_acts ⟨key, .probe 0⟩ s)
  | probeReceived key target => exact .of_effect (receiveFrame_acts ⟨key, .probe target⟩ s)
  | claimReceived key name tryCount => exact .of_effect (receiveFrame_acts ⟨key, .claim name tryCount⟩ s)
  | objectReceived key claimant name reason counter =>
    exact .of_effect (receiveFrame_acts ⟨key, .object claimant name reason counter⟩ s)
  | holdReceived key holder => exact .of_effect (receiveFrame_acts ⟨key, .hold holder⟩ s)
  | callReceived key cause => exact .of_effect (receiveFrame_acts ⟨key, .call cause⟩ s)
  | claimDeadline slot => exact execClaimDeadline_acts slot s
  | silenceDeadline slot => exact execSilenceDeadline_acts slot s
  | lossDeadline slot => exact execLossDeadline_acts slot s
  | probeWindowEnd name => exact execProbeWindowEnd_acts name s
  | objectionWindowEnd claimant => exact execObjectionWindowEnd_acts claimant s
  | holdDeadline claimant => exact execHoldDeadline_acts claimant s
  | objectionTicketDeadline ticket => exact execObjectionTicketDeadline_acts ticket s
  | firstFrameDeadline => exact execFirstFrameDeadline_acts s
  | quietDeadline => exact execQuietDeadline_acts s
  | censusDeadline => exact Acts.ite (fun _ => .of_effect .censusExpires) fun _ => .none
  | pingProbeWindow => exact Acts.ite (fun _ => .of_effect .pingWindowEnds) fun _ => .none
  | beatComparatorMatch => exact execBeatComparatorMatch_acts s
  | readStatus => exact .of_effect (.reply _)
  | readNotices => exact .of_effect (.noticesRead _)
  | clearNotices selection => exact .of_effect (.noticesCleared selection)
  | writeOrder opcode operand offset count data => exact execWriteOrder_acts opcode operand offset count data s
  | readOrder => exact .of_effect (.reply _)
  | retireOrder => exact execRetireOrder_acts s
  | setup => exact startOrder_acts fun idle opcode => inPhase_acts idle fun phase => .orderSetup idle opcode phase
  | plan => exact startOrder_acts fun idle opcode => inPhase_acts idle fun phase => .orderPlan idle opcode phase
  | clearPlan => exact startOrder_acts fun idle opcode => inPhase_acts idle fun phase => .orderClearPlan idle opcode phase
  | go => exact startOrder_acts fun idle opcode => inPhase_acts idle fun phase => .orderGo idle opcode phase
  | park => exact startOrder_acts fun idle opcode => inPhase_acts idle fun phase => .orderPark idle opcode phase
  | unpark => exact startOrder_acts fun idle opcode => inPhase_acts idle fun phase => .orderUnpark idle opcode phase
  | ping => exact startOrder_acts fun idle opcode => inPhase_acts idle fun phase => .orderPing idle opcode phase
  | forget => exact startOrder_acts fun idle opcode => inPhase_acts idle fun phase => .orderForget idle opcode phase
  | unknownOpcode => exact execUnknownOpcode_acts s
  | latch => exact execLatch_acts s
  | readSnapshot slot => exact .of_effect (.reply _)
  | release => exact .of_effect (.snapshotMoves [] _)
  | readChange => exact execReadChange_acts s
  | take => exact execTake_acts s
  | done name => exact execDone_acts name s
  | done0 => exact .of_effect (doneHighest_acts s)
  | setMask mask => exact execSetMask_acts mask s
  | restart => exact absurd rfl hrestart
  | unknownCommand command => exact execUnknownCommand_acts command s
  | startOrderBusy => exact execStartOrderBusy_acts s
  | _ => exact startOrder_acts fun idle opcode => inPhase_acts idle fun phase => .orderRecall idle opcode phase

/-! ### Invariants -/

/-- Nothing differs but the time base's count, the queue of commands and the counter of free choices. -/
def SameBlocks (s t : State) : Prop :=
  t = { s with time := { s.time with now := t.time.now }, draws := t.draws, pending := t.pending }

/-- A step counts on, queues an event, resets the part, or has one of the effects. -/
theorem step_cases {s t : State} (h : step s = .next t) :
    SameBlocks s t ∨ ∃ u, SameBlocks s u ∧ (t = resetPart u ∨ t = clockOut u [] (resetPart u) ∨ Effect u t) := by
  cases queue : s.pending with
  | nil =>
    rw [step_of_empty queue, Host.Outcome.next.injEq] at h
    subst h
    left
    by_cases due : s.dueCommands = []
    · rw [idleStep_of_nothing_due due]; rfl
    · obtain ⟨c, _, d, idle⟩ := idleStep_of_due due
      rw [idle]; rfl
  | cons c rest =>
    rw [step_of_pending queue] at h
    refine .inr ⟨{ s with pending := rest }, rfl, ?_⟩
    by_cases hreset : c = .reset
    · subst hreset
      exact .inl (Host.Outcome.next.inj h).symm
    by_cases hrestart : c = .restart
    · subst hrestart
      exact .inr (.inl (Host.Outcome.next.inj h).symm)
    · obtain ⟨u, hu, effect⟩ := exec_acts c { s with pending := rest } hreset hrestart
      rw [hu, Host.Outcome.next.injEq] at h
      exact .inr (.inr (h ▸ effect))

/-- An invariant P under premises Q: Q looks at the blocks alone and implies P, P holds after a reset, and every effect leads
from Q to P. -/
theorem step_keeps {Q P : State → Prop} (blocks : ∀ s t, SameBlocks s t → Q s → Q t) (now : ∀ s, Q s → P s)
    (reset : ∀ s, P (resetPart s)) (restart : ∀ s, P (clockOut s [] (resetPart s)))
    (effect : ∀ s t, Q s → Effect s t → P t) {s t : State} (hs : Q s) (h : step s = .next t) : P t := by
  rcases step_cases h with same | ⟨u, same, rfl | rfl | act⟩
  · exact now t (blocks s t same hs)
  · exact reset u
  · exact restart u
  · exact effect u t (blocks s u same hs) act

end Sys2Proof.Machine

/-! The queue, the own clock and reset (00, 03 sections 3.1 and 3.2, 10 section 10.6). -/

namespace Sys2Proof.Machine

/-! ### The queue and the own clock -/

/-- Settles O1: the front of the queue decides the step. -/
theorem stepRunsFrontCommand : Obligations.StepRunsFrontCommand :=
  fun _ _ _ => step_of_pending

theorem ownEvent_of_mem_couplingDue {s : State} {c : Instr} (h : c ∈ s.couplingDue) : OwnEvent s c := by
  simp only [State.couplingDue, List.mem_append, mem_ifDue, due_iff_reached] at h
  rcases h with ((⟨due, rfl⟩ | ⟨due, rfl⟩) | ⟨due, rfl⟩) | ⟨due, rfl⟩ <;> exact due

theorem ownEvent_of_mem_rosterDue {s : State} {c : Instr} (h : c ∈ s.rosterDue) : OwnEvent s c := by
  simp only [State.rosterDue, List.mem_append, List.mem_flatMap, mem_ifDue, toolDue_iff_reached] at h
  rcases h with ⟨e, he, (⟨due, rfl⟩ | ⟨due, rfl⟩) | ⟨due, rfl⟩⟩ | ⟨a, ha, due, rfl⟩
  · exact ⟨e, he, rfl, due⟩
  · exact ⟨e, he, rfl, due⟩
  · exact ⟨e, he, rfl, due⟩
  · exact ⟨a, ha, rfl, due⟩

theorem ownEvent_of_mem_namingDue {s : State} {c : Instr} (h : c ∈ s.namingDue) : OwnEvent s c := by
  simp only [State.namingDue, List.mem_append, List.mem_flatMap, mem_ifDue, toolDue_iff_reached, Bool.and_eq_true,
    Bool.not_eq_true'] at h
  rcases h with ⟨k, hk, ⟨⟨unended, due⟩, rfl⟩ | ⟨due, rfl⟩⟩ | ⟨k, hk, due, rfl⟩
  · exact ⟨k, hk, rfl, unended, due⟩
  · exact ⟨k, hk, rfl, due⟩
  · exact ⟨k, hk, rfl, due⟩

theorem ownEvent_of_mem_otherDue {s : State} {c : Instr} (h : c ∈ s.otherDue) : OwnEvent s c := by
  simp only [State.otherDue, List.mem_append, mem_ifDue, toolDue_iff_reached] at h
  rcases h with (((⟨due, rfl⟩ | ⟨due, rfl⟩) | ⟨due, rfl⟩) | ⟨due, rfl⟩) | ⟨due, rfl⟩ <;> exact due

/-- An attempt may begin on the five conditions of R9. -/
theorem State.mayTransmit_iff {s : State} : s.mayTransmit = true ↔
    s.line.enabled = true ∧ s.line.fault = false ∧ s.line.recessive8 = true ∧ s.line.inFlight = none
      ∧ s.line.txList ≠ [] := by
  simp [State.mayTransmit, and_assoc]

theorem mem_dueCommands {s : State} {c : Instr} : c ∈ s.dueCommands ↔
    c ∈ s.couplingDue ∨ c ∈ s.rosterDue ∨ c ∈ s.namingDue ∨ c ∈ s.otherDue
      ∨ s.mayTransmit = true ∧ c = .transmitAttempt := by
  simp only [State.dueCommands, List.mem_append, mem_ifDue, or_assoc]

theorem mem_dueCommands_of_ownEvent {s : State} {c : Instr} (h : OwnEvent s c) : c ∈ s.dueCommands := by
  rw [mem_dueCommands]
  cases c with
  | makeDeadline => exact .inl (by simp [State.couplingDue, due_iff_reached.mpr h])
  | breakDeadline => exact .inl (by simp [State.couplingDue, due_iff_reached.mpr h])
  | settleDeadline => exact .inl (by simp [State.couplingDue, due_iff_reached.mpr h])
  | holdLimitDeadline => exact .inl (by simp [State.couplingDue, due_iff_reached.mpr h])
  | claimDeadline k =>
    obtain ⟨e, he, rfl, due⟩ := h
    exact .inr (.inl (List.mem_append_left _ (List.mem_flatMap.mpr ⟨e, he, by simp [toolDue_iff_reached.mpr due]⟩)))
  | silenceDeadline k =>
    obtain ⟨e, he, rfl, due⟩ := h
    exact .inr (.inl (List.mem_append_left _ (List.mem_flatMap.mpr ⟨e, he, by simp [toolDue_iff_reached.mpr due]⟩)))
  | lossDeadline k =>
    obtain ⟨e, he, rfl, due⟩ := h
    exact .inr (.inl (List.mem_append_left _ (List.mem_flatMap.mpr ⟨e, he, by simp [toolDue_iff_reached.mpr due]⟩)))
  | probeWindowEnd n =>
    obtain ⟨a, ha, rfl, due⟩ := h
    exact .inr (.inl (List.mem_append_right _ (List.mem_flatMap.mpr ⟨a, ha, by simp [toolDue_iff_reached.mpr due]⟩)))
  | objectionWindowEnd x =>
    obtain ⟨k, hk, rfl, unended, due⟩ := h
    exact .inr (.inr (.inl (List.mem_append_left _
      (List.mem_flatMap.mpr ⟨k, hk, by simp [unended, toolDue_iff_reached.mpr due]⟩))))
  | holdDeadline x =>
    obtain ⟨k, hk, rfl, due⟩ := h
    exact .inr (.inr (.inl (List.mem_append_left _
      (List.mem_flatMap.mpr ⟨k, hk, by simp [toolDue_iff_reached.mpr due]⟩))))
  | objectionTicketDeadline k =>
    obtain ⟨b, hb, rfl, due⟩ := h
    exact .inr (.inr (.inl (List.mem_append_right _
      (List.mem_flatMap.mpr ⟨b, hb, by simp [toolDue_iff_reached.mpr due]⟩))))
  | firstFrameDeadline => exact .inr (.inr (.inr (.inl (by simp [State.otherDue, toolDue_iff_reached.mpr h]))))
  | quietDeadline => exact .inr (.inr (.inr (.inl (by simp [State.otherDue, toolDue_iff_reached.mpr h]))))
  | censusDeadline => exact .inr (.inr (.inr (.inl (by simp [State.otherDue, toolDue_iff_reached.mpr h]))))
  | pingProbeWindow => exact .inr (.inr (.inr (.inl (by simp [State.otherDue, toolDue_iff_reached.mpr h]))))
  | beatComparatorMatch => exact .inr (.inr (.inr (.inl (by simp [State.otherDue, toolDue_iff_reached.mpr h]))))
  | transmitAttempt => exact .inr (.inr (.inr (.inr ⟨State.mayTransmit_iff.mpr h, rfl⟩)))
  | _ => exact h.elim

/-- The due deadlines of 03 Table 1 and the attempt of R9. -/
theorem mem_dueCommands_iff {s : State} {c : Instr} : c ∈ s.dueCommands ↔ OwnEvent s c := by
  refine ⟨fun h => ?_, mem_dueCommands_of_ownEvent⟩
  rcases mem_dueCommands.mp h with h | h | h | h | ⟨may, rfl⟩
  · exact ownEvent_of_mem_couplingDue h
  · exact ownEvent_of_mem_rosterDue h
  · exact ownEvent_of_mem_namingDue h
  · exact ownEvent_of_mem_otherDue h
  · exact State.mayTransmit_iff.mp may

/-- Settles O2: the idle step by what is due, and what is due by `mem_dueCommands_iff`. -/
theorem emptyQueueStep : Obligations.EmptyQueueStep := by
  unfold Obligations.EmptyQueueStep
  refine ⟨fun s queue => ⟨fun due => ?_, fun due => ?_⟩, fun s c => mem_dueCommands_iff⟩
  · rw [step_of_empty queue, idleStep_of_nothing_due due]
    rfl
  · obtain ⟨c, hc, d, idle⟩ := idleStep_of_due due
    exact ⟨c, hc, d, by rw [step_of_empty queue, idle]⟩

/-! ### The freeze and the tool deadlines (R45) -/

theorem toolDue_of_frozen {s : State} (h : s.time.frozen = true) (d : Option Time) : s.toolDue d = false := by
  simp [State.toolDue, h]

/-- A choice on a tool deadline that waits in a freeze leaves the state. -/
theorem ite_toolDue_of_frozen {s : State} (h : s.time.frozen = true) (d : Option Time) (r q : Result) :
    (if s.toolDue d then r else q) = q := by
  simp [toolDue_of_frozen h]

/-- Settles O3: a tool deadline is not due in a freeze (`toolDue_of_frozen`), so neither is its event nor does its command act. -/
theorem toolDeadlinesWaitInFreeze : Obligations.ToolDeadlinesWaitInFreeze := by
  unfold Obligations.ToolDeadlinesWaitInFreeze
  intro s frozen
  have waits := ite_toolDue_of_frozen frozen
  refine ⟨fun c hc => ?due, fun slot => ⟨?claim, ?silence, ?loss⟩, fun n x k => ⟨?probe, ?window, ?hold, ?ticket⟩,
    waits _ _ _, waits _ _ _, waits _ _ _, waits _ _ _, ?beat⟩
  case due =>
    have own := mem_dueCommands_iff.mp hc
    have free : s.time.frozen ≠ false := by simp [frozen]
    cases c with
    | makeDeadline => simp
    | breakDeadline => simp
    | settleDeadline => simp
    | holdLimitDeadline => simp
    | transmitAttempt => simp
    | claimDeadline k => obtain ⟨_, _, _, unfrozen, _⟩ := own; exact absurd unfrozen free
    | silenceDeadline k => obtain ⟨_, _, _, unfrozen, _⟩ := own; exact absurd unfrozen free
    | lossDeadline k => obtain ⟨_, _, _, unfrozen, _⟩ := own; exact absurd unfrozen free
    | probeWindowEnd n => obtain ⟨_, _, _, unfrozen, _⟩ := own; exact absurd unfrozen free
    | objectionWindowEnd x => obtain ⟨_, _, _, _, unfrozen, _⟩ := own; exact absurd unfrozen free
    | holdDeadline x => obtain ⟨_, _, _, unfrozen, _⟩ := own; exact absurd unfrozen free
    | objectionTicketDeadline k => obtain ⟨_, _, _, unfrozen, _⟩ := own; exact absurd unfrozen free
    | firstFrameDeadline => exact absurd own.1 free
    | quietDeadline => exact absurd own.1 free
    | censusDeadline => exact absurd own.1 free
    | pingProbeWindow => exact absurd own.1 free
    | beatComparatorMatch => exact absurd own.1 free
    | _ => exact own.elim
  case claim => simp only [exec, execClaimDeadline, waits]; split <;> rfl
  case silence => simp only [exec, execSilenceDeadline, waits]; split <;> rfl
  case loss => simp only [exec, execLossDeadline, waits]; split <;> rfl
  case probe => simp only [exec, execProbeWindowEnd, waits]; split <;> rfl
  case window => simp only [exec, execObjectionWindowEnd, toolDue_of_frozen frozen, Bool.and_false]; split <;> rfl
  case hold => simp only [exec, execHoldDeadline, waits]; split <;> rfl
  case ticket => simp only [exec, execObjectionTicketDeadline, waits]; split <;> rfl
  case beat => simp only [exec, execBeatComparatorMatch, waits]; split <;> rfl

/-! ### Every command completes -/

theorem Effect.keeps_queue {s t : State} (h : Effect s t) :
    t.pending = s.pending ∧ t.draws = s.draws ∧ t.time.now = s.time.now := by
  cases h with
  | lossExpires entry due => split <;> simp
  | _ => simp

/-- Settles O4: a reset is written out, and every other command has one of the effects, which keep the queue and the time. -/
theorem everyCommandCompletes : Obligations.EveryCommandCompletes := by
  have completes (c : Instr) (s : State) : ∃ t, exec c s = .next t ∧ t.pending = s.pending ∧ t.draws = s.draws
      ∧ t.time.now = if c = .reset ∨ c = .restart then 0 else s.time.now := by
    by_cases hreset : c = .reset
    · subst hreset
      exact ⟨_, rfl, rfl, rfl, by simp [resetPart, State.reset, TimeBase.reset]⟩
    by_cases hrestart : c = .restart
    · subst hrestart
      exact ⟨_, rfl, rfl, rfl, by simp [resetPart, State.reset, TimeBase.reset]⟩
    · obtain ⟨t, ht, act⟩ := exec_acts c s hreset hrestart
      obtain ⟨pending, draws, now⟩ := act.keeps_queue
      exact ⟨t, ht, pending, draws, by simp [hreset, hrestart, now]⟩
  constructor
  · intro c s
    obtain ⟨t, ht, pending, draws, _⟩ := completes c s
    exact ⟨t, ht, pending, draws⟩
  · intro c s
    obtain ⟨t, ht, _, _, now⟩ := completes c s
    exact ⟨t, ht, now⟩

/-! ### Reset -/

/-- Settles O5: the reset values are definitions, and both resets are `resetPart`. -/
theorem resetLeavesItsValues : Obligations.ResetLeavesItsValues := by
  unfold Obligations.ResetLeavesItsValues
  exact ⟨by decide, fun s => ⟨resetPart s, rfl, rfl, rfl, rfl, rfl⟩⟩

/-- Every block is at its reset values (R180); the input levels, SDO, the queue and the free choices may be any. -/
structure IsReset (s : State) : Prop where
  supplyEn : s.pins.supplyEn = false
  attn : s.pins.attn = false
  time : s.time = .reset
  line : s.line = .reset
  coupling : s.coupling = .reset
  roster : s.roster = .reset
  naming : s.naming = .reset
  census : s.census = .reset
  service : s.service = .reset
  changes : s.changes = .reset
  notices : s.notices = .reset
  order : s.order = .reset

theorem isReset_reset : IsReset State.reset := by constructor <;> rfl

theorem isReset_resetPart (s : State) : IsReset (resetPart s) := by constructor <;> rfl

theorem isReset_restart (s : State) : IsReset (clockOut s [] (resetPart s)) := by constructor <;> rfl

namespace IsReset

variable {s : State}

theorem noticesAgree (h : IsReset s) : NoticesAgree s := by
  simp [NoticesAgree, LevelsFollow, h.attn, h.notices, h.changes, h.order, Notices.reset, Changes.reset, Order.reset,
    State.serviceCondition, State.openRequests, h.service, Service.reset, attnAsserted, Order.enables]

theorem lineAgrees (h : IsReset s) : LineAgrees s := by
  simp [LineAgrees, h.line, Line.reset, State.enableCondition, h.coupling, Coupling.reset]

theorem faultFollowsCount (h : IsReset s) : FaultFollowsCount s := by
  simp [FaultFollowsCount, h.line, Line.reset, Config.faultEntry]

theorem countsBounded (h : IsReset s) : CountsBounded s := by
  simp [CountsBounded, h.line, h.changes, h.roster, h.naming, h.order, Line.reset, Changes.reset, Roster.reset,
    Naming.reset, Order.reset, Config.dataBytes]

theorem txListOk (h : IsReset s) : TxListOk s := by
  simp [TxListOk, h.line, Line.reset]

theorem rosterOk (h : IsReset s) : RosterOk s := by
  simp [RosterOk, h.roster, Roster.reset]

theorem claimsInStep (h : IsReset s) : ClaimsInStep s := by
  simp [ClaimsInStep, h.roster, h.naming, Roster.reset, Naming.reset]

theorem supplyAgrees (h : IsReset s) : SupplyAgrees s := by
  simp [SupplyAgrees, ToolEmpty, h.supplyEn, h.time, h.line, h.coupling, h.roster, h.naming, h.census, h.service, h.order,
    TimeBase.reset, Line.reset, Coupling.reset, Naming.reset, Census.reset, Service.reset, Order.reset,
    CensusState.lineActive]

theorem couplingAgrees (h : IsReset s) : CouplingAgrees s := by
  simp [CouplingAgrees, h.coupling, h.time, Coupling.reset, TimeBase.reset]

theorem censusAgrees (h : IsReset s) : CensusAgrees s := by
  simp [CensusAgrees, State.quietCondition, State.seekers, h.roster, h.naming, h.census, Roster.reset, Naming.reset,
    Census.reset]

theorem serviceAgrees (h : IsReset s) : ServiceAgrees s := by
  simp [ServiceAgrees, h.service, Service.reset, Config.lastName]

theorem orderAgrees (h : IsReset s) : OrderAgrees s := by
  simp [OrderAgrees, State.recallRunning, State.pingRunning, h.order, h.line, Order.reset, Line.reset]

theorem txArrivalOk (h : IsReset s) : TxArrivalOk s := by
  simp [TxArrivalOk, h.line, Line.reset]

theorem ticketsAgree (h : IsReset s) : TicketsAgree s := by
  simp [TicketsAgree, h.naming, Naming.reset]

theorem askedOk (h : IsReset s) : AskedOk s := by
  simp [AskedOk, h.roster, Roster.reset]

theorem stagesOk (h : IsReset s) : StagesOk s := by
  simp [StagesOk, h.roster, Roster.reset]

end IsReset

/-- Settles O6: each invariant by its lemma about the reset state. -/
theorem invariantsHoldAtReset : Obligations.InvariantsHoldAtReset :=
  have h := isReset_reset
  ⟨h.noticesAgree, h.lineAgrees, h.faultFollowsCount, h.countsBounded, h.txListOk, h.rosterOk, h.claimsInStep,
    h.supplyAgrees, h.couplingAgrees, h.censusAgrees, h.serviceAgrees, h.orderAgrees, h.txArrivalOk, h.ticketsAgree,
    h.askedOk, h.stagesOk⟩

/-- An invariant of the blocks that holds at reset and that every effect keeps is kept by every step; Q adds premises. -/
theorem invariant_of_effects {Q P : State → Prop} (blocks : ∀ s t, SameBlocks s t → Q s → Q t) (now : ∀ s, Q s → P s)
    (reset : ∀ s, IsReset s → P s) (effect : ∀ s t, Q s → Effect s t → P t) {s t : State} (hs : Q s)
    (h : step s = .next t) : P t :=
  step_keeps blocks now (fun s => reset _ (isReset_resetPart s)) (fun s => reset _ (isReset_restart s)) effect hs h

end Sys2Proof.Machine

/-! The notices and ATTN (09 sections 9.3 to 9.5): the level flags follow at the close of an event, and a seen mark stands only
on a set flag (R163, R165, R167). -/

namespace Sys2Proof.Machine

/-! ### The levels at the close of an event -/

@[simp] theorem serviceCondition_refreshNotices (s : State) : (refreshNotices s).serviceCondition = s.serviceCondition :=
  serviceCondition_congr (by simp) (by simp)

theorem levelsFollow_refreshNotices (s : State) : LevelsFollow (refreshNotices s) :=
  ⟨by simp, by simp, by simp, by simp⟩

theorem levelsFollow_close (s : State) : LevelsFollow (close s) := levelsFollow_refreshNotices (testQuiet s)

/-- The levels look at the roster, the service unit, the change queue, the order's state and enables, the flags and ATTN. -/
theorem LevelsFollow.congr {s t : State} (h : LevelsFollow s) (roster : t.roster = s.roster)
    (service : t.service = s.service) (changes : t.changes = s.changes) (notices : t.notices.bits = s.notices.bits)
    (levels : t.notices.changes = s.notices.changes ∧ t.notices.service = s.notices.service
      ∧ t.notices.order = s.notices.order)
    (state : t.order.state = s.order.state) (setup : t.order.setup = s.order.setup) (attn : t.pins.attn = s.pins.attn) :
    LevelsFollow t := by
  obtain ⟨hchanges, hservice, horder, hattn⟩ := h
  obtain ⟨eqChanges, eqService, eqOrder⟩ := levels
  refine ⟨?_, ?_, ?_, ?_⟩
  · rw [eqChanges, hchanges, changes]
  · rw [eqService, hservice, serviceCondition_congr roster service]
  · rw [eqOrder, horder, state]
  · have enables : t.order.enables = s.order.enables := by simp only [Order.enables, setup]
    rw [attn, hattn, attnAsserted, attnAsserted, notices, enables]

/-- A reply changes nothing the levels look at. -/
theorem LevelsFollow.clockOut {s before : State} {bytes : List Byte} (h : LevelsFollow s) :
    LevelsFollow (clockOut before bytes s) :=
  h.congr (by simp) (by simp) (by simp) (by simp) (by simp) (by simp) (by simp) (by simp)

/-- Every effect leaves the levels following. -/
theorem Effect.levelsFollow {s t : State} (h : Effect s t) (hs : LevelsFollow s) : LevelsFollow t := by
  cases h with
  | noEvent => exact hs
  | framePasses => exact hs.congr (by simp) (by simp) (by simp) (by simp) (by simp) (by simp) (by simp) (by simp)
  | noticesRead bytes =>
    exact LevelsFollow.clockOut (hs.congr rfl rfl rfl rfl ⟨rfl, rfl, rfl⟩ rfl rfl rfl)
  | reply bytes => exact hs.clockOut
  | orderWritten opcode operand offset bytes idle =>
    exact LevelsFollow.clockOut (hs.congr rfl rfl rfl rfl ⟨rfl, rfl, rfl⟩ rfl rfl rfl)
  | snapshotMoves bytes p => exact LevelsFollow.clockOut (hs.congr rfl rfl rfl rfl ⟨rfl, rfl, rfl⟩ rfl rfl rfl)
  | noticesCleared => exact (levelsFollow_refreshNotices _).clockOut
  | retired => exact (levelsFollow_refreshNotices _).clockOut
  | changeRead => exact (levelsFollow_refreshNotices _).clockOut
  | taken => exact (levelsFollow_refreshNotices _).clockOut
  | finished => exact (levelsFollow_refreshNotices _).clockOut
  | maskSet => exact (levelsFollow_refreshNotices _).clockOut
  | orderRejected | orderSetup | orderPlan | orderClearPlan | orderGo | orderPark | orderUnpark | orderRecall | orderPing
  | orderForget => exact (levelsFollow_close _).clockOut
  | sent | foreign | received | claimExpires | lossExpires | holdExpires => exact levelsFollow_close _
  | _ => exact levelsFollow_refreshNotices _

/-! ### The seen marks -/

/-- Only a latched flag that is set is seen (R165). -/
def SeenFits (n : Notices) : Prop :=
  (n.couplingSeen → n.coupling) ∧ (n.lineSeen → n.line) ∧ (n.censusSeen → n.census)

theorem SeenFits.setCouplingFlag {s : State} (h : SeenFits s.notices) : SeenFits (setCouplingFlag s).notices := by
  obtain ⟨_, line, census⟩ := h
  exact ⟨fun _ => rfl, line, census⟩

theorem SeenFits.setLineFlag {s : State} (h : SeenFits s.notices) : SeenFits (setLineFlag s).notices := by
  obtain ⟨coupling, _, census⟩ := h
  exact ⟨coupling, fun _ => rfl, census⟩

theorem SeenFits.setCensusFlag {s : State} (h : SeenFits s.notices) : SeenFits (setCensusFlag s).notices := by
  obtain ⟨coupling, line, _⟩ := h
  exact ⟨coupling, line, fun _ => rfl⟩

theorem SeenFits.enterMaking {s : State} (h : SeenFits s.notices) : SeenFits (enterMaking s).notices :=
  SeenFits.setCouplingFlag (by simpa using h)

theorem SeenFits.enterBreaking {s : State} (h : SeenFits s.notices) : SeenFits (enterBreaking s).notices :=
  SeenFits.setCouplingFlag (by simpa using h)

theorem SeenFits.enterOpen {s : State} (h : SeenFits s.notices) : SeenFits (enterOpen s).notices := by
  unfold Machine.enterOpen
  dsimp only
  split
  · exact SeenFits.enterMaking (by simpa using h)
  · simpa using h

theorem SeenFits.matesMet {s : State} (h : SeenFits s.notices) : SeenFits (matesMet s).notices := by
  unfold Machine.matesMet
  split
  case h_1 => exact h.enterMaking
  case h_2 => simpa using h
  all_goals exact h

theorem SeenFits.mateParted {s : State} (h : SeenFits s.notices) : SeenFits (mateParted s).notices := by
  unfold Machine.mateParted
  split
  case h_1 => exact h.enterOpen
  case h_2 => exact SeenFits.enterBreaking (by simpa using h)
  case h_3 => exact h.enterBreaking
  all_goals exact h

theorem SeenFits.teardown {s : State} (h : SeenFits s.notices) : SeenFits (teardown s).notices :=
  SeenFits.enterOpen (by simpa using h)

theorem SeenFits.enterFault {s : State} (h : SeenFits s.notices) : SeenFits (enterFault s).notices := by
  unfold Machine.enterFault
  dsimp only
  have flagged := SeenFits.setLineFlag (s := s.withLine { s.line with fault := true, inFlight := none }) h
  split
  · simpa using flagged
  · exact flagged

theorem SeenFits.checkFault {s : State} (h : SeenFits s.notices) : SeenFits (checkFault s).notices := by
  unfold Machine.checkFault
  split
  · exact h.enterFault
  · exact h

theorem failAttempt_eq_checkFault (i : InFlight) (cause : BitErrorCause) (s : State) :
    ∃ u, u.notices = s.notices ∧ failAttempt i cause s = checkFault u := by
  refine ⟨_, ?_, rfl⟩
  split
  · simp
  · split
    · simp
    · simp

theorem SeenFits.failAttempt {s : State} (i : InFlight) (cause : BitErrorCause) (h : SeenFits s.notices) :
    SeenFits (failAttempt i cause s).notices := by
  obtain ⟨u, notices, eq⟩ := failAttempt_eq_checkFault i cause s
  rw [eq]
  exact SeenFits.checkFault (by rwa [notices])

theorem SeenFits.enterComplete {s : State} (h : SeenFits s.notices) : SeenFits (enterComplete s).notices :=
  SeenFits.setCensusFlag (by simpa using h)

theorem SeenFits.goOrder {s : State} (h : SeenFits s.notices) : SeenFits (goOrder s).notices := by
  unfold Machine.goOrder
  split
  · simpa using h
  · dsimp only
    split
    · simpa using SeenFits.enterMaking (s := s.withOrder { s.order with phase := .run }) (by simpa using h)
    · simpa using h

/-- A cleared flag loses its seen mark with it (R166). -/
theorem SeenFits.cleared {n : Notices} (h : SeenFits n) (selection : Byte) : SeenFits (n.cleared selection) := by
  obtain ⟨coupling, line, census⟩ := h
  refine ⟨?_, ?_, ?_⟩ <;> simp only [Notices.cleared] <;> grind

theorem SeenFits.refreshNotices {s : State} (h : SeenFits s.notices) : SeenFits (refreshNotices s).notices := h

theorem SeenFits.close {s : State} (h : SeenFits s.notices) : SeenFits (close s).notices := by
  rw [Machine.close]
  exact SeenFits.refreshNotices (by simpa using h)

/-- Every effect keeps the seen marks on set flags. -/
theorem Effect.seenFits {s t : State} (h : Effect s t) (hs : SeenFits s.notices) : SeenFits t.notices := by
  cases h with
  | mated inputs lock phase => exact SeenFits.refreshNotices (SeenFits.matesMet hs)
  | parted inputs phase => exact SeenFits.refreshNotices (SeenFits.mateParted hs)
  | breakExpires due => exact SeenFits.refreshNotices (SeenFits.teardown hs)
  | bitError cause inFlight => exact SeenFits.refreshNotices (hs.failAttempt _ cause)
  | receiveError cause receiving => exact SeenFits.refreshNotices (SeenFits.checkFault hs)
  | stuckEnters enabled fault => exact SeenFits.refreshNotices (SeenFits.enterFault hs)
  | firstFrameExpires powering => exact SeenFits.refreshNotices (SeenFits.enterComplete hs)
  | quietExpires quiet => exact SeenFits.refreshNotices (SeenFits.enterComplete hs)
  | noticesRead bytes =>
    obtain ⟨coupling, line, census⟩ := hs
    exact ⟨by simpa [or_imp] using coupling, by simpa [or_imp] using line, by simpa [or_imp] using census⟩
  | noticesCleared selection => exact hs.cleared selection
  | orderGo idle opcode phase => exact SeenFits.close (SeenFits.goOrder (s := beginOrder s) hs)
  | lossExpires entry due =>
    split <;> exact SeenFits.close (by simpa using hs)
  | _ => simpa [SeenFits] using hs

/-- Settles O7: the levels by `Effect.levelsFollow`, the seen marks by `Effect.seenFits`. -/
theorem noticesStayInAgreement : Obligations.NoticesStayInAgreement := by
  intro s t hs h
  refine invariant_of_effects (Q := NoticesAgree) ?blocks (fun _ => id) (fun _ => IsReset.noticesAgree) ?effect hs h
  case blocks =>
    rintro s t same ⟨levels, seen⟩
    rw [same]
    exact ⟨levels.congr rfl rfl rfl rfl ⟨rfl, rfl, rfl⟩ rfl rfl rfl, seen⟩
  case effect => exact fun s t ⟨levels, seen⟩ act => ⟨act.levelsFollow levels, act.seenFits seen⟩

end Sys2Proof.Machine

/-! The line interface's enable condition and its error count (01 sections 1.8 and 1.9): which operations switch the line
interface (R19), that no other moves the condition, and LINE_FAULT beside the count (R15 to R18). -/

namespace Sys2Proof.Machine

/-! ### What keeps the census line-active -/

@[simp] theorem firstGoodFrame_lineActive (s : State) :
    (firstGoodFrame s).census.state.lineActive = s.census.state.lineActive := by
  unfold firstGoodFrame
  split
  · next h => simp [beq_iff_eq.mp h, CensusState.lineActive]
  · rfl

@[simp] theorem heardReported_lineActive (s : State) :
    (heardReported s).census.state.lineActive = s.census.state.lineActive := by
  unfold heardReported
  split
  · split <;> simp_all [CensusState.lineActive]
  all_goals simp_all [CensusState.lineActive]

@[simp] theorem adoptionReported_lineActive (s : State) :
    (adoptionReported s).census.state.lineActive = s.census.state.lineActive := by
  unfold adoptionReported
  split <;> simp_all [CensusState.lineActive]

@[simp] theorem testQuiet_lineActive (s : State) :
    (testQuiet s).census.state.lineActive = s.census.state.lineActive := by
  unfold testQuiet
  split
  case h_1 h => split <;> simp [enterQuiet, h, CensusState.lineActive]
  case h_2 h => split <;> simp [enterQuiet, h, CensusState.lineActive]
  all_goals rfl

@[simp] theorem close_lineActive (s : State) : (close s).census.state.lineActive = s.census.state.lineActive := by
  simp [close]

@[simp] theorem recallCensus_lineActive (s : State) :
    (recallCensus s).census.state.lineActive = s.census.state.lineActive := by
  unfold recallCensus
  split
  · next h =>
    rw [h]
    rfl
  · rfl

@[simp] theorem censusOverrun_lineActive (s : State) :
    (censusOverrun s).census.state.lineActive = s.census.state.lineActive := by
  unfold censusOverrun
  split <;> simp_all [CensusState.lineActive]

@[simp] theorem enterComplete_lineActive (s : State) : (enterComplete s).census.state.lineActive = true := by
  simp [enterComplete, CensusState.lineActive]

@[simp] theorem entryToHeard_lineActive (x : Identity) (s : State) :
    (entryToHeard x s).census.state.lineActive = s.census.state.lineActive := by
  simp [entryToHeard]

@[simp] theorem heldToHeard_lineActive (x : Identity) (s : State) :
    (heldToHeard x s).census.state.lineActive = s.census.state.lineActive := by
  simp [heldToHeard]

@[simp] theorem createHeard_lineActive (x : Identity) (path : Name) (revision : Byte) (s : State) :
    (createHeard x path revision s).census.state.lineActive = s.census.state.lineActive := by
  unfold createHeard
  split <;> simp

@[simp] theorem restartEntry_lineActive (e : Entry) (f : Entry → Entry) (s : State) :
    (restartEntry e f s).census.state.lineActive = s.census.state.lineActive := by
  simp [restartEntry]

@[simp] theorem returnEntry_lineActive (e : Entry) (f : Entry → Entry) (s : State) :
    (returnEntry e f s).census.state.lineActive = s.census.state.lineActive := by
  simp [returnEntry]

@[simp] theorem demoteEntry_lineActive (e : Entry) (n : Name) (detail : Nat) (s : State) :
    (demoteEntry e n detail s).census.state.lineActive = s.census.state.lineActive := by
  simp [demoteEntry]

@[simp] theorem takeClaim_lineActive (x : Identity) (n : Name) (s : State) :
    (takeClaim x n s).census.state.lineActive = s.census.state.lineActive := by
  unfold takeClaim
  split
  · simp
  · dsimp only
    split
    case h_5 => split <;> simp
    all_goals simp

@[simp] theorem heardConflict_lineActive (x : Identity) (d : Name) (s : State) :
    (heardConflict x d s).census.state.lineActive = s.census.state.lineActive := by
  unfold heardConflict
  split
  · split <;> simp
  · rfl

@[simp] theorem takeObject_lineActive (x : Identity) (d : Name) (reason : Nat) (s : State) :
    (takeObject x d reason s).census.state.lineActive = s.census.state.lineActive := by
  unfold takeObject
  dsimp only
  split <;> split <;> simp

@[simp] theorem adopted_lineActive (x : Identity) (n : Name) (s : State) :
    (adopted x n s).census.state.lineActive = s.census.state.lineActive := by
  simp [adopted]

@[simp] theorem adoptHold_lineActive (x : Identity) (n : Name) (s : State) :
    (adoptHold x n s).census.state.lineActive = s.census.state.lineActive := by
  unfold adoptHold
  split
  · simp
  · split <;> simp

@[simp] theorem conflictHold_lineActive (x : Identity) (n : Name) (s : State) :
    (conflictHold x n s).census.state.lineActive = s.census.state.lineActive := by
  unfold conflictHold
  dsimp only
  split
  · simp
  · split <;> simp

@[simp] theorem judgeHold_lineActive (x : Identity) (n : Name) (s : State) :
    (judgeHold x n s).census.state.lineActive = s.census.state.lineActive := by
  unfold judgeHold
  repeat' split
  all_goals simp

@[simp] theorem takeHold_lineActive (x : Identity) (n : Name) (s : State) :
    (takeHold x n s).census.state.lineActive = s.census.state.lineActive := by
  simp [takeHold]

@[simp] theorem takeRecall_lineActive (sender : Name) (s : State) :
    (takeRecall sender s).census.state.lineActive = s.census.state.lineActive := by
  unfold takeRecall
  dsimp only
  split <;> split <;> simp

@[simp] theorem goodFrame_lineActive (s : State) :
    (goodFrame s).census.state.lineActive = s.census.state.lineActive := by
  simp [goodFrame]

@[simp] theorem takeAnnounce_lineActive (x : Identity) (p : Name) (revision : Byte) (s : State) :
    (takeAnnounce x p revision s).census.state.lineActive = s.census.state.lineActive := by
  unfold takeAnnounce
  split
  · split
    · simp
    · dsimp only
      split <;> simp
  · simp

@[simp] theorem dispatch_lineActive (f : RxFrame) (s : State) :
    (dispatch f s).census.state.lineActive = s.census.state.lineActive := by
  unfold dispatch
  dsimp only
  split
  case h_7 => split <;> simp
  all_goals simp

@[simp] theorem sentReport_lineActive (f : TxFrame) (s : State) :
    (sentReport f s).census.state.lineActive = s.census.state.lineActive := by
  unfold sentReport
  split
  case h_5 => split <;> (try split) <;> simp
  all_goals simp

@[simp] theorem completeAttempt_lineActive (i : InFlight) (s : State) :
    (completeAttempt i s).census.state.lineActive = s.census.state.lineActive := by
  unfold completeAttempt
  dsimp only
  split <;> simp

/-! ### What switches the line interface -/

/-- The line block once the line interface has taken an enable condition (R19); enabled, its receiver is this. -/
def Line.switched (l : Line) (on : Bool) (rx : Receiver) : Line :=
  if on = l.enabled then l
  else if on then { l with enabled := true, recessive8 := false, rx := rx }
  else { l with enabled := false, recessive8 := false, rx := .off, inFlight := none }

theorem syncLine_line (s : State) : (syncLine s).line = s.line.switched s.enableCondition (s.waits 0) := by
  unfold syncLine Line.switched
  by_cases same : s.enableCondition = s.line.enabled
  · simp [same]
  · cases cond : s.enableCondition <;> simp_all

@[simp] theorem Line.switched_enabled (l : Line) (on : Bool) (rx : Receiver) : (l.switched on rx).enabled = on := by
  unfold Line.switched
  split
  · next h => exact h.symm
  · cases on <;> rfl

/-- Switching it off twice is switching it off once. -/
theorem Line.switched_false_switched (l : Line) (rx rx' : Receiver) :
    (l.switched false rx).switched false rx' = l.switched false rx := by
  rw [Line.switched, if_pos (Line.switched_enabled l false rx).symm]

/-- What does not depend on the enable is kept (R19). -/
@[simp] theorem Line.switched_keeps (l : Line) (on : Bool) (rx : Receiver) :
    (l.switched on rx).fault = l.fault ∧ (l.switched on rx).stuck = l.stuck ∧ (l.switched on rx).errors = l.errors
      ∧ (l.switched on rx).txList = l.txList ∧ (l.switched on rx).txDrops = l.txDrops
      ∧ (l.switched on rx).foreign = l.foreign ∧ (l.switched on rx).beatSeq = l.beatSeq
      ∧ (l.switched on rx).nextTag = l.nextTag := by
  unfold Line.switched
  split
  · simp
  · split <;> simp

theorem Line.switched_eq_keeping (l : Line) (on : Bool) (rx : Receiver) :
    l.switched on rx = { l with enabled := on, recessive8 := (l.switched on rx).recessive8,
                                rx := (l.switched on rx).rx, inFlight := (l.switched on rx).inFlight } := by
  unfold Line.switched
  split
  · next h => rw [h]
  · cases on <;> rfl

@[simp] theorem waits_withCoupling (s : State) (x : Coupling) (n : Nat) : (s.withCoupling x).waits n = s.waits n := rfl

/-- A coupling state other than COUPLED disables the line interface (R19). -/
theorem enterCoupling_line {c : CouplingState} (h : c ≠ .coupled) (s : State) :
    (enterCoupling c s).line = s.line.switched false (s.waits 0) := by
  have cond : (s.withCoupling { s.coupling with state := c }).enableCondition = false := by
    simp [State.enableCondition, h]
  rw [enterCoupling, syncLine_line, cond]
  rfl

theorem enterMaking_line (s : State) : (enterMaking s).line = s.line.switched false (s.waits 0) := by
  simp [enterMaking, enterCoupling_line]

theorem enterHeld_line (s : State) : (enterHeld s).line = s.line.switched false (s.waits 0) := by
  unfold enterHeld
  dsimp only
  rw [enterCoupling_line (by decide)]
  split <;> rfl

theorem enterBreaking_line (s : State) : (enterBreaking s).line = s.line.switched false (s.waits 0) := by
  simp [enterBreaking, enterCoupling_line]

theorem enterOpen_line (s : State) : (enterOpen s).line = s.line.switched false (s.waits 0) := by
  unfold enterOpen
  dsimp only
  split
  · rw [enterMaking_line, enterCoupling_line (by decide), Line.switched_false_switched]
    rfl
  · rw [enterCoupling_line (by decide)]
    rfl

/-- The enable condition is not met in a census that is not line-active (R19). -/
theorem enableCondition_of_not_lineActive {s : State} (h : s.census.state.lineActive = false) :
    s.enableCondition = false := by
  simp [State.enableCondition, h]

/-- The line block after a park or a teardown (R66, R69): emptied and switched off. -/
theorem emptyTool_line {c : CensusState} (h : c.lineActive = false) (s : State) :
    (emptyTool c s).line = ({ s.line with
      txList := [], inFlight := none, errors := 0, stuck := false, fault := false } : Line).switched false (s.waits 0) := by
  unfold emptyTool
  dsimp only
  rw [syncLine_line, enableCondition_of_not_lineActive (by simpa [endCensus] using h)]
  simp [State.waits, State.after, State.halves, State.cfg]

theorem teardown_line (s : State) :
    (teardown s).line = ({ s.line with
      txList := [], inFlight := none, errors := 0, stuck := false, fault := false } : Line).switched false (s.waits 0) := by
  unfold teardown
  dsimp only
  rw [enterOpen_line]
  simp only [overtakeOrder_frame, queueRecord_frame]
  rw [emptyTool_line rfl, Line.switched_false_switched]

theorem parkOvertaking_line (kind : ChangeKind) (detail : Nat) (s : State) :
    (parkOvertaking kind detail s).line = ({ s.line with
      txList := [], inFlight := none, errors := 0, stuck := false, fault := false } : Line).switched false (s.waits 0) := by
  simp [parkOvertaking, parkTool, emptyTool_line (c := .parked) rfl]

end Sys2Proof.Machine

/-! What the coupling monitor's moves write (03 section 3.3, 04): the blocks that their frames leave open, one lemma for each
move and block. -/

namespace Sys2Proof.Machine

/-- States that agree in every block are equal. -/
theorem State.eq_of_blocks {s t : State} (pins : s.pins = t.pins) (time : s.time = t.time) (line : s.line = t.line)
    (coupling : s.coupling = t.coupling) (roster : s.roster = t.roster) (naming : s.naming = t.naming)
    (census : s.census = t.census) (service : s.service = t.service) (changes : s.changes = t.changes)
    (notices : s.notices = t.notices) (order : s.order = t.order) (snapshot : s.snapshot = t.snapshot)
    (draws : s.draws = t.draws) (pending : s.pending = t.pending) : s = t := by
  cases s
  cases t
  simp_all

/-! ### The supply and the coupling states -/

/-- Entry to any coupling state: the state is written and the line interface takes its enable (R19). -/
theorem enterCoupling_eq (c : CouplingState) (s : State) :
    enterCoupling c s = (s.withCoupling { s.coupling with state := c }).withLine
      (s.line.switched (enterCoupling c s).enableCondition (s.waits 0)) := by
  refine State.eq_of_blocks ?_ ?_ ?_ ?_ ?_ ?_ ?_ ?_ ?_ ?_ ?_ ?_ ?_ ?_
  case refine_3 =>
    rw [enterCoupling, syncLine_line, syncLine_enableCondition]
    rfl
  case refine_4 => simp [enterCoupling]
  all_goals simp

@[simp] theorem enterCoupling_coupling (c : CouplingState) (s : State) :
    (enterCoupling c s).coupling = { s.coupling with state := c } := by
  rw [enterCoupling_eq]
  rfl

theorem enterCoupling_enableCondition (c : CouplingState) (s : State) :
    (enterCoupling c s).enableCondition = (s.coupling.supply == .on && s.census.state.lineActive && c == .coupled) := by
  simp [State.enableCondition]

@[simp] theorem enterMaking_coupling (s : State) : (enterMaking s).coupling =
    { s.coupling with state := .making, mateCapture := s.time.now, make := some (s.after (ms s.cfg.make)) } := by
  simp [enterMaking]

@[simp] theorem enterMaking_notices (s : State) :
    (enterMaking s).notices = { s.notices with coupling := true, couplingSeen := false } := by
  simp [enterMaking, setCouplingFlag]

/-- OPEN once entered, before MAKING may follow (R54). -/
theorem enterOpen_of_not_mated {s : State} (h : s.mated = false) : enterOpen s =
    enterCoupling .openState (s.withCoupling { s.coupling with lockedOnce := false, make := none, holdLimit := none }) := by
  have apart : (enterCoupling .openState
      (s.withCoupling { s.coupling with lockedOnce := false, make := none, holdLimit := none })).mated = false := by
    simpa [State.mated] using h
  simp only [enterOpen, apart, Bool.false_eq_true, if_false]

theorem enterOpen_of_mated {s : State} (h : s.mated = true) : enterOpen s = enterMaking (enterCoupling .openState
    (s.withCoupling { s.coupling with lockedOnce := false, make := none, holdLimit := none })) := by
  have met : (enterCoupling .openState
      (s.withCoupling { s.coupling with lockedOnce := false, make := none, holdLimit := none })).mated = true := by
    simpa [State.mated] using h
  simp only [enterOpen, met, if_true]

theorem enterOpen_coupling_of_not_mated {s : State} (h : s.mated = false) : (enterOpen s).coupling =
    { s.coupling with state := .openState, lockedOnce := false, make := none, holdLimit := none } := by
  simp [enterOpen_of_not_mated h]

theorem enterOpen_coupling_of_mated {s : State} (h : s.mated = true) : (enterOpen s).coupling =
    { s.coupling with state := .making, lockedOnce := false, mateCapture := s.time.now,
                      make := some (s.after (ms s.cfg.make)), holdLimit := none } := by
  simp [enterOpen_of_mated h, State.after, State.cfg]

theorem enterOpen_notices_of_not_mated {s : State} (h : s.mated = false) : (enterOpen s).notices = s.notices := by
  simp [enterOpen_of_not_mated h]

theorem enterOpen_notices_of_mated {s : State} (h : s.mated = true) :
    (enterOpen s).notices = { s.notices with coupling := true, couplingSeen := false } := by
  simp [enterOpen_of_mated h]

@[simp] theorem switchSupplyOn_coupling (s : State) : (switchSupplyOn s).coupling =
    { s.coupling with supply := .ramping, settle := some (s.after (ms s.cfg.settle)) } := rfl

@[simp] theorem switchSupplyOn_supplyEn (s : State) : (switchSupplyOn s).pins.supplyEn = true := rfl

/-- The hold limit in HELD (R57). -/
@[simp] theorem enterHeld_coupling (s : State) : (enterHeld s).coupling =
    { s.coupling with
      state := .held
      holdLimit := if s.coupling.lockedOnce = true ∧ s.coupling.supply ≠ .off ∧ s.coupling.holdLimit = none then
          some (s.after (ms s.cfg.hold))
        else s.coupling.holdLimit } := by
  unfold enterHeld
  dsimp only
  by_cases arms : s.coupling.lockedOnce = true ∧ s.coupling.supply ≠ .off ∧ s.coupling.holdLimit = none
  · simp [arms]
  · simp [arms, and_assoc]

@[simp] theorem enterBreaking_coupling (s : State) : (enterBreaking s).coupling =
    { s.coupling with
      state := .breaking, unmateCapture := s.time.now, brk := some (s.after (100 * s.cfg.brk)) } := by
  simp [enterBreaking]

@[simp] theorem enterBreaking_notices (s : State) :
    (enterBreaking s).notices = { s.notices with coupling := true, couplingSeen := false } := by
  simp [enterBreaking, setCouplingFlag]

/-! ### The freeze -/

/-- A freeze begins unless one is in force or the supply is OFF (R43). -/
theorem beginFreeze_time (s : State) : (beginFreeze s).time =
    if s.time.frozen = true ∨ s.coupling.supply = .off then s.time
    else { s.time with frozen := true, freezeStart := s.time.now } := by
  unfold beginFreeze
  by_cases h : s.time.frozen = true ∨ s.coupling.supply = .off
  · simp [h]
  · simp [h]

theorem releaseFreeze_of_not_frozen {s : State} (h : s.time.frozen = false) : releaseFreeze s = s := by
  simp [releaseFreeze, h]

@[simp] theorem releaseFreeze_frozen (s : State) : (releaseFreeze s).time.frozen = false := by
  unfold releaseFreeze
  split
  · rfl
  · next h => simpa using h

/-- What a release does to the deadlines of the tool state (R46). -/
theorem movedBy_releaseFreeze {s : State} (h : s.time.frozen = true) :
    MovedBy (s.time.now - s.time.freezeStart) s (releaseFreeze s) := by
  simp [MovedBy, releaseFreeze, h, moved]

theorem releasesFreeze_releaseFreeze (s : State) : ReleasesFreeze s (releaseFreeze s) := by
  by_cases h : s.time.frozen = true
  · refine ⟨?_, ?_⟩
    · simp [releaseFreeze, h]
    · rw [if_pos h]
      exact movedBy_releaseFreeze h
  · have unfrozen : s.time.frozen = false := by simpa using h
    rw [ReleasesFreeze, releaseFreeze_of_not_frozen unfrozen, if_neg h]
    exact ⟨by rw [← unfrozen], rfl, rfl, rfl, rfl, rfl⟩

/-- The coupling block as it enters COUPLED (R56, R62). -/
theorem enterCoupled_coupling (s : State) : (enterCoupled s).coupling =
    { s.coupling with
      state := .coupled, lockedOnce := true, brk := none, holdLimit := none
      supply := if s.order.phase = .run ∧ s.coupling.supply = .off ∧ s.census.state ≠ .parked then .ramping
        else s.coupling.supply
      settle := if s.order.phase = .run ∧ s.coupling.supply = .off ∧ s.census.state ≠ .parked then
          some (s.after (ms s.cfg.settle))
        else s.coupling.settle } := by
  unfold enterCoupled
  dsimp only
  by_cases h : s.order.phase = .run ∧ s.coupling.supply = .off ∧ s.census.state ≠ .parked
  · simp [h, State.after, State.cfg]
  · simp [h, and_assoc]

theorem enterCoupled_supplyEn (s : State) : (enterCoupled s).pins.supplyEn =
    if s.order.phase = .run ∧ s.coupling.supply = .off ∧ s.census.state ≠ .parked then true else s.pins.supplyEn := by
  unfold enterCoupled
  dsimp only
  by_cases h : s.order.phase = .run ∧ s.coupling.supply = .off ∧ s.census.state ≠ .parked
  · simp [h]
  · simp [h, and_assoc]

/-- Of the blocks that a release moves, COUPLED is entered with what the release leaves (R46, R56). -/
@[simp] theorem enterCoupled_moved (s : State) :
    (enterCoupled s).time = (releaseFreeze s).time ∧ (enterCoupled s).roster = (releaseFreeze s).roster
      ∧ (enterCoupled s).naming = (releaseFreeze s).naming ∧ (enterCoupled s).census = (releaseFreeze s).census
      ∧ (enterCoupled s).order = (releaseFreeze s).order := by
  unfold enterCoupled
  dsimp only
  split <;> simp

theorem enterCoupled_line (s : State) :
    (enterCoupled s).line = s.line.switched (enterCoupled s).enableCondition (s.waits 0) := by
  unfold enterCoupled
  dsimp only
  rw [enterCoupling_eq]
  split <;> simp [State.enableCondition, State.waits, State.after, State.halves, State.cfg]

theorem coupleByLock_of_lock {s : State} (h : s.pins.lock = true) : coupleByLock s = enterCoupled s := by
  simp [coupleByLock, h]

theorem coupleByLock_of_not_lock {s : State} (h : s.pins.lock = false) : coupleByLock s = enterHeld s := by
  simp [coupleByLock, h]

/-! ### A park and a teardown -/

@[simp] theorem endCensus_census (c : CensusState) (s : State) : (endCensus c s).census =
    { s.census with
      state := c, returnState := .gathering, firstFrame := none, quiet := none, deadline := none } := rfl

@[simp] theorem endCensus_time (c : CensusState) (s : State) : (endCensus c s).time = { s.time with beat := none } := rfl

@[simp] theorem emptyRoster_roster (s : State) : (emptyRoster s).roster = Roster.reset := rfl

@[simp] theorem emptyNaming_naming (s : State) : (emptyNaming s).naming =
    { plan := s.naming.plan.map (fun p => if p.wildcard then { p with binding := none } else p), claims := [],
      tickets := [] } := rfl

/-- What a park and a teardown leave, block by block (R66, R69). -/
@[simp] theorem emptyTool_values (c : CensusState) (s : State) :
    (emptyTool c s).coupling = { s.coupling with supply := .off, settle := none, holdLimit := none }
      ∧ (emptyTool c s).pins = { s.pins with supplyEn := false }
      ∧ (emptyTool c s).census = { s.census with
          state := c, returnState := .gathering, firstFrame := none, quiet := none, deadline := none }
      ∧ (emptyTool c s).time = { s.time with frozen := false, beat := none }
      ∧ (emptyTool c s).roster = Roster.reset
      ∧ (emptyTool c s).naming = {
          plan := s.naming.plan.map (fun p => if p.wildcard then { p with binding := none } else p), claims := [],
          tickets := [] }
      ∧ (emptyTool c s).service = { s.service with requests := [], inService := [] }
      ∧ (emptyTool c s).order = { s.order with pingIdentity := none, pingWindow := none } := by
  unfold emptyTool
  dsimp only
  simp [Service.emptied]

/-- The tool state is empty once a park or a teardown has emptied it (R42). -/
theorem toolEmpty_emptyTool {c : CensusState} (h : c.lineActive = false) (s : State) : ToolEmpty (emptyTool c s) := by
  have line := emptyTool_line h s
  have flying : (emptyTool c s).line.inFlight = none := by
    rw [line, Line.switched]
    split
    · rfl
    · simp
  have list : (emptyTool c s).line.txList = [] := by simp [line]
  simp [ToolEmpty, flying, list]

theorem overtakeOrder_order (s : State) : (overtakeOrder s).order =
    if s.order.state = .running then
      { s.order with state := .done, termination := 0xC010, detail := 0, pingIdentity := none, pingWindow := none }
    else s.order := by
  unfold overtakeOrder
  by_cases h : s.order.state = .running
  · simp [h, terminationWord, OrderError.bit]
  · simp [h]

end Sys2Proof.Machine

/-! The line interface (01 sections 1.6 to 1.9): what its operations write, the enable beside the attempt and the receiver
(R9, R19), and LINE_FAULT beside the error count (R15 to R18). -/

namespace Sys2Proof.Machine

/-! ### What the line operations write -/

/-- LINE_FAULT stays after a good frame or 8 P of recessive line exactly on a count of 32 or more or the stuck mark (R18). -/
@[simp] theorem leaveFault_line (s : State) : (leaveFault s).line =
    { s.line with fault := s.line.fault && (decide (Config.faultExit ≤ s.line.errors) || s.line.stuck) } := by
  unfold leaveFault
  split
  · next h =>
    simp only [Bool.and_eq_true, decide_eq_true_eq, Bool.not_eq_true'] at h
    obtain ⟨⟨_, low⟩, clear⟩ := h
    simp [Nat.not_le.mpr low, clear]
  · next h =>
    have stays : (s.line.fault && (decide (Config.faultExit ≤ s.line.errors) || s.line.stuck)) = s.line.fault := by
      rw [Bool.eq_iff_iff]
      simp only [Bool.and_eq_true, decide_eq_true_eq, Bool.not_eq_true', not_and, Bool.or_eq_true, and_iff_left_iff_imp]
        at h ⊢
      grind
    rw [stays]

@[simp] theorem goodCount_line (s : State) : (goodCount s).line =
    { s.line with
      errors := s.line.errors - 1
      fault := s.line.fault && (decide (Config.faultExit ≤ s.line.errors - 1) || s.line.stuck) } := by
  rw [goodCount, leaveFault_line]
  rfl

@[simp] theorem goodFrame_line (s : State) : (goodFrame s).line = s.line.afterGood := by
  simp only [goodFrame, firstGoodFrame_frame]
  rw [goodCount_line]
  rfl

@[simp] theorem Line.afterGood_fields (l : Line) :
    l.afterGood.enabled = l.enabled ∧ l.afterGood.recessive8 = false ∧ l.afterGood.stuck = l.stuck
      ∧ l.afterGood.rx = .hunting ∧ l.afterGood.inFlight = l.inFlight ∧ l.afterGood.txList = l.txList
      ∧ l.afterGood.txDrops = l.txDrops ∧ l.afterGood.foreign = l.foreign ∧ l.afterGood.beatSeq = l.beatSeq
      ∧ l.afterGood.nextTag = l.nextTag ∧ l.afterGood.errors = l.errors - 1 := by
  simp [Line.afterGood]

@[simp] theorem lineRecessive_line (s : State) : (lineRecessive s).line =
    { s.line with recessive8 := true, stuck := false, rx := .hunting,
                  fault := s.line.fault && decide (Config.faultExit ≤ s.line.errors) } := by
  rw [lineRecessive, leaveFault_line]
  simp only [State.withLine_line, Bool.or_false]
  rfl

@[simp] theorem endAttempt_line (rx : Receiver) (s : State) :
    (endAttempt rx s).line = { s.line with inFlight := none, rx := rx } := rfl

/-- The entry to LINE_FAULT (R16, R176): the line is released, and the frame of a running RECALL is withdrawn. -/
@[simp] theorem enterFault_line (s : State) : (enterFault s).line =
    { s.line with
      fault := true, inFlight := none
      txList := if s.recallRunning = true then s.line.txList.filter (fun f => !f.isRecall) else s.line.txList } := by
  have running : (setLineFlag (s.withLine { s.line with fault := true, inFlight := none })).recallRunning
      = s.recallRunning := rfl
  unfold enterFault
  dsimp only
  rw [running]
  by_cases h : s.recallRunning = true
  · simp [h]
  · simp [h]

@[simp] theorem enterFault_notices (s : State) :
    (enterFault s).notices = { s.notices with line := true, lineSeen := false } := by
  unfold enterFault
  dsimp only
  split <;> simp [setLineFlag]

/-- The count enters LINE_FAULT at 96 where it is not in force (R16). -/
theorem checkFault_of_enters {s : State} (fault : s.line.fault = false) (h : Config.faultEntry ≤ s.line.errors) :
    checkFault s = enterFault s := by
  simp [checkFault, fault, h]

theorem checkFault_of_stays {s : State} (h : s.line.fault = true ∨ s.line.errors < Config.faultEntry) :
    checkFault s = s := by
  unfold checkFault
  rcases h with fault | low
  · simp [fault]
  · simp [Nat.not_le.mpr low]

@[simp] theorem checkFault_fault (s : State) :
    (checkFault s).line.fault = (s.line.fault || decide (Config.faultEntry ≤ s.line.errors)) := by
  by_cases h : s.line.fault = true ∨ s.line.errors < Config.faultEntry
  · rw [checkFault_of_stays h]
    rcases h with fault | low
    · simp [fault]
    · simp [Nat.not_le.mpr low]
  · rw [not_or, Bool.not_eq_true, Nat.not_lt] at h
    simp [checkFault_of_enters h.1 h.2, h.2]

/-- What becomes of the frame of a failed attempt (R11): its attempt count rises, and at the fourth it is dropped and reported;
one withdrawn meanwhile is no more. -/
def countAttempt (i : InFlight) (s : State) : State :=
  match s.line.frame i.tag with
  | none => s
  | some f =>
    if f.attempts + 1 < Config.maxAttempts then
      s.withLine { s.line with
        txList := s.line.txList.map (fun g => if g.tag == i.tag then { g with attempts := g.attempts + 1 } else g) }
    else dropReport f (countTxDrop (withdraw (fun g => g.tag == i.tag) s))

/-- The attempt is over and its bit error counted (R11, R15). -/
def endInError (cause : BitErrorCause) (s : State) : State :=
  endAttempt (s.afterBitError cause) (s.withLine { s.line with errors := satAdd Config.maxErrors s.line.errors 8 })

theorem failAttempt_eq (i : InFlight) (cause : BitErrorCause) (s : State) :
    failAttempt i cause s = checkFault (countAttempt i (endInError cause s)) := rfl

@[simp] theorem endInError_line (cause : BitErrorCause) (s : State) : (endInError cause s).line =
    { s.line with inFlight := none, rx := s.afterBitError cause, errors := satAdd Config.maxErrors s.line.errors 8 } := rfl

@[simp] theorem endInError_frame (cause : BitErrorCause) (s : State) :
    (endInError cause s).pins = s.pins ∧ (endInError cause s).time = s.time ∧ (endInError cause s).coupling = s.coupling
      ∧ (endInError cause s).roster = s.roster ∧ (endInError cause s).naming = s.naming
      ∧ (endInError cause s).census = s.census ∧ (endInError cause s).service = s.service
      ∧ (endInError cause s).changes = s.changes ∧ (endInError cause s).notices = s.notices
      ∧ (endInError cause s).order = s.order ∧ (endInError cause s).snapshot = s.snapshot
      ∧ (endInError cause s).draws = s.draws ∧ (endInError cause s).pending = s.pending := by
  simp [endInError]

@[simp] theorem countAttempt_frame (i : InFlight) (s : State) :
    (countAttempt i s).pins = s.pins ∧ (countAttempt i s).time = s.time
      ∧ (countAttempt i s).line.enabled = s.line.enabled
      ∧ (countAttempt i s).line.fault = s.line.fault
      ∧ (countAttempt i s).line.recessive8 = s.line.recessive8
      ∧ (countAttempt i s).line.stuck = s.line.stuck
      ∧ (countAttempt i s).line.errors = s.line.errors
      ∧ (countAttempt i s).line.rx = s.line.rx
      ∧ (countAttempt i s).line.inFlight = s.line.inFlight
      ∧ (countAttempt i s).line.foreign = s.line.foreign
      ∧ (countAttempt i s).line.beatSeq = s.line.beatSeq
      ∧ (countAttempt i s).line.nextTag = s.line.nextTag
      ∧ (countAttempt i s).coupling = s.coupling
      ∧ (countAttempt i s).roster.entries = s.roster.entries
      ∧ (countAttempt i s).roster.fullLatch = s.roster.fullLatch
      ∧ (countAttempt i s).naming.plan = s.naming.plan
      ∧ (countAttempt i s).naming.claims = s.naming.claims
      ∧ (countAttempt i s).census = s.census ∧ (countAttempt i s).service = s.service
      ∧ (countAttempt i s).changes = s.changes ∧ (countAttempt i s).notices = s.notices
      ∧ (countAttempt i s).order.phase = s.order.phase ∧ (countAttempt i s).order.setup = s.order.setup
      ∧ (countAttempt i s).order.opcode = s.order.opcode ∧ (countAttempt i s).order.operand = s.order.operand
      ∧ (countAttempt i s).order.data = s.order.data
      ∧ (countAttempt i s).snapshot = s.snapshot ∧ (countAttempt i s).draws = s.draws
      ∧ (countAttempt i s).pending = s.pending := by
  unfold countAttempt
  split
  · simp
  · split
    · simp
    · unfold dropReport
      split
      case h_5 => split <;> simp [countTxDrop]
      case h_3 => simp [countTxDrop, State.withAsked]
      all_goals simp [countTxDrop]

/-! ### The enable, the attempt and the receiver (R9, R19) -/

/-- The line interface drives only while enabled and outside LINE_FAULT, and disabled its receiver is off (R9, R16, R19). -/
def LineSound (l : Line) : Prop :=
  (l.inFlight.isSome → l.enabled = true ∧ l.fault = false) ∧ (l.enabled = false → l.rx = .off)

theorem lineAgrees_iff {s : State} : LineAgrees s ↔ s.line.enabled = s.enableCondition ∧ LineSound s.line := Iff.rfl

theorem LineSound.congr {l l' : Line} (h : LineSound l) (enabled : l'.enabled = l.enabled) (fault : l'.fault = l.fault)
    (rx : l'.rx = l.rx) (inFlight : l'.inFlight = l.inFlight) : LineSound l' := by
  rwa [LineSound, enabled, fault, rx, inFlight]

theorem LineSound.switched {l : Line} (h : LineSound l) (on : Bool) (rx : Receiver) : LineSound (l.switched on rx) := by
  obtain ⟨drives, off⟩ := h
  unfold Line.switched
  split
  · exact ⟨drives, off⟩
  · next change =>
    split
    · next turnsOn =>
      refine ⟨fun flying => ⟨rfl, (drives flying).2⟩, nofun⟩
    · exact ⟨nofun, fun _ => rfl⟩

/-- A line interface that is not sending is sound as long as its receiver is off while it is disabled. -/
theorem LineSound.of_not_sending {l : Line} (inFlight : l.inFlight = none) (off : l.enabled = false → l.rx = .off) :
    LineSound l :=
  ⟨by simp [inFlight], off⟩

theorem LineSound.of_enabled_not_sending {l : Line} (inFlight : l.inFlight = none) (enabled : l.enabled = true) :
    LineSound l :=
  .of_not_sending inFlight (by simp [enabled])

/-- The agreement looks at four fields of the line block and at the enable condition. -/
theorem LineAgrees.congr {s t : State} (h : LineAgrees s) (enabled : t.line.enabled = s.line.enabled)
    (fault : t.line.fault = s.line.fault) (rx : t.line.rx = s.line.rx) (inFlight : t.line.inFlight = s.line.inFlight)
    (supply : t.coupling.supply = s.coupling.supply) (state : t.coupling.state = s.coupling.state)
    (active : t.census.state.lineActive = s.census.state.lineActive) : LineAgrees t := by
  obtain ⟨taken, sound⟩ := lineAgrees_iff.mp h
  refine lineAgrees_iff.mpr ⟨?_, sound.congr enabled fault rx inFlight⟩
  rw [enabled, taken, State.enableCondition, State.enableCondition, supply, state, active]

/-- The condition stands and the line block is sound again. -/
theorem LineAgrees.of_sound {s t : State} (h : LineAgrees s) (enabled : t.line.enabled = s.line.enabled)
    (condition : t.enableCondition = s.enableCondition) (sound : LineSound t.line) : LineAgrees t := by
  obtain ⟨taken, _⟩ := lineAgrees_iff.mp h
  exact lineAgrees_iff.mpr ⟨by rw [enabled, taken, condition], sound⟩

theorem lineAgrees_of_switched {t : State} {l : Line} {rx : Receiver} (sound : LineSound l)
    (eq : t.line = l.switched t.enableCondition rx) : LineAgrees t := by
  rw [lineAgrees_iff, eq]
  exact ⟨Line.switched_enabled _ _ _, sound.switched _ _⟩

theorem lineAgrees_of_switched_off {t : State} {l : Line} {rx : Receiver} (sound : LineSound l)
    (eq : t.line = l.switched false rx) (off : t.enableCondition = false) : LineAgrees t :=
  lineAgrees_of_switched sound (by rw [eq, off])

theorem enableCondition_of_not_coupled {s : State} (h : s.coupling.state ≠ .coupled) : s.enableCondition = false := by
  simp [State.enableCondition, h]

theorem LineAgrees.syncLine {s : State} (h : LineSound s.line) : LineAgrees (syncLine s) :=
  lineAgrees_of_switched h (by rw [syncLine_line, syncLine_enableCondition])

theorem LineAgrees.enterMaking {s : State} (h : LineSound s.line) : LineAgrees (enterMaking s) :=
  lineAgrees_of_switched_off h (enterMaking_line s) (enableCondition_of_not_coupled (by simp))

theorem LineAgrees.enterHeld {s : State} (h : LineSound s.line) : LineAgrees (enterHeld s) :=
  lineAgrees_of_switched_off h (enterHeld_line s) (enableCondition_of_not_coupled (by simp))

theorem LineAgrees.enterBreaking {s : State} (h : LineSound s.line) : LineAgrees (enterBreaking s) :=
  lineAgrees_of_switched_off h (enterBreaking_line s) (enableCondition_of_not_coupled (by simp))

theorem enterOpen_not_coupled (s : State) : (enterOpen s).coupling.state ≠ .coupled := by
  by_cases mated : s.mated = true
  · simp [enterOpen_coupling_of_mated mated]
  · simp [enterOpen_coupling_of_not_mated (Bool.not_eq_true _ ▸ mated)]

theorem LineAgrees.enterOpen {s : State} (h : LineSound s.line) : LineAgrees (enterOpen s) :=
  lineAgrees_of_switched_off h (enterOpen_line s) (enableCondition_of_not_coupled (enterOpen_not_coupled s))

theorem LineAgrees.enterCoupled {s : State} (h : LineSound s.line) : LineAgrees (enterCoupled s) :=
  lineAgrees_of_switched h (enterCoupled_line s)

theorem LineAgrees.coupleByLock {s : State} (h : LineSound s.line) : LineAgrees (coupleByLock s) := by
  cases lock : s.pins.lock with
  | true => rw [coupleByLock_of_lock lock]; exact LineAgrees.enterCoupled h
  | false => rw [coupleByLock_of_not_lock lock]; exact LineAgrees.enterHeld h

theorem LineAgrees.matesMet {s : State} (h : LineAgrees s) : LineAgrees (matesMet s) := by
  obtain ⟨_, sound⟩ := lineAgrees_iff.mp h
  unfold Machine.matesMet
  split
  case h_1 => exact LineAgrees.enterMaking sound
  case h_2 => exact LineAgrees.coupleByLock sound
  all_goals exact h

theorem LineAgrees.mateParted {s : State} (h : LineAgrees s) : LineAgrees (mateParted s) := by
  obtain ⟨_, sound⟩ := lineAgrees_iff.mp h
  unfold Machine.mateParted
  split
  case h_1 => exact LineAgrees.enterOpen sound
  case h_2 => exact LineAgrees.enterBreaking (by simpa using sound)
  case h_3 => exact LineAgrees.enterBreaking sound
  all_goals exact h

/-- An emptied line block without an attempt is sound where the one before was. -/
theorem LineSound.emptied {l : Line} (h : LineSound l) :
    LineSound { l with txList := [], inFlight := none, errors := 0, stuck := false, fault := false } := by
  obtain ⟨_, off⟩ := h
  exact ⟨nofun, off⟩

theorem LineAgrees.teardown {s : State} (h : LineSound s.line) : LineAgrees (teardown s) :=
  lineAgrees_of_switched_off h.emptied (teardown_line s) (enableCondition_of_not_coupled (enterOpen_not_coupled _))

theorem LineAgrees.parkTool {s : State} (h : LineSound s.line) (kind : ChangeKind) (detail : Nat) :
    LineAgrees (parkTool kind detail s) := by
  refine lineAgrees_of_switched_off (rx := s.waits 0) h.emptied ?_ (enableCondition_of_not_lineActive ?_)
  · simp [Machine.parkTool, emptyTool_line (c := .parked) rfl]
  · simp [Machine.parkTool, CensusState.lineActive]

theorem LineAgrees.parkOvertaking {s : State} (h : LineSound s.line) (kind : ChangeKind) (detail : Nat) :
    LineAgrees (parkOvertaking kind detail s) :=
  (LineAgrees.parkTool h kind detail).congr (by simp [Machine.parkOvertaking]) (by simp [Machine.parkOvertaking])
    (by simp [Machine.parkOvertaking]) (by simp [Machine.parkOvertaking]) (by simp [Machine.parkOvertaking])
    (by simp [Machine.parkOvertaking]) (by simp [Machine.parkOvertaking])

/-- A close moves neither the line block nor the enable condition. -/
theorem LineAgrees.refreshNotices {s : State} (h : LineAgrees s) : LineAgrees (refreshNotices s) :=
  h.congr (by simp) (by simp) (by simp) (by simp) (by simp) (by simp) (by simp)

theorem LineAgrees.close {s : State} (h : LineAgrees s) : LineAgrees (close s) :=
  h.congr (by simp) (by simp) (by simp) (by simp) (by simp) (by simp) (by simp)

theorem LineAgrees.clockOut {s before : State} {bytes : List Byte} (h : LineAgrees s) :
    LineAgrees (clockOut before bytes s) :=
  h.congr (by simp) (by simp) (by simp) (by simp) (by simp) (by simp) (by simp)

theorem State.receiving_iff {s : State} : s.receiving = true ↔ s.line.enabled = true ∧ s.line.inFlight = none := by
  simp [State.receiving]

theorem LineAgrees.enabled_of_inFlight {s : State} {i : InFlight} (h : LineAgrees s) (flying : s.line.inFlight = some i) :
    s.line.enabled = true ∧ s.line.fault = false := by
  obtain ⟨_, drives, _⟩ := h
  exact drives (by simp [flying])

@[simp] theorem completeAttempt_inFlight (i : InFlight) (s : State) :
    (completeAttempt i s).line.inFlight = none := by
  unfold completeAttempt
  dsimp only
  split <;> simp

@[simp] theorem checkFault_inFlight_of_none {s : State} (h : s.line.inFlight = none) :
    (checkFault s).line.inFlight = none := by
  unfold checkFault
  split <;> simp [h]

@[simp] theorem failAttempt_inFlight (i : InFlight) (cause : BitErrorCause) (s : State) :
    (failAttempt i cause s).line.inFlight = none := by
  rw [failAttempt_eq, checkFault_inFlight_of_none]
  simp

theorem goOrder_lineAgrees {s : State} (h : LineAgrees s) : LineAgrees (goOrder s) := by
  have ends {u : State} (hu : LineAgrees u) (error : Option OrderError) : LineAgrees (endOrder error 0 u) :=
    hu.congr (by simp) (by simp) (by simp) (by simp) (by simp) (by simp) (by simp)
  obtain ⟨_, sound⟩ := lineAgrees_iff.mp h
  unfold goOrder
  split
  · exact ends h _
  · dsimp only
    split
    · refine ends (LineAgrees.enterMaking ?_) _
      exact sound
    · refine ends (h.congr ?_ ?_ ?_ ?_ ?_ ?_ ?_) _ <;> rfl

theorem parkOrder_lineAgrees {s : State} (h : LineAgrees s) : LineAgrees (parkOrder s) := by
  have ends {u : State} (hu : LineAgrees u) (error : Option OrderError) : LineAgrees (endOrder error 0 u) :=
    hu.congr (by simp) (by simp) (by simp) (by simp) (by simp) (by simp) (by simp)
  obtain ⟨_, sound⟩ := lineAgrees_iff.mp h
  unfold parkOrder
  split
  · exact ends (LineAgrees.parkTool sound _ _) _
  · exact ends h _

/-- UNPARK switches the supply from OFF to RAMPING, which is as little ON as before (R19, R68). -/
theorem unparkOrder_enableCondition (s : State) : (unparkOrder s).enableCondition = s.enableCondition := by
  unfold unparkOrder
  split
  · split
    · next off =>
      have ramps : (SupplyState.ramping == SupplyState.on) = (SupplyState.off == SupplyState.on) := rfl
      simp [State.enableCondition, beq_iff_eq.mp off, ramps]
    · simp [State.enableCondition]
  · simp [State.enableCondition]

/-- Every effect keeps the enable with its condition. -/
theorem Effect.lineAgrees {s t : State} (h : Effect s t) (hs : LineAgrees s) : LineAgrees t := by
  obtain ⟨taken, sound⟩ := lineAgrees_iff.mp hs
  cases h with
  | noEvent => exact hs
  | mated inputs lock phase =>
    refine LineAgrees.refreshNotices (LineAgrees.matesMet ?_)
    exact hs.congr rfl rfl rfl rfl rfl rfl rfl
  | parted inputs phase =>
    refine LineAgrees.refreshNotices (LineAgrees.mateParted ?_)
    exact hs.congr rfl rfl rfl rfl rfl rfl rfl
  | lockEngages phase held =>
    refine LineAgrees.refreshNotices (LineAgrees.enterCoupled ?_)
    exact sound
  | lockReleases phase coupled =>
    refine LineAgrees.refreshNotices (LineAgrees.enterHeld ?_)
    simpa using sound
  | supplyDrops on =>
    refine LineAgrees.refreshNotices (LineAgrees.parkOvertaking ?_ _ _)
    exact sound
  | makeExpires due making =>
    refine LineAgrees.refreshNotices (LineAgrees.coupleByLock ?_)
    exact sound
  | breakExpires due =>
    refine LineAgrees.refreshNotices (LineAgrees.teardown ?_)
    exact sound
  | settles due good =>
    refine LineAgrees.refreshNotices (LineAgrees.syncLine ?_)
    exact sound
  | settleFails due =>
    refine LineAgrees.refreshNotices (LineAgrees.parkOvertaking ?_ _ _)
    exact sound
  | holdLimitExpires due =>
    refine LineAgrees.refreshNotices (LineAgrees.parkOvertaking ?_ _ _)
    exact sound
  | lineIdles receiving =>
    obtain ⟨enabled, idle⟩ := State.receiving_iff.mp receiving
    refine LineAgrees.refreshNotices (hs.of_sound (by simp) (by simp [State.enableCondition]) ?_)
    exact .of_enabled_not_sending (by simp [idle]) (by simp [enabled])
  | attemptBegins may =>
    obtain ⟨enabled, fault, _⟩ := State.mayTransmit_iff.mp may
    refine LineAgrees.refreshNotices (hs.of_sound (by simp) (by simp [State.enableCondition]) ?_)
    exact ⟨fun _ => by simp [enabled, fault], by simp [enabled]⟩
  | foreignEdge receiving =>
    obtain ⟨enabled, idle⟩ := State.receiving_iff.mp receiving
    refine LineAgrees.refreshNotices (hs.of_sound rfl rfl (.of_enabled_not_sending idle enabled))
  | arbitrationLost bits inFlight =>
    refine LineAgrees.refreshNotices (hs.of_sound rfl rfl (.of_enabled_not_sending rfl ?_))
    exact (hs.enabled_of_inFlight inFlight).1
  | bitError cause inFlight =>
    refine LineAgrees.refreshNotices (hs.of_sound (by simp) (by simp [State.enableCondition]) ?_)
    exact .of_enabled_not_sending (by simp) (by simp [(hs.enabled_of_inFlight inFlight).1])
  | sent inFlight =>
    refine LineAgrees.close (hs.of_sound (by simp) (by simp [State.enableCondition]) ?_)
    exact .of_enabled_not_sending (by simp) (by simp [(hs.enabled_of_inFlight inFlight).1])
  | receiveError cause receiving =>
    obtain ⟨enabled, idle⟩ := State.receiving_iff.mp receiving
    refine LineAgrees.refreshNotices (hs.of_sound (by simp) (by simp [State.enableCondition]) ?_)
    exact .of_enabled_not_sending (checkFault_inFlight_of_none idle) (by simp [enabled])
  | stuckAgain enabled fault =>
    refine LineAgrees.refreshNotices (hs.of_sound rfl rfl ⟨sound.1, by simp [enabled]⟩)
  | stuckEnters enabled fault =>
    refine LineAgrees.refreshNotices (hs.of_sound (by simp) (by simp [State.enableCondition]) ?_)
    exact .of_enabled_not_sending (by simp) (by simp [enabled])
  | framePasses =>
    refine hs.of_sound (by simp) (by simp [State.enableCondition]) ?_
    unfold passFrame
    split
    · split
      · next receiving =>
        obtain ⟨enabled, idle⟩ := State.receiving_iff.mp receiving
        exact .of_enabled_not_sending idle enabled
      · exact sound
    all_goals exact sound
  | foreign receiving =>
    obtain ⟨enabled, idle⟩ := State.receiving_iff.mp receiving
    refine LineAgrees.close (hs.of_sound (by simp) (by simp [State.enableCondition]) ?_)
    exact .of_enabled_not_sending (by simp [idle]) (by simp [enabled])
  | received receiving form =>
    obtain ⟨enabled, idle⟩ := State.receiving_iff.mp receiving
    refine LineAgrees.close (hs.of_sound (by simp) (by simp [State.enableCondition]) ?_)
    exact .of_enabled_not_sending (by simp [idle]) (by simp [enabled])
  | lossExpires entry due =>
    refine LineAgrees.close ?_
    split <;> exact hs.congr (by simp) (by simp) (by simp) (by simp) (by simp) (by simp) (by simp)
  | firstFrameExpires powering =>
    refine LineAgrees.refreshNotices (hs.congr (by simp) (by simp) (by simp) (by simp) (by simp) (by simp) ?_)
    rw [enterComplete_lineActive, powering]
    rfl
  | quietExpires quiet =>
    refine LineAgrees.refreshNotices (hs.congr (by simp) (by simp) (by simp) (by simp) (by simp) (by simp) ?_)
    rw [enterComplete_lineActive, quiet]
    rfl
  | orderGo idle opcode phase =>
    refine LineAgrees.clockOut (LineAgrees.close (goOrder_lineAgrees ?_))
    exact hs.congr rfl rfl rfl rfl rfl rfl rfl
  | orderPark idle opcode phase =>
    refine LineAgrees.clockOut (LineAgrees.close (parkOrder_lineAgrees ?_))
    exact hs.congr rfl rfl rfl rfl rfl rfl rfl
  | orderUnpark idle opcode phase =>
    refine LineAgrees.clockOut (LineAgrees.close (hs.of_sound (by simp) ?_ (by simpa using sound)))
    rw [unparkOrder_enableCondition]
    simp [State.enableCondition]
  | _ => exact hs.congr (by simp) (by simp) (by simp) (by simp) (by simp) (by simp) (by simp)

/-! ### What an enable and a disable do (R19) -/

theorem refreshNotices_line (s : State) : (refreshNotices s).line = s.line := rfl

theorem takesEnable_of_same {s t : State} (h : t.line.enabled = s.line.enabled) : TakesEnable s t :=
  ⟨fun on off => by rw [h, on] at off; exact absurd off (by decide),
    fun off on => by rw [h, off] at on; exact absurd on (by decide)⟩

theorem takesEnable_of_off {s t : State} (off : t.line.enabled = false)
    (silent : s.line.enabled = true → t.line.rx = .off ∧ t.line.inFlight = none ∧ t.line.recessive8 = false) :
    TakesEnable s t :=
  ⟨fun on _ => silent on, fun _ on => absurd (off.symm.trans on) (by decide)⟩

/-- A switched line block has taken the enable. -/
theorem takesEnable_of_switched {s t : State} {on : Bool} (h : t.line = s.line.switched on (s.waits 0)) :
    TakesEnable s t := by
  unfold TakesEnable
  rw [h, Line.switched, waits_zero]
  by_cases same : on = s.line.enabled
  · rw [if_pos same]
    exact ⟨fun on off => absurd (on.symm.trans off) (by decide), fun off on => absurd (off.symm.trans on) (by decide)⟩
  · rw [if_neg same]
    cases on <;> simp_all

/-- An emptied line block that is switched off has taken the disable. -/
theorem takesEnable_of_emptied {s t : State}
    (h : t.line = ({ s.line with
      txList := [], inFlight := none, errors := 0, stuck := false, fault := false } : Line).switched false (s.waits 0)) :
    TakesEnable s t := by
  refine takesEnable_of_off (by rw [h]; exact Line.switched_enabled _ _ _) fun on => ?_
  rw [h, Line.switched, if_neg (by simp [on])]
  simp

/-- What comes before a switch and after it touches neither the line block nor the time base nor the rate. -/
theorem TakesEnable.between {s u t v : State} (h : TakesEnable u t) (after : v.line = t.line) (before : u.line = s.line)
    (now : u.time.now = s.time.now) (period : u.linePeriod = s.linePeriod) : TakesEnable s v := by
  rw [TakesEnable, before, now, period] at h
  rwa [TakesEnable, after]

theorem matesMet_takesEnable (s : State) : TakesEnable s (matesMet s) := by
  unfold matesMet
  split
  case h_1 => exact takesEnable_of_switched (enterMaking_line s)
  case h_2 =>
    cases lock : s.pins.lock with
    | true => rw [coupleByLock_of_lock (by simpa using lock)]; exact takesEnable_of_switched (enterCoupled_line _)
    | false => rw [coupleByLock_of_not_lock (by simpa using lock)]; exact takesEnable_of_switched (enterHeld_line _)
  all_goals exact takesEnable_of_same rfl

theorem mateParted_takesEnable (s : State) : TakesEnable s (mateParted s) := by
  unfold mateParted
  split
  case h_1 => exact takesEnable_of_switched (enterOpen_line s)
  case h_2 =>
    refine takesEnable_of_switched (on := false) ?_
    rw [enterBreaking_line]
    simp [State.waits, State.after, State.halves, State.cfg]
  case h_3 => exact takesEnable_of_switched (enterBreaking_line s)
  all_goals exact takesEnable_of_same rfl

theorem goOrder_takesEnable (s : State) : TakesEnable s (goOrder s) := by
  unfold goOrder
  split
  · exact takesEnable_of_same rfl
  · dsimp only
    split
    · exact takesEnable_of_switched (enterMaking_line _)
    · exact takesEnable_of_same rfl

theorem parkOrder_takesEnable (s : State) : TakesEnable s (parkOrder s) := by
  unfold parkOrder
  split
  · refine takesEnable_of_emptied ?_
    simp [parkTool, emptyTool_line (c := .parked) rfl]
  · exact takesEnable_of_same rfl

theorem Effect.takesEnable {s t : State} (h : Effect s t) : TakesEnable s t := by
  cases h with
  | mated inputs lock phase => exact (matesMet_takesEnable (s.withPins _)).between (refreshNotices_line _) rfl rfl rfl
  | parted inputs phase => exact (mateParted_takesEnable (s.withPins _)).between (refreshNotices_line _) rfl rfl rfl
  | lockEngages phase held =>
    exact (takesEnable_of_switched (enterCoupled_line (s.withPins _))).between (refreshNotices_line _) rfl rfl rfl
  | lockReleases phase coupled =>
    refine takesEnable_of_switched (on := false) ?_
    simp [enterHeld_line, State.waits, State.after, State.halves, State.cfg]
  | supplyDrops on =>
    exact (takesEnable_of_emptied (parkOvertaking_line _ _ (s.withPins _))).between (refreshNotices_line _) rfl rfl rfl
  | makeExpires due making =>
    cases lock : s.pins.lock with
    | true =>
      rw [coupleByLock_of_lock (by simpa using lock)]
      exact (takesEnable_of_switched (enterCoupled_line (s.withCoupling _))).between (refreshNotices_line _) rfl rfl rfl
    | false =>
      rw [coupleByLock_of_not_lock (by simpa using lock)]
      exact (takesEnable_of_switched (enterHeld_line (s.withCoupling _))).between (refreshNotices_line _) rfl rfl rfl
  | breakExpires due =>
    exact (takesEnable_of_emptied (teardown_line (s.withCoupling _))).between (refreshNotices_line _) rfl rfl rfl
  | settles due good => exact 
    (takesEnable_of_switched (syncLine_line (enterPowering (s.withCoupling _)))).between (refreshNotices_line _) rfl rfl rfl
  | settleFails due =>
    exact (takesEnable_of_emptied (parkOvertaking_line _ _ (s.withCoupling _))).between (refreshNotices_line _) rfl rfl rfl
  | holdLimitExpires due =>
    exact (takesEnable_of_emptied (parkOvertaking_line _ _ (s.withCoupling _))).between (refreshNotices_line _) rfl rfl rfl
  | lossExpires entry due => exact takesEnable_of_same (by split <;> simp)
  | orderGo idle opcode phase => exact (goOrder_takesEnable (beginOrder s)).between (by simp) rfl rfl rfl
  | orderPark idle opcode phase => exact (parkOrder_takesEnable (beginOrder s)).between (by simp) rfl rfl rfl
  | _ => exact takesEnable_of_same (by simp)

/-! ### LINE_FAULT and the error count (R15 to R18) -/

/-- LINE_FAULT stands on a count of 32 or more or on the stuck mark; outside it the count is below 96 and the mark clear. -/
def FaultFits (l : Line) : Prop :=
  if l.fault then Config.faultExit ≤ l.errors ∨ l.stuck = true else l.errors < Config.faultEntry ∧ l.stuck = false

theorem faultFollowsCount_iff {s : State} : FaultFollowsCount s ↔ FaultFits s.line := Iff.rfl

theorem FaultFits.congr {l l' : Line} (h : FaultFits l) (fault : l'.fault = l.fault) (errors : l'.errors = l.errors)
    (stuck : l'.stuck = l.stuck) : FaultFits l' := by
  rwa [FaultFits, fault, errors, stuck]

/-- No error and no stuck mark: LINE_FAULT is not in force. -/
theorem FaultFits.of_clear {l : Line} (fault : l.fault = false) (errors : l.errors = 0) (stuck : l.stuck = false) :
    FaultFits l := by
  simp [FaultFits, fault, errors, stuck, Config.faultEntry]

/-- Leaving LINE_FAULT where it may end restores its relation to the count (R18). -/
theorem FaultFits.leaveFault {s : State}
    (clear : s.line.fault = false → s.line.errors < Config.faultEntry ∧ s.line.stuck = false) :
    FaultFits (leaveFault s).line := by
  rw [leaveFault_line]
  unfold FaultFits
  cases fault : s.line.fault with
  | false => simpa using clear fault
  | true =>
    by_cases stays : Config.faultExit ≤ s.line.errors ∨ s.line.stuck = true
    · simp [stays]
    · rw [not_or, Nat.not_le, Bool.not_eq_true] at stays
      obtain ⟨low, unstuck⟩ := stays
      have belowEntry : s.line.errors < Config.faultEntry := Nat.lt_trans low (by decide)
      simp [Nat.not_le.mpr low, unstuck, belowEntry]

theorem FaultFits.clear {l : Line} (h : FaultFits l) (fault : l.fault = false) :
    l.errors < Config.faultEntry ∧ l.stuck = false := by
  rwa [FaultFits, if_neg (by simp [fault])] at h

theorem FaultFits.goodCount {s : State} (h : FaultFits s.line) : FaultFits (goodCount s).line := by
  refine FaultFits.leaveFault fun fault => ?_
  obtain ⟨low, unstuck⟩ := h.clear fault
  exact ⟨Nat.lt_of_le_of_lt (Nat.sub_le _ _) low, unstuck⟩

theorem FaultFits.lineRecessive {s : State} (h : FaultFits s.line) : FaultFits (lineRecessive s).line :=
  FaultFits.leaveFault fun fault => ⟨(h.clear fault).1, rfl⟩

theorem FaultFits.goodFrame {s : State} (h : FaultFits s.line) : FaultFits (goodFrame s).line := by
  have counted : FaultFits (Machine.goodCount (s.withLine { s.line with recessive8 := false, rx := .hunting })).line :=
    FaultFits.goodCount (h.congr rfl rfl rfl)
  exact counted.congr (by simp only [Machine.goodFrame, firstGoodFrame_frame])
    (by simp only [Machine.goodFrame, firstGoodFrame_frame]) (by simp only [Machine.goodFrame, firstGoodFrame_frame])

theorem FaultFits.completeAttempt {s : State} (h : FaultFits s.line) (i : InFlight) :
    FaultFits (completeAttempt i s).line := by
  have counted : FaultFits (Machine.goodCount (endAttempt .hunting s)).line := FaultFits.goodCount (h.congr rfl rfl rfl)
  unfold Machine.completeAttempt
  dsimp only
  split
  · exact counted
  · exact counted.congr (by simp only [sentReport_frame, withdraw_frame])
      (by simp only [sentReport_frame, withdraw_frame]) (by simp only [sentReport_frame, withdraw_frame])

/-- A count that rises keeps LINE_FAULT to it through the test for the entry (R16). -/
theorem FaultFits.checkFault {s : State} (held : s.line.fault = true → Config.faultExit ≤ s.line.errors ∨ s.line.stuck = true)
    (clear : s.line.fault = false → s.line.stuck = false) : FaultFits (checkFault s).line := by
  by_cases h : s.line.fault = true ∨ s.line.errors < Config.faultEntry
  · rw [checkFault_of_stays h]
    unfold FaultFits
    split
    · next fault => exact held fault
    · next fault => exact ⟨h.resolve_left fault, clear (by simpa using fault)⟩
  · rw [not_or, Bool.not_eq_true, Nat.not_lt] at h
    obtain ⟨fault, high⟩ := h
    have exits : Config.faultExit ≤ s.line.errors := Nat.le_trans (by decide) high
    simp [checkFault_of_enters fault high, FaultFits, exits]

theorem satAdd_errors_ge {e k m : Nat} (h : m ≤ e) (hm : m ≤ Config.maxErrors) : m ≤ satAdd Config.maxErrors e k :=
  Nat.le_min.mpr ⟨hm, Nat.le_add_right_of_le h⟩

/-- What LINE_FAULT rests on is kept as the count rises. -/
theorem FaultFits.held_of_rise {l : Line} (h : FaultFits l) (fault : l.fault = true) (k : Nat) :
    Config.faultExit ≤ satAdd Config.maxErrors l.errors k ∨ l.stuck = true := by
  rw [FaultFits, if_pos fault] at h
  exact h.imp (fun exits => satAdd_errors_ge exits (by decide)) id

/-- A line block that stands empty has left LINE_FAULT. -/
theorem FaultFits.of_emptied {l l' : Line} {rx : Receiver}
    (h : l' = ({ l with txList := [], inFlight := none, errors := 0, stuck := false, fault := false } : Line).switched
      false rx) : FaultFits l' :=
  .of_clear (by simp [h]) (by simp [h]) (by simp [h])

theorem FaultFits.failAttempt {s : State} (h : FaultFits s.line) (i : InFlight) (cause : BitErrorCause) :
    FaultFits (failAttempt i cause s).line := by
  rw [failAttempt_eq]
  refine FaultFits.checkFault ?_ ?_
  · simpa using fun fault => h.held_of_rise fault 8
  · simpa using fun fault => (h.clear fault).2

theorem FaultFits.enterFault {s : State} (h : Config.faultExit ≤ s.line.errors ∨ s.line.stuck = true) :
    FaultFits (enterFault s).line := by
  simpa [FaultFits] using h

theorem parkOrder_faultFits {s : State} (h : FaultFits s.line) : FaultFits (parkOrder s).line := by
  unfold parkOrder
  split
  · refine FaultFits.of_emptied (l := s.line) (rx := s.waits 0) ?_
    simp [parkTool, emptyTool_line (c := .parked) rfl]
  · exact h

/-- Every effect keeps LINE_FAULT to the count. -/
theorem Effect.faultFits {s t : State} (h : Effect s t) (hs : FaultFits s.line) : FaultFits t.line := by
  cases h with
  | supplyDrops on => exact .of_emptied ((refreshNotices_line _).trans (parkOvertaking_line _ _ _))
  | settleFails due => exact .of_emptied ((refreshNotices_line _).trans (parkOvertaking_line _ _ _))
  | holdLimitExpires due => exact .of_emptied ((refreshNotices_line _).trans (parkOvertaking_line _ _ _))
  | breakExpires due => exact .of_emptied ((refreshNotices_line _).trans (teardown_line _))
  | lineIdles receiving => exact hs.lineRecessive
  | bitError cause inFlight => exact hs.failAttempt _ cause
  | @sent i inFlight => exact (hs.completeAttempt i).congr (by simp) (by simp) (by simp)
  | receiveError cause receiving =>
    exact FaultFits.checkFault (fun fault => hs.held_of_rise fault 1) fun fault => (hs.clear fault).2
  | stuckAgain enabled fault =>
    rw [refreshNotices_line, FaultFits, State.withLine_line, if_pos fault]
    exact .inr rfl
  | stuckEnters enabled fault => exact FaultFits.enterFault (.inr rfl)
  | foreign receiving => exact hs.goodFrame.congr (by simp) (by simp) (by simp)
  | received receiving form => exact hs.goodFrame.congr (by simp) (by simp) (by simp)
  | lossExpires entry due => exact hs.congr (by split <;> simp) (by split <;> simp) (by split <;> simp)
  | orderPark idle opcode phase =>
    exact (parkOrder_faultFits (s := beginOrder s) hs).congr (by simp) (by simp) (by simp)
  | _ => exact hs.congr (by simp) (by simp) (by simp)

/-- Settles O8: by `Effect.lineAgrees`, `Effect.takesEnable` and `Effect.faultFits`; a reset switches the line interface off. -/
theorem lineAndFaultStayInAgreement : Obligations.LineAndFaultStayInAgreement := by
  refine ⟨fun s t hs h => ?agrees, fun c s t h => ?takes, fun s t hs h => ?fault⟩
  case agrees =>
    refine invariant_of_effects (Q := LineAgrees) ?_ (fun _ => id) (fun _ => IsReset.lineAgrees)
      (fun s t hs act => act.lineAgrees hs) hs h
    intro s t same hs
    rw [same]
    exact hs
  case takes =>
    by_cases hreset : c = .reset
    · subst hreset
      obtain rfl := Host.Outcome.next.inj h
      exact takesEnable_of_off rfl fun _ => ⟨rfl, rfl, rfl⟩
    by_cases hrestart : c = .restart
    · subst hrestart
      obtain rfl := Host.Outcome.next.inj h
      exact takesEnable_of_off rfl fun _ => ⟨rfl, rfl, rfl⟩
    · obtain ⟨u, hu, act⟩ := exec_acts c s hreset hrestart
      obtain rfl := Host.Outcome.next.inj (hu.symm.trans h)
      exact act.takesEnable
  case fault =>
    refine invariant_of_effects (Q := FaultFollowsCount) ?_ (fun _ => id) (fun _ => IsReset.faultFollowsCount)
      (fun s t hs act => act.faultFits hs) hs h
    intro s t same hs
    rw [same]
    exact hs

end Sys2Proof.Machine

/-! The coupling monitor and the tool supply (03 section 3.3, 04): the deadlines and the freeze beside the coupling states, and
the tool state beside the supply. -/

namespace Sys2Proof.Machine

/-! ### Deadlines and freeze beside the coupling state (R43, R53, R57, R59, R65) -/

theorem CouplingAgrees.congr {s t : State} (h : CouplingAgrees s) (coupling : t.coupling = s.coupling)
    (frozen : t.time.frozen = s.time.frozen) : CouplingAgrees t := by
  rwa [CouplingAgrees, coupling, frozen]

/-- In a state that is neither HELD nor BREAKING no hold limit runs and no freeze stands. -/
theorem CouplingAgrees.none_outside {s : State} (h : CouplingAgrees s) (held : s.coupling.state ≠ .held)
    (breaking : s.coupling.state ≠ .breaking) : s.coupling.holdLimit = none ∧ s.time.frozen = false := by
  obtain ⟨_, _, limit, freeze⟩ := h
  constructor
  · by_contra armed
    exact ((limit (Option.isSome_iff_ne_none.mpr armed)).1).elim held breaking
  · by_contra frozen
    exact ((freeze (by simpa using frozen)).1).elim held breaking

theorem couplingAgrees_of_idle {s : State} (make : s.coupling.make.isSome = (s.coupling.state == .making))
    (brk : s.coupling.brk.isSome = (s.coupling.state == .breaking)) (limit : s.coupling.holdLimit = none)
    (unfrozen : s.time.frozen = false) : CouplingAgrees s :=
  ⟨make, brk, by simp [limit], by simp [unfrozen]⟩

theorem CouplingAgrees.enterMaking {s : State} (brk : s.coupling.brk = none) (limit : s.coupling.holdLimit = none)
    (unfrozen : s.time.frozen = false) : CouplingAgrees (enterMaking s) :=
  couplingAgrees_of_idle (by simp) (by simp [brk]) (by simp [limit]) (by simp [unfrozen])

theorem CouplingAgrees.enterCoupled {s : State} (make : s.coupling.make = none) : CouplingAgrees (enterCoupled s) :=
  couplingAgrees_of_idle (by simp [enterCoupled_coupling, make]) (by simp [enterCoupled_coupling])
    (by simp [enterCoupled_coupling]) (by simp)

theorem CouplingAgrees.enterOpen {s : State} (brk : s.coupling.brk = none) (unfrozen : s.time.frozen = false) :
    CouplingAgrees (enterOpen s) := by
  cases mated : s.mated with
  | true =>
    have coupling := enterOpen_coupling_of_mated mated
    exact couplingAgrees_of_idle (by simp [coupling]) (by simp [coupling, brk]) (by simp [coupling]) (by simp [unfrozen])
  | false =>
    have coupling := enterOpen_coupling_of_not_mated mated
    exact couplingAgrees_of_idle (by simp [coupling]) (by simp [coupling, brk]) (by simp [coupling]) (by simp [unfrozen])

/-- HELD is entered with no make or break deadline, and a hold limit or a freeze only with the supply up. -/
theorem CouplingAgrees.enterHeld {s : State} (make : s.coupling.make = none) (brk : s.coupling.brk = none)
    (limit : s.coupling.holdLimit.isSome → s.coupling.supply ≠ .off)
    (freeze : s.time.frozen = true → s.coupling.supply ≠ .off) : CouplingAgrees (enterHeld s) := by
  refine ⟨by simp [make], by simp [brk], fun armed => ⟨by simp, ?_⟩, fun frozen => ⟨by simp, ?_⟩⟩
  · rw [enterHeld_coupling] at armed ⊢
    dsimp only at armed ⊢
    split at armed
    · next arms => exact arms.2.1
    · exact limit armed
  · simpa using freeze (by simpa using frozen)

theorem CouplingAgrees.enterBreaking {s : State} (make : s.coupling.make = none)
    (limit : s.coupling.holdLimit.isSome → s.coupling.supply ≠ .off)
    (freeze : s.time.frozen = true → s.coupling.supply ≠ .off) : CouplingAgrees (enterBreaking s) := by
  refine ⟨by simp [make], by simp, fun armed => ⟨by simp, ?_⟩, fun frozen => ⟨by simp, ?_⟩⟩
  · simpa using limit (by simpa using armed)
  · simpa using freeze (by simpa using frozen)

theorem CouplingAgrees.make_eq_none {s : State} (h : CouplingAgrees s) (other : s.coupling.state ≠ .making) :
    s.coupling.make = none := by
  obtain ⟨make, _⟩ := h
  rwa [beq_eq_false_iff_ne.mpr other, Option.isSome_eq_false_iff, Option.isNone_iff_eq_none] at make

theorem CouplingAgrees.brk_eq_none {s : State} (h : CouplingAgrees s) (other : s.coupling.state ≠ .breaking) :
    s.coupling.brk = none := by
  obtain ⟨_, brk, _⟩ := h
  rwa [beq_eq_false_iff_ne.mpr other, Option.isSome_eq_false_iff, Option.isNone_iff_eq_none] at brk

/-- A freeze that begins with the supply up, or stands with it up. -/
theorem beginFreeze_supply {s : State} (freeze : s.time.frozen = true → s.coupling.supply ≠ .off)
    (frozen : (beginFreeze s).time.frozen = true) : (beginFreeze s).coupling.supply ≠ .off := by
  rw [beginFreeze_time] at frozen
  split at frozen
  · simpa using freeze frozen
  · next begins => simpa using (not_or.mp begins).2

theorem CouplingAgrees.matesMet {s : State} (h : CouplingAgrees s) : CouplingAgrees (matesMet s) := by
  unfold Machine.matesMet
  split
  case h_1 isOpen =>
    obtain ⟨limit, unfrozen⟩ := h.none_outside (by simp [isOpen]) (by simp [isOpen])
    exact CouplingAgrees.enterMaking (h.brk_eq_none (by simp [isOpen])) limit unfrozen
  case h_2 breaking =>
    have make := h.make_eq_none (by simp [breaking])
    obtain ⟨_, _, limit, freeze⟩ := h
    cases lock : s.pins.lock with
    | true => rw [coupleByLock_of_lock (by simpa using lock)]; exact CouplingAgrees.enterCoupled make
    | false =>
      rw [coupleByLock_of_not_lock (by simpa using lock)]
      exact CouplingAgrees.enterHeld make rfl (fun armed => (limit armed).2) fun frozen => (freeze frozen).2
  all_goals exact h

theorem CouplingAgrees.mateParted {s : State} (h : CouplingAgrees s) : CouplingAgrees (mateParted s) := by
  unfold Machine.mateParted
  split
  case h_1 making =>
    obtain ⟨_, unfrozen⟩ := h.none_outside (by simp [making]) (by simp [making])
    exact CouplingAgrees.enterOpen (h.brk_eq_none (by simp [making])) unfrozen
  case h_2 coupled =>
    obtain ⟨limit, unfrozen⟩ := h.none_outside (by simp [coupled]) (by simp [coupled])
    refine CouplingAgrees.enterBreaking ?_ (by simp [limit]) (beginFreeze_supply (by simp [unfrozen]))
    simpa using h.make_eq_none (by simp [coupled])
  case h_3 held =>
    have make := h.make_eq_none (by simp [held])
    obtain ⟨_, _, limit, freeze⟩ := h
    exact CouplingAgrees.enterBreaking make (fun armed => (limit armed).2) fun frozen => (freeze frozen).2
  all_goals exact h

/-- A park leaves the coupling state with its make and break deadlines, and nothing that waits for the supply. -/
theorem CouplingAgrees.parkTool {s : State} (h : CouplingAgrees s) (kind : ChangeKind) (detail : Nat) :
    CouplingAgrees (parkTool kind detail s) := by
  obtain ⟨make, brk, _⟩ := h
  exact couplingAgrees_of_idle (by simpa [Machine.parkTool] using make) (by simpa [Machine.parkTool] using brk)
    (by simp [Machine.parkTool]) (by simp [Machine.parkTool])

theorem CouplingAgrees.parkOvertaking {s : State} (make : s.coupling.make.isSome = (s.coupling.state == .making))
    (brk : s.coupling.brk.isSome = (s.coupling.state == .breaking)) (kind : ChangeKind) (detail : Nat) :
    CouplingAgrees (parkOvertaking kind detail s) :=
  couplingAgrees_of_idle (by simpa [Machine.parkOvertaking, Machine.parkTool] using make)
    (by simpa [Machine.parkOvertaking, Machine.parkTool] using brk) (by simp [Machine.parkOvertaking, Machine.parkTool])
    (by simp [Machine.parkOvertaking, Machine.parkTool])

theorem CouplingAgrees.goOrder {s : State} (h : CouplingAgrees s) (isOpen : s.coupling.state = .openState) :
    CouplingAgrees (goOrder s) := by
  unfold Machine.goOrder
  split
  · exact h
  · dsimp only
    split
    · obtain ⟨limit, unfrozen⟩ := h.none_outside (by simp [isOpen]) (by simp [isOpen])
      refine (CouplingAgrees.enterMaking (s := s.withOrder { s.order with phase := .run })
        (h.brk_eq_none (by simp [isOpen])) limit unfrozen).congr (by simp) (by simp)
    · exact h

theorem CouplingAgrees.parkOrder {s : State} (h : CouplingAgrees s) : CouplingAgrees (parkOrder s) := by
  unfold Machine.parkOrder
  split
  · exact h.parkTool _ _
  · exact h

theorem CouplingAgrees.unparkOrder {s : State} (h : CouplingAgrees s) : CouplingAgrees (unparkOrder s) := by
  unfold Machine.unparkOrder
  split
  · next parked =>
    obtain ⟨_, coupled⟩ := parked
    split
    · obtain ⟨limit, unfrozen⟩ := h.none_outside (by simp [coupled]) (by simp [coupled])
      obtain ⟨make, brk, _⟩ := h
      exact couplingAgrees_of_idle (by simpa using make) (by simpa using brk) (by simpa using limit) (by simpa using unfrozen)
    · exact h
  · exact h

theorem State.isSome_of_due {s : State} {d : Option Time} (h : s.due d = true) : d.isSome = true := by
  obtain ⟨v, rfl, _⟩ := due_iff_reached.mp h
  rfl

theorem CouplingAgrees.refreshNotices {s : State} (h : CouplingAgrees s) : CouplingAgrees (refreshNotices s) := h

theorem CouplingAgrees.closed {s before : State} {bytes : List Byte} (h : CouplingAgrees s) :
    CouplingAgrees (clockOut before bytes (close s)) :=
  h.congr (by simp) (by simp)

/-- Every effect keeps the coupling's deadlines and the freeze to its state. -/
theorem Effect.couplingAgrees {s t : State} (h : Effect s t) (supply : SupplyAgrees s) (hs : CouplingAgrees s) :
    CouplingAgrees t := by
  obtain ⟨make, brk, limit, freeze⟩ := id hs
  cases h with
  | mated inputs lock phase =>
    refine CouplingAgrees.refreshNotices (CouplingAgrees.matesMet ?_)
    exact hs
  | parted inputs phase =>
    refine CouplingAgrees.refreshNotices (CouplingAgrees.mateParted ?_)
    exact hs
  | lockEngages phase held =>
    refine CouplingAgrees.refreshNotices (CouplingAgrees.enterCoupled ?_)
    exact hs.make_eq_none (by simp [held])
  | lockReleases phase coupled =>
    obtain ⟨noLimit, unfrozen⟩ := hs.none_outside (by simp [coupled]) (by simp [coupled])
    refine CouplingAgrees.refreshNotices
      (CouplingAgrees.enterHeld ?_ ?_ (by simp [noLimit]) (beginFreeze_supply (by simp [unfrozen])))
    · simpa using hs.make_eq_none (by simp [coupled])
    · simpa using hs.brk_eq_none (by simp [coupled])
  | supplyDrops on =>
    refine CouplingAgrees.refreshNotices (CouplingAgrees.parkOvertaking ?_ ?_ _ _)
    · exact make
    · exact brk
  | makeExpires due making =>
    obtain ⟨noLimit, unfrozen⟩ := hs.none_outside (by simp [making]) (by simp [making])
    refine CouplingAgrees.refreshNotices ?_
    cases lock : s.pins.lock with
    | true =>
      rw [coupleByLock_of_lock (by simpa using lock)]
      exact CouplingAgrees.enterCoupled rfl
    | false =>
      rw [coupleByLock_of_not_lock (by simpa using lock)]
      refine CouplingAgrees.enterHeld rfl ?_ (by simp [noLimit]) (by simp [unfrozen])
      exact hs.brk_eq_none (by simp [making])
  | makeLapses due other =>
    have armed := State.isSome_of_due due
    rw [hs.make_eq_none other] at armed
    exact absurd armed (by decide)
  | breakExpires due =>
    refine CouplingAgrees.refreshNotices (CouplingAgrees.enterOpen ?_ ?_)
    · simp
    · simp
  | settles due good =>
    refine CouplingAgrees.refreshNotices ?_
    have up {p : Prop} (h : p ∧ s.coupling.supply ≠ .off) : p ∧ SupplyState.on ≠ .off := ⟨h.1, by decide⟩
    exact ⟨by simpa using make, by simpa using brk, fun armed => by simpa using up (limit (by simpa using armed)),
      fun frozen => by simpa using up (freeze (by simpa [enterPowering] using frozen))⟩
  | settleFails due =>
    refine CouplingAgrees.refreshNotices (CouplingAgrees.parkOvertaking ?_ ?_ _ _)
    · exact make
    · exact brk
  | holdLimitExpires due =>
    refine CouplingAgrees.refreshNotices (CouplingAgrees.parkOvertaking ?_ ?_ _ _)
    · exact make
    · exact brk
  | lossExpires entry due => exact hs.congr (by split <;> simp) (by split <;> simp)
  | orderGo idle opcode phase =>
    obtain ⟨_, _, _, _, unstarted⟩ := supply
    refine CouplingAgrees.closed (CouplingAgrees.goOrder ?_ ?_)
    · exact hs
    · exact (unstarted phase).2
  | orderPark idle opcode phase =>
    refine CouplingAgrees.closed (CouplingAgrees.parkOrder ?_)
    exact hs
  | orderUnpark idle opcode phase =>
    refine CouplingAgrees.closed (CouplingAgrees.unparkOrder ?_)
    exact hs
  | _ => exact hs.congr (by simp) (by simp)

/-- Settles O14: each entry to a coupling state by its lemma. -/
theorem couplingStaysInAgreement : Obligations.CouplingStaysInAgreement := by
  intro s t supply hs h
  refine invariant_of_effects (Q := fun s => SupplyAgrees s ∧ CouplingAgrees s) ?_ (fun _ => And.right)
    (fun _ => IsReset.couplingAgrees) (fun s t hs act => act.couplingAgrees hs.1 hs.2) ⟨supply, hs⟩ h
  intro s t same hs
  rw [same]
  exact hs

end Sys2Proof.Machine

/-! The tool state and the supply (04 sections 4.4 to 4.7): the census is line-active exactly while the supply is ON, and no
tool state stands while it is not (R62, R66, R69). -/

namespace Sys2Proof.Machine

/-! ### No tool state -/

theorem ToolEmpty.releaseFreeze {s : State} (h : ToolEmpty s) : ToolEmpty (releaseFreeze s) := by
  unfold Machine.releaseFreeze
  split
  · obtain ⟨roster, claims, tickets, requests, serving, list, flying, beat, firstFrame, quiet, deadline, window⟩ := h
    simp [ToolEmpty, roster, claims, tickets, requests, serving, list, flying, beat, firstFrame, quiet, deadline, window,
      Roster.reset, moved]
  · exact h

theorem Line.switched_inFlight_of_none {l : Line} (h : l.inFlight = none) (on : Bool) (rx : Receiver) :
    (l.switched on rx).inFlight = none := by
  unfold Line.switched
  split
  · exact h
  · split
    · exact h
    · rfl

/-- A switch of the line interface keeps an empty tool state empty, as long as the other blocks stand. -/
theorem ToolEmpty.switched {s t : State} {on : Bool} {rx : Receiver} (h : ToolEmpty s) (line : t.line = s.line.switched on rx)
    (roster : t.roster = s.roster) (naming : t.naming = s.naming) (service : t.service = s.service)
    (census : t.census = s.census) (beat : t.time.beat = s.time.beat) (order : t.order = s.order) : ToolEmpty t := by
  obtain ⟨hroster, claims, tickets, requests, serving, list, flying, hbeat, firstFrame, quiet, deadline, window⟩ := h
  have still := Line.switched_inFlight_of_none flying on rx
  simp [ToolEmpty, line, roster, naming, service, census, beat, order, hroster, claims, tickets, requests, serving, list,
    still, hbeat, firstFrame, quiet, deadline, window]

theorem ToolEmpty.enterMaking {s : State} (h : ToolEmpty s) : ToolEmpty (enterMaking s) :=
  h.switched (enterMaking_line s) (by simp) (by simp) (by simp) (by simp) (by simp) (by simp)

theorem ToolEmpty.enterHeld {s : State} (h : ToolEmpty s) : ToolEmpty (enterHeld s) :=
  h.switched (enterHeld_line s) (by simp) (by simp) (by simp) (by simp) (by simp) (by simp)

theorem ToolEmpty.enterBreaking {s : State} (h : ToolEmpty s) : ToolEmpty (enterBreaking s) :=
  h.switched (enterBreaking_line s) (by simp) (by simp) (by simp) (by simp) (by simp) (by simp)

theorem ToolEmpty.enterOpen {s : State} (h : ToolEmpty s) : ToolEmpty (enterOpen s) :=
  h.switched (enterOpen_line s) (by simp) (by simp) (by simp) (by simp) (by simp) (by simp)

theorem ToolEmpty.enterCoupled {s : State} (h : ToolEmpty s) : ToolEmpty (enterCoupled s) := by
  refine h.releaseFreeze.switched (on := (Machine.enterCoupled s).enableCondition) (rx := s.waits 0) ?_ ?_ ?_ ?_ ?_ ?_ ?_
  · rw [enterCoupled_line]
    simp
  all_goals simp

theorem ToolEmpty.coupleByLock {s : State} (h : ToolEmpty s) : ToolEmpty (coupleByLock s) := by
  cases lock : s.pins.lock with
  | true => rw [coupleByLock_of_lock lock]; exact h.enterCoupled
  | false => rw [coupleByLock_of_not_lock lock]; exact h.enterHeld

theorem ToolEmpty.beginFreeze {s : State} (h : ToolEmpty s) : ToolEmpty (beginFreeze s) := by
  have beat : (Machine.beginFreeze s).time.beat = s.time.beat := by
    rw [beginFreeze_time]
    split <;> rfl
  simpa [ToolEmpty, beat] using h

theorem ToolEmpty.matesMet {s : State} (h : ToolEmpty s) : ToolEmpty (matesMet s) := by
  unfold Machine.matesMet
  split
  case h_1 => exact h.enterMaking
  case h_2 => exact ToolEmpty.coupleByLock (by simpa [ToolEmpty] using h)
  all_goals exact h

theorem ToolEmpty.mateParted {s : State} (h : ToolEmpty s) : ToolEmpty (mateParted s) := by
  unfold Machine.mateParted
  split
  case h_1 => exact h.enterOpen
  case h_2 => exact h.beginFreeze.enterBreaking
  case h_3 => exact h.enterBreaking
  all_goals exact h

theorem toolEmpty_parkTool (kind : ChangeKind) (detail : Nat) (s : State) : ToolEmpty (parkTool kind detail s) := by
  have empty : ToolEmpty (emptyTool .parked s) := toolEmpty_emptyTool rfl s
  simpa [ToolEmpty, parkTool] using empty

/-- An ended order has no window (R177), so an ending keeps the tool state empty. -/
theorem ToolEmpty.endOrder {s : State} (h : ToolEmpty s) (error : Option OrderError) (detail : Nat) :
    ToolEmpty (endOrder error detail s) := by
  obtain ⟨roster, claims, tickets, requests, serving, list, flying, beat, firstFrame, quiet, deadline, _⟩ := h
  simp [ToolEmpty, roster, claims, tickets, requests, serving, list, flying, beat, firstFrame, quiet, deadline]

theorem ToolEmpty.overtakeOrder {s : State} (h : ToolEmpty s) : ToolEmpty (overtakeOrder s) := by
  unfold Machine.overtakeOrder
  split
  · exact h.endOrder _ _
  · exact h

theorem toolEmpty_parkOvertaking (kind : ChangeKind) (detail : Nat) (s : State) :
    ToolEmpty (parkOvertaking kind detail s) :=
  (toolEmpty_parkTool kind detail s).overtakeOrder

theorem toolEmpty_teardown (s : State) : ToolEmpty (teardown s) := by
  have empty : ToolEmpty (emptyTool .absent s) := toolEmpty_emptyTool rfl s
  exact (ToolEmpty.overtakeOrder (by simpa [ToolEmpty] using empty)).enterOpen

theorem ToolEmpty.refreshNotices {s : State} (h : ToolEmpty s) : ToolEmpty (refreshNotices s) := h

theorem ToolEmpty.clockOut {s before : State} {bytes : List Byte} (h : ToolEmpty s) : ToolEmpty (clockOut before bytes s) := h

/-- The quiet condition is tested only in a line-active census. -/
theorem testQuiet_of_not_lineActive {s : State} (h : s.census.state.lineActive = false) : testQuiet s = s := by
  unfold testQuiet
  split <;> simp_all [CensusState.lineActive]

theorem ToolEmpty.close {s : State} (h : ToolEmpty s) (off : s.census.state.lineActive = false) : ToolEmpty (close s) := by
  rw [Machine.close, testQuiet_of_not_lineActive off]
  exact h

/-! ### The supply beside the census -/

/-- The agreement of an event that moves neither supply nor census activity: what it does to an empty tool state is left to
show. -/
theorem SupplyAgrees.congr {s t : State} (h : SupplyAgrees s)
    (active : t.census.state.lineActive = s.census.state.lineActive) (supply : t.coupling.supply = s.coupling.supply)
    (supplyEn : t.pins.supplyEn = s.pins.supplyEn) (settle : t.coupling.settle = s.coupling.settle)
    (phase : t.order.phase = .setup → s.order.phase = .setup ∧ t.coupling.state = s.coupling.state)
    (empty : s.census.state.lineActive = false → ToolEmpty s → ToolEmpty t) : SupplyAgrees t := by
  obtain ⟨hactive, hempty, hsupplyEn, hsettle, hphase⟩ := h
  refine ⟨by rw [active, supply, hactive], fun off => ?_, by rw [supplyEn, supply, hsupplyEn],
    by rw [settle, supply, hsettle], fun starts => ?_⟩
  · rw [active] at off
    exact empty off (hempty off)
  · obtain ⟨before, state⟩ := phase starts
    rw [supply, state]
    exact hphase before

/-- A park and a teardown leave the supply OFF and no tool state. -/
theorem supplyAgrees_of_emptied {t : State} (active : t.census.state.lineActive = false) (empty : ToolEmpty t)
    (supply : t.coupling.supply = .off) (supplyEn : t.pins.supplyEn = false) (settle : t.coupling.settle = none)
    (phase : t.order.phase ≠ .setup) : SupplyAgrees t :=
  ⟨by rw [active, supply]; rfl, fun _ => empty, by rw [supplyEn, supply]; rfl, by rw [settle, supply]; rfl,
    fun starts => absurd starts phase⟩

section

variable {s : State} (h : SupplyAgrees s)
include h

theorem SupplyAgrees.lineActive_iff : s.census.state.lineActive = true ↔ s.coupling.supply = .on := by
  rw [h.1, beq_iff_eq]

theorem SupplyAgrees.toolEmpty (off : s.census.state.lineActive = false) : ToolEmpty s := by
  obtain ⟨_, empty, _⟩ := h
  exact empty off

theorem SupplyAgrees.phase_run_of_supply (up : s.coupling.supply ≠ .off) : s.order.phase ≠ .setup := by
  obtain ⟨_, _, _, _, unstarted⟩ := h
  exact fun starts => up (unstarted starts).1

theorem SupplyAgrees.phase_run_of_state (moved : s.coupling.state ≠ .openState) : s.order.phase ≠ .setup := by
  obtain ⟨_, _, _, _, unstarted⟩ := h
  exact fun starts => moved (unstarted starts).2

/-- What runs a settle deadline is a ramping supply. -/
theorem SupplyAgrees.ramping_of_settle (due : s.due s.coupling.settle = true) : s.coupling.supply = .ramping := by
  obtain ⟨_, _, _, settle, _⟩ := h
  rw [State.isSome_of_due due] at settle
  exact beq_iff_eq.mp settle.symm

end

/-- COUPLED is entered in the RUN phase with the supply as it was, or RAMPING from OFF; the census is no more active. -/
theorem SupplyAgrees.enterCoupled {s : State} (h : SupplyAgrees s) (run : s.order.phase = .run) :
    SupplyAgrees (enterCoupled s) := by
  have active : (Machine.enterCoupled s).census.state.lineActive = s.census.state.lineActive := by simp
  have phase : (Machine.enterCoupled s).order.phase ≠ .setup := by simp [run]
  have keptEmpty : (Machine.enterCoupled s).census.state.lineActive = false → ToolEmpty (Machine.enterCoupled s) :=
    fun off => (h.toolEmpty (active ▸ off)).enterCoupled
  by_cases ramps : s.order.phase = .run ∧ s.coupling.supply = .off ∧ s.census.state ≠ .parked
  · have off : s.coupling.supply = .off := ramps.2.1
    have inactive : s.census.state.lineActive = false := by rw [h.1, off]; rfl
    refine ⟨?_, keptEmpty, ?_, ?_, fun starts => absurd starts phase⟩
    · rw [active, inactive, enterCoupled_coupling, if_pos ramps]
      rfl
    · rw [enterCoupled_supplyEn, enterCoupled_coupling, if_pos ramps, if_pos ramps]
      rfl
    · rw [enterCoupled_coupling, if_pos ramps, if_pos ramps]
      rfl
  · refine h.congr active ?_ ?_ ?_ (fun starts => absurd starts phase) fun _ empty => empty.enterCoupled
    · rw [enterCoupled_coupling, if_neg ramps]
    · rw [enterCoupled_supplyEn, if_neg ramps]
    · rw [enterCoupled_coupling, if_neg ramps, if_neg ramps]

theorem SupplyAgrees.coupleByLock {s : State} (h : SupplyAgrees s) (run : s.order.phase = .run) :
    SupplyAgrees (coupleByLock s) := by
  cases lock : s.pins.lock with
  | true => rw [coupleByLock_of_lock lock]; exact h.enterCoupled run
  | false =>
    rw [coupleByLock_of_not_lock lock]
    exact h.congr (by simp) (by simp) (by simp) (by simp) (by simp [run]) fun _ empty => empty.enterHeld

theorem SupplyAgrees.matesMet {s : State} (h : SupplyAgrees s) (run : s.order.phase = .run) :
    SupplyAgrees (matesMet s) := by
  unfold Machine.matesMet
  split
  case h_1 => exact h.congr (by simp) (by simp) (by simp) (by simp) (by simp [run]) fun _ empty => empty.enterMaking
  case h_2 =>
    refine SupplyAgrees.coupleByLock ?_ run
    exact h.congr rfl rfl rfl rfl (by simp [run]) fun _ => id
  all_goals exact h

theorem SupplyAgrees.mateParted {s : State} (h : SupplyAgrees s) (run : s.order.phase = .run) :
    SupplyAgrees (mateParted s) := by
  unfold Machine.mateParted
  split
  case h_1 => exact h.congr (by simp) (by simp) (by simp) (by simp) (by simp [run]) fun _ empty => empty.enterOpen
  case h_2 =>
    exact h.congr (by simp) (by simp) (by simp) (by simp) (by simp [run]) fun _ empty => empty.beginFreeze.enterBreaking
  case h_3 => exact h.congr (by simp) (by simp) (by simp) (by simp) (by simp [run]) fun _ empty => empty.enterBreaking
  all_goals exact h

theorem supplyAgrees_parkTool {s : State} (run : s.order.phase ≠ .setup) (kind : ChangeKind) (detail : Nat) :
    SupplyAgrees (parkTool kind detail s) :=
  supplyAgrees_of_emptied (by simp [parkTool, CensusState.lineActive]) (toolEmpty_parkTool kind detail s)
    (by simp [parkTool]) (by simp [parkTool]) (by simp [parkTool]) (by simpa [parkTool] using run)

theorem supplyAgrees_parkOvertaking {s : State} (run : s.order.phase ≠ .setup) (kind : ChangeKind) (detail : Nat) :
    SupplyAgrees (parkOvertaking kind detail s) :=
  supplyAgrees_of_emptied (by simp [parkOvertaking, parkTool, CensusState.lineActive])
    (toolEmpty_parkOvertaking kind detail s) (by simp [parkOvertaking, parkTool]) (by simp [parkOvertaking, parkTool])
    (by simp [parkOvertaking, parkTool]) (by simpa [parkOvertaking, parkTool] using run)

theorem supplyAgrees_teardown {s : State} (run : s.order.phase ≠ .setup) : SupplyAgrees (teardown s) :=
  supplyAgrees_of_emptied (by simp [teardown, CensusState.lineActive]) (toolEmpty_teardown s) (by simp [teardown])
    (by simp [teardown]) (by simp [teardown]) (by simpa using run)

/-- An order's ending moves nothing of the supply. -/
theorem SupplyAgrees.endOrder {s : State} (h : SupplyAgrees s) (error : Option OrderError) (detail : Nat) :
    SupplyAgrees (endOrder error detail s) :=
  h.congr rfl rfl rfl rfl (fun starts => ⟨starts, rfl⟩) fun _ empty => empty.endOrder error detail

theorem SupplyAgrees.goOrder {s : State} (h : SupplyAgrees s) : SupplyAgrees (goOrder s) := by
  unfold Machine.goOrder
  split
  · exact h.endOrder _ _
  · dsimp only
    have begun : SupplyAgrees (s.withOrder { s.order with phase := .run }) :=
      h.congr rfl rfl rfl rfl nofun fun _ => id
    split
    · refine SupplyAgrees.endOrder ?_ _ _
      exact begun.congr (by simp) (by simp) (by simp) (by simp) (by simp) fun _ empty => empty.enterMaking
    · exact begun.endOrder _ _

theorem SupplyAgrees.parkOrder {s : State} (h : SupplyAgrees s) : SupplyAgrees (parkOrder s) := by
  unfold Machine.parkOrder
  split
  · next coupled =>
    refine SupplyAgrees.endOrder (supplyAgrees_parkTool (h.phase_run_of_state ?_) _ _) _ _
    obtain ⟨either, _⟩ := coupled
    rcases either with state | state <;> simp [state]
  · exact h.endOrder _ _

theorem SupplyAgrees.unparkOrder {s : State} (h : SupplyAgrees s) : SupplyAgrees (unparkOrder s) := by
  unfold Machine.unparkOrder
  split
  · next parked =>
    obtain ⟨census, coupled⟩ := parked
    refine SupplyAgrees.endOrder ?_ _ _
    split
    · have inactive : s.census.state.lineActive = false := by rw [census]; rfl
      have run : s.order.phase ≠ .setup := h.phase_run_of_state (by simp [coupled])
      exact ⟨inactive, fun _ => h.toolEmpty inactive, rfl, rfl,
        fun starts => absurd starts run⟩
    · exact h
  · exact h.endOrder _ _

theorem ToolEmpty.holder_eq_none {s : State} (h : ToolEmpty s) (n : Name) : s.holder n = none := by
  obtain ⟨roster, _⟩ := h
  simp [State.holder, roster, Roster.reset]

theorem SupplyAgrees.refreshNotices {s : State} (h : SupplyAgrees s) : SupplyAgrees (refreshNotices s) := h

theorem SupplyAgrees.clockOut {s before : State} {bytes : List Byte} (h : SupplyAgrees s) :
    SupplyAgrees (clockOut before bytes s) := h

theorem SupplyAgrees.close {s : State} (h : SupplyAgrees s) : SupplyAgrees (close s) :=
  h.congr (by simp) (by simp) (by simp) (by simp) (by simp) fun off empty => empty.close off

/-! #### Effects in a census that is not line-active -/

/-- Nothing is received, sent or expires where no tool state stands. -/
theorem LineAgrees.not_enabled {s : State} (h : LineAgrees s) (off : s.census.state.lineActive = false) :
    s.line.enabled = false := by
  rw [(lineAgrees_iff.mp h).1, enableCondition_of_not_lineActive off]

theorem LineAgrees.lineActive_of_enabled {s : State} (h : LineAgrees s) (enabled : s.line.enabled = true) :
    s.census.state.lineActive = true := by
  by_contra off
  rw [h.not_enabled (Bool.not_eq_true _ ▸ off)] at enabled
  exact absurd enabled (by decide)

theorem LineAgrees.lineActive_of_receiving {s : State} (h : LineAgrees s) (receiving : s.receiving = true) :
    s.census.state.lineActive = true := by
  exact h.lineActive_of_enabled (State.receiving_iff.mp receiving).1

/-- What some tool state stands for is a line-active census. -/
theorem SupplyAgrees.lineActive_of {s : State} (h : SupplyAgrees s) (stands : ¬ ToolEmpty s) :
    s.census.state.lineActive = true := by
  by_contra off
  exact stands (h.toolEmpty (Bool.not_eq_true _ ▸ off))

theorem SupplyAgrees.lineActive_of_entry {s : State} (h : SupplyAgrees s) {slot : Nat} {e : Entry}
    (entry : s.entryAt slot = some e) : s.census.state.lineActive = true := by
  by_contra off
  obtain ⟨roster, _⟩ := h.toolEmpty (Bool.not_eq_true _ ▸ off)
  simp [State.entryAt, roster, Roster.reset] at entry

/-- With the census line-active there is no empty tool state to keep. -/
theorem SupplyAgrees.congr_active {s t : State} (h : SupplyAgrees s) (on : s.census.state.lineActive = true)
    (active : t.census.state.lineActive = s.census.state.lineActive) (supply : t.coupling.supply = s.coupling.supply)
    (supplyEn : t.pins.supplyEn = s.pins.supplyEn) (settle : t.coupling.settle = s.coupling.settle)
    (phase : t.order.phase = s.order.phase) (state : t.coupling.state = s.coupling.state) : SupplyAgrees t :=
  h.congr active supply supplyEn settle (fun starts => ⟨phase ▸ starts, state⟩) fun off =>
    absurd (off.symm.trans on) (by decide)

theorem ToolEmpty.recallOrder {s : State} (h : ToolEmpty s) (off : s.census.state.lineActive = false) :
    ToolEmpty (recallOrder s) := by
  simpa [Machine.recallOrder, off] using h.endOrder (some .phase) 0

theorem ToolEmpty.pingOrder {s : State} (h : ToolEmpty s) : ToolEmpty (pingOrder s) := by
  unfold Machine.pingOrder
  simp only [h.holder_eq_none]
  split <;> exact h.endOrder _ _

theorem ToolEmpty.forgetOrder {s : State} (h : ToolEmpty s) : ToolEmpty (forgetOrder s) := by
  unfold Machine.forgetOrder
  simp only [h.holder_eq_none]
  split <;> exact h.endOrder _ _

theorem ToolEmpty.setupOrder {s : State} (h : ToolEmpty s) : ToolEmpty (setupOrder s) := by
  unfold Machine.setupOrder
  dsimp only
  split
  · exact h.endOrder _ _
  · exact ToolEmpty.endOrder (by simpa [ToolEmpty] using h) _ _

theorem ToolEmpty.planOrder {s : State} (h : ToolEmpty s) : ToolEmpty (planOrder s) := by
  unfold Machine.planOrder
  dsimp only
  split
  · split
    · exact h.endOrder _ _
    · split
      · exact h.endOrder _ _
      · exact ToolEmpty.endOrder (by simpa [ToolEmpty] using h) _ _
  · exact h.endOrder _ _

/-- Every effect keeps the census active exactly with the supply ON, and the tool state empty otherwise. -/
theorem Effect.supplyAgrees {s t : State} (h : Effect s t) (line : LineAgrees s) (coupling : CouplingAgrees s)
    (hs : SupplyAgrees s) : SupplyAgrees t := by
  have begun : SupplyAgrees (beginOrder s) :=
    hs.congr rfl rfl rfl rfl (fun starts => ⟨starts, rfl⟩) fun _ => id
  cases h with
  | level inputs =>
    rw [inputs]
    exact hs
  | mated inputs lock phase =>
    refine SupplyAgrees.refreshNotices (SupplyAgrees.matesMet ?_ (by simpa using phase))
    rw [inputs]
    exact hs
  | parted inputs phase =>
    refine SupplyAgrees.refreshNotices (SupplyAgrees.mateParted ?_ (by simpa using phase))
    rw [inputs]
    exact hs
  | lockEngages phase held =>
    refine SupplyAgrees.refreshNotices (SupplyAgrees.enterCoupled ?_ (by simpa using phase))
    exact hs
  | lockReleases phase coupled =>
    refine SupplyAgrees.refreshNotices (hs.congr (by simp) (by simp) (by simp) (by simp) (by simp [phase]) ?_)
    exact fun _ empty => ToolEmpty.enterHeld (ToolEmpty.beginFreeze empty)
  | supplyDrops on =>
    refine SupplyAgrees.refreshNotices (supplyAgrees_parkOvertaking ?_ _ _)
    exact hs.phase_run_of_supply (by simp [on])
  | makeExpires due making =>
    refine SupplyAgrees.refreshNotices (SupplyAgrees.coupleByLock ?_ ?_)
    · exact hs
    · have run := hs.phase_run_of_state (by simp [making])
      cases phase : s.order.phase with
      | setup => exact absurd phase run
      | run => simpa using phase
  | breakExpires due =>
    refine SupplyAgrees.refreshNotices (supplyAgrees_teardown ?_)
    refine hs.phase_run_of_state fun isOpen => ?_
    have armed := State.isSome_of_due due
    rw [coupling.brk_eq_none (by simp [isOpen])] at armed
    exact absurd armed (by decide)
  | settles due good =>
    have ramping := hs.ramping_of_settle due
    obtain ⟨_, _, supplyEn, _⟩ := id hs
    refine SupplyAgrees.refreshNotices ⟨by simp [enterPowering, CensusState.lineActive],
      by simp [enterPowering, CensusState.lineActive], ?_, by simp, fun starts => ?_⟩
    · rw [ramping] at supplyEn
      simp only [syncLine_frame, enterPowering_frame, State.withCoupling_pins,
        State.withCoupling_coupling]
      exact supplyEn
    · exact absurd (by simpa using starts) (hs.phase_run_of_supply (by simp [ramping]))
  | settleFails due =>
    refine SupplyAgrees.refreshNotices (supplyAgrees_parkOvertaking ?_ _ _)
    exact hs.phase_run_of_supply (by simp [hs.ramping_of_settle due])
  | holdLimitExpires due =>
    refine SupplyAgrees.refreshNotices (supplyAgrees_parkOvertaking ?_ _ _)
    obtain ⟨_, _, limit, _⟩ := coupling
    exact hs.phase_run_of_supply (limit (State.isSome_of_due due)).2
  | lineIdles receiving | foreignEdge receiving | receiveError cause receiving | foreign receiving
  | received receiving form =>
    exact hs.congr_active (line.lineActive_of_receiving receiving) (by simp) (by simp) (by simp) (by simp) (by simp)
      (by simp)
  | attemptBegins may =>
    exact hs.congr_active (line.lineActive_of_enabled (State.mayTransmit_iff.mp may).1) (by simp) (by simp) (by simp)
      (by simp) (by simp) (by simp)
  | arbitrationLost bits inFlight | bitError cause inFlight | sent inFlight =>
    exact hs.congr_active (line.lineActive_of_enabled (line.enabled_of_inFlight inFlight).1) (by simp) (by simp) (by simp)
      (by simp) (by simp) (by simp)
  | stuckAgain enabled fault | stuckEnters enabled fault =>
    exact hs.congr_active (line.lineActive_of_enabled enabled) (by simp) (by simp) (by simp) (by simp) (by simp) (by simp)
  | claimExpires entry due | silenceExpires entry due =>
    exact hs.congr_active (hs.lineActive_of_entry entry) (by simp) (by simp) (by simp) (by simp) (by simp) (by simp)
  | lossExpires entry due =>
    refine SupplyAgrees.close ?_
    split <;> exact hs.congr_active (hs.lineActive_of_entry entry) (by simp) (by simp) (by simp) (by simp) (by simp)
      (by simp)
  | probeWindowEnds n =>
    refine hs.congr (by simp) (by simp) (by simp) (by simp) (by simp) fun _ empty => ?_
    obtain ⟨roster, rest⟩ := empty
    exact ⟨by simp [leaveAsked, State.withAsked, roster, Roster.reset], by simpa using rest⟩
  | objectionWindowEnds x =>
    refine hs.congr (by simp) (by simp) (by simp) (by simp) (by simp) fun _ empty => ?_
    obtain ⟨roster, claims, rest⟩ := empty
    exact ⟨by simpa using roster, by simp [claims], by simpa using rest⟩
  | holdExpires claim =>
    refine hs.congr_active (hs.lineActive_of ?_) (by simp) (by simp) (by simp) (by simp) (by simp) (by simp)
    rintro ⟨_, claims, _⟩
    simp [State.claimOf, claims] at claim
  | ticketExpires k ticket =>
    refine hs.congr_active (hs.lineActive_of ?_) (by simp) (by simp) (by simp) (by simp) (by simp) (by simp)
    rintro ⟨_, _, tickets, _⟩
    simp [tickets] at ticket
  | firstFrameExpires powering =>
    have on : s.census.state.lineActive = true := by rw [powering]; rfl
    exact hs.congr_active on (by simp [on]) (by simp) (by simp) (by simp) (by simp) (by simp)
  | quietExpires quiet =>
    have on : s.census.state.lineActive = true := by rw [quiet]; rfl
    exact hs.congr_active on (by simp [on]) (by simp) (by simp) (by simp) (by simp) (by simp)
  | firstFrameLapses | quietLapses =>
    refine hs.congr rfl rfl rfl rfl (fun starts => ⟨starts, rfl⟩) fun _ empty => ?_
    obtain ⟨roster, claims, tickets, requests, serving, list, flying, beat, firstFrame, quiet, deadline, window⟩ := empty
    exact ⟨roster, claims, tickets, requests, serving, list, flying, beat, by simp [firstFrame], by simp [quiet], deadline,
      window⟩
  | censusExpires =>
    refine hs.congr (by simp) (by simp) (by simp) (by simp) (by simp) fun off empty => ?_
    obtain ⟨roster, claims, tickets, requests, serving, list, flying, beat, firstFrame, quiet, deadline, window⟩ := empty
    have overrun : censusOverrun (s.withCensus { s.census with deadline := none })
        = s.withCensus { s.census with deadline := none } := by
      unfold censusOverrun
      split <;> simp_all [CensusState.lineActive]
    rw [overrun]
    exact ⟨roster, claims, tickets, requests, serving, list, flying, beat, firstFrame, quiet, rfl, window⟩
  | pingWindowEnds =>
    refine hs.congr (by simp) (by simp) (by simp) (by simp) (by simp) fun _ empty => ToolEmpty.refreshNotices ?_
    obtain ⟨roster, claims, tickets, requests, serving, list, flying, beat, firstFrame, quiet, deadline, window⟩ := empty
    have closed : ToolEmpty (s.withOrder { s.order with pingWindow := none }) :=
      ⟨roster, claims, tickets, requests, serving, list, flying, beat, firstFrame, quiet, deadline, rfl⟩
    unfold endPingOrder
    split
    · exact closed.endOrder _ _
    · exact closed
  | beatMatches armed =>
    refine hs.congr_active (hs.lineActive_of ?_) (by simp) (by simp) (by simp) (by simp) (by simp) (by simp)
    rintro ⟨_, _, _, _, _, _, _, beat, _⟩
    simp [beat] at armed
  | taken choice =>
    refine hs.congr_active (hs.lineActive_of ?_) (by simp) (by simp) (by simp) (by simp) (by simp) (by simp)
    rintro ⟨_, _, _, requests, _⟩
    simp [State.takeChoice, State.openRequests, requests, highest] at choice
  | finished serving =>
    refine hs.congr_active (hs.lineActive_of ?_) (by simp) (by simp) (by simp) (by simp) (by simp) (by simp)
    rintro ⟨_, _, _, _, inService, _⟩
    simp [inService] at serving
  | orderRejected error idle => exact (begun.endOrder _ _).close.clockOut
  | orderSetup idle opcode phase =>
    refine SupplyAgrees.clockOut (SupplyAgrees.close ?_)
    exact begun.congr (by simp) (by simp) (by simp) (by simp) (by simp) fun _ empty => empty.setupOrder
  | orderPlan idle opcode phase =>
    refine SupplyAgrees.clockOut (SupplyAgrees.close ?_)
    exact begun.congr (by simp) (by simp) (by simp) (by simp) (by simp) fun _ empty => empty.planOrder
  | orderClearPlan idle opcode phase =>
    refine SupplyAgrees.clockOut (SupplyAgrees.close (SupplyAgrees.endOrder ?_ _ _))
    exact begun.congr rfl rfl rfl rfl (fun starts => ⟨starts, rfl⟩) fun _ empty => by simpa [ToolEmpty] using empty
  | orderGo idle opcode phase => exact begun.goOrder.close.clockOut
  | orderPark idle opcode phase => exact begun.parkOrder.close.clockOut
  | orderUnpark idle opcode phase => exact begun.unparkOrder.close.clockOut
  | orderRecall idle opcode phase =>
    refine SupplyAgrees.clockOut (SupplyAgrees.close ?_)
    exact begun.congr (by simp) (by simp) (by simp) (by simp) (by simp) fun off empty => empty.recallOrder off
  | orderPing idle opcode phase =>
    refine SupplyAgrees.clockOut (SupplyAgrees.close ?_)
    exact begun.congr (by simp) (by simp) (by simp) (by simp) (by simp) fun _ empty => empty.pingOrder
  | orderForget idle opcode phase =>
    refine SupplyAgrees.clockOut (SupplyAgrees.close ?_)
    exact begun.congr (by simp) (by simp) (by simp) (by simp) (by simp) fun _ empty => empty.forgetOrder
  | _ => exact hs.congr (by simp) (by simp) (by simp) (by simp) (by simp) fun _ empty => by simpa [ToolEmpty] using empty

/-- Settles O13: effects that need tool state need an active census (`LineAgrees`), and parks and teardowns empty it. -/
theorem toolStateNeedsSupply : Obligations.ToolStateNeedsSupply := by
  intro s t line coupling hs h
  refine invariant_of_effects (Q := fun s => LineAgrees s ∧ CouplingAgrees s ∧ SupplyAgrees s) ?_ (fun _ h => h.2.2)
    (fun _ => IsReset.supplyAgrees) (fun s t ⟨line, coupling, hs⟩ act => act.supplyAgrees line coupling hs)
    ⟨line, coupling, hs⟩ h
  intro s t same hs
  rw [same]
  exact hs

end Sys2Proof.Machine

/-! Moves of the roster, the naming unit and what they touch (05, 06, 08): the few changes that every frame, deadline and order
is made of, and what each asks of the roster. -/

namespace Sys2Proof.Machine

/-! ### Entries -/

/-- Every entry of identity x, of which a table has at most one, is so. -/
def State.EachOf (s : State) (x : Identity) (P : Entry → Prop) : Prop :=
  ∀ g ∈ s.roster.entries, g.identity = x → P g

theorem RosterOk.eachOf {s : State} (ok : RosterOk s) {e : Entry} (he : e ∈ s.roster.entries) {P : Entry → Prop} (h : P e) :
    s.EachOf e.identity P :=
  fun _ hg same => ok.eq_of_identity hg he same ▸ h

/-- The counts of an entry are within their limits (R83, R111). -/
def Entry.Bounded (e : Entry) : Prop := e.gaps ≤ Config.maxCount8 ∧ e.objections ≤ Config.maxObjections

/-- h stands where g stood, with the state, the name and the armed deadlines of g. -/
structure Entry.Touched (g h : Entry) : Prop where
  slot : h.slot = g.slot
  identity : h.identity = g.identity
  state : h.state = g.state
  name : h.name = g.name
  claimDl : h.claimDl.isSome = g.claimDl.isSome
  silenceDl : h.silenceDl.isSome = g.silenceDl.isSome
  lossDl : h.lossDl.isSome = g.lossDl.isSome

/-- h stands where g stood and has entered HEARD (R81, R88). -/
structure Entry.EntersHeard (g h : Entry) : Prop where
  slot : h.slot = g.slot
  identity : h.identity = g.identity
  state : h.state = .heard
  name : h.name = none
  claimDl : h.claimDl.isSome = true
  silenceDl : h.silenceDl = none
  lossDl : h.lossDl = none
  gaps : h.gaps = g.gaps
  objections : h.objections = g.objections

/-- The state, the name and the deadlines of an entry belong together (R73, 05 Table 2). -/
def Entry.Fits (e : Entry) : Prop := e.nameFits = true ∧ e.deadlinesFit = true

theorem Entry.Touched.fits {g h : Entry} (t : g.Touched h) (fits : g.Fits) : h.Fits := by
  obtain ⟨_, _, state, name, claimDl, silenceDl, lossDl⟩ := t
  rwa [Entry.Fits, Entry.nameFits, Entry.deadlinesFit, state, name, claimDl, silenceDl, lossDl]

theorem Entry.EntersHeard.fits {g h : Entry} (t : g.EntersHeard h) : h.Fits := by
  obtain ⟨_, _, state, name, claimDl, silenceDl, lossDl, _⟩ := t
  simp [Entry.Fits, Entry.nameFits, Entry.deadlinesFit, state, name, claimDl, silenceDl, lossDl]

theorem Entry.entersHeard_toHeard (claim : Time) (g : Entry) : g.EntersHeard (g.toHeard claim) := by
  constructor <;> rfl

theorem Entry.heldName_eq_none_of_not_holds {e : Entry} (h : e.holds = false) : e.heldName = none := by
  simp [Entry.heldName, h]

theorem Entry.holds_iff {e : Entry} : e.holds = true ↔ e.state = .named ∨ e.state = .silent ∨ e.state = .lost := by
  unfold Entry.holds
  cases e.state <;> simp

theorem Entry.seeking_iff {e : Entry} : e.seeking = true ↔ e.state = .heard ∨ e.state = .claiming := by
  simp [Entry.seeking]

theorem Entry.holds_eq_not_seeking (e : Entry) : e.holds = !e.seeking := by
  unfold Entry.holds Entry.seeking
  cases e.state <;> rfl

/-- An entry with the name of its state holds one unless it seeks one (R73). -/
theorem Entry.Fits.heldName_eq_none_iff {e : Entry} (fits : e.Fits) : e.heldName = none ↔ e.seeking = true := by
  obtain ⟨name, _⟩ := fits
  unfold Entry.nameFits at name
  unfold Entry.heldName Entry.holds Entry.seeking
  cases state : e.state <;> cases hn : e.name <;> simp_all

theorem Entry.Fits.exists_name {e : Entry} (fits : e.Fits) (h : e.state ≠ .heard) :
    ∃ n, e.name = some n ∧ inRange 1 Config.lastName n = true := by
  obtain ⟨name, _⟩ := fits
  unfold Entry.nameFits at name
  cases hn : e.name with
  | none => simp [hn, h] at name
  | some n => exact ⟨n, rfl, by simpa [hn, h] using name⟩

theorem Entry.Fits.name_eq_none_iff {e : Entry} (fits : e.Fits) : e.name = none ↔ e.state = .heard := by
  obtain ⟨name, _⟩ := fits
  unfold Entry.nameFits at name
  cases hn : e.name <;> simp_all

theorem Entry.Fits.claimDl_iff {e : Entry} (fits : e.Fits) : e.claimDl.isSome = true ↔ e.state = .heard := by
  obtain ⟨_, deadlines⟩ := fits
  simp only [Entry.deadlinesFit, Bool.and_eq_true, beq_iff_eq] at deadlines
  simp [deadlines.1.1]

theorem Entry.Fits.silenceDl_iff {e : Entry} (fits : e.Fits) : e.silenceDl.isSome = true ↔ e.state = .named := by
  obtain ⟨_, deadlines⟩ := fits
  simp only [Entry.deadlinesFit, Bool.and_eq_true, beq_iff_eq] at deadlines
  simp [deadlines.1.2]

theorem Entry.Fits.lossDl_iff {e : Entry} (fits : e.Fits) : e.lossDl.isSome = true ↔ e.state = .silent := by
  obtain ⟨_, deadlines⟩ := fits
  simp only [Entry.deadlinesFit, Bool.and_eq_true, beq_iff_eq] at deadlines
  simp [deadlines.2]

theorem Entry.Fits.claimDl_eq_none {e : Entry} (fits : e.Fits) (h : e.state ≠ .heard) : e.claimDl = none := by
  simpa using fits.claimDl_iff.not.mpr h

theorem Entry.Fits.silenceDl_eq_none {e : Entry} (fits : e.Fits) (h : e.state ≠ .named) : e.silenceDl = none := by
  simpa using fits.silenceDl_iff.not.mpr h

theorem Entry.Fits.lossDl_eq_none {e : Entry} (fits : e.Fits) (h : e.state ≠ .silent) : e.lossDl = none := by
  simpa using fits.lossDl_iff.not.mpr h

theorem Entry.Fits.toNamed {e : Entry} (v : Time) {n : Name} (name : e.name = some n)
    (range : inRange 1 Config.lastName n = true) : (e.toNamed v).Fits := by
  simp [Entry.Fits, Entry.nameFits, Entry.deadlinesFit, Entry.toNamed, name, range]

/-! ### The roster as a table (R72, R73) -/

/-- a stands ahead of b in slot order, and they share neither identity nor name. -/
structure Entry.Apart (a b : Entry) : Prop where
  slot : a.slot < b.slot
  identity : a.identity ≠ b.identity
  name : ∀ n, a.name = some n → b.name ≠ some n

/-- a and b share neither identity nor name. -/
def Entry.Differ (a b : Entry) : Prop := a.identity ≠ b.identity ∧ ∀ n, a.name = some n → b.name ≠ some n

theorem Entry.Differ.symm {a b : Entry} (h : a.Differ b) : b.Differ a :=
  ⟨h.1.symm, fun n hn hm => h.2 n hm hn⟩

theorem rosterOk_iff {s : State} : RosterOk s ↔
    s.roster.entries.Pairwise Entry.Apart ∧ ∀ e ∈ s.roster.entries, e.slot < Config.rosterCapacity ∧ e.Fits := by
  have names : (s.roster.entries.filterMap (·.name)).Nodup ↔
      s.roster.entries.Pairwise fun a b => ∀ n, a.name = some n → b.name ≠ some n := by
    rw [List.Nodup, List.pairwise_filterMap]
    refine List.pairwise_iff_getElem.trans (Iff.trans ?_ List.pairwise_iff_getElem.symm)
    constructor
    · intro h i j hi hj lt n hn hm
      exact h i j hi hj lt n hn n hm rfl
    · intro h i j hi hj lt n hn m hm same
      exact h i j hi hj lt n hn (same ▸ hm)
  rw [RosterOk, names, List.Nodup, List.pairwise_map]
  constructor
  · rintro ⟨slots, fits, identities, names⟩
    exact ⟨(slots.and (identities.and names)).imp fun ⟨h1, h2, h3⟩ => ⟨h1, h2, h3⟩, fits⟩
  · rintro ⟨apart, fits⟩
    exact ⟨apart.imp (·.slot), fits, apart.imp (·.identity), apart.imp (·.name)⟩

theorem RosterOk.fits {s : State} (ok : RosterOk s) {e : Entry} (he : e ∈ s.roster.entries) : e.Fits :=
  ((rosterOk_iff.mp ok).2 e he).2

theorem RosterOk.congr {s t : State} (ok : RosterOk s) (h : t.roster.entries = s.roster.entries) : RosterOk t := by
  rwa [RosterOk, h]

/-- Entries that go leave a table. -/
theorem RosterOk.sublist {s t : State} (ok : RosterOk s) (h : t.roster.entries.Sublist s.roster.entries) : RosterOk t := by
  obtain ⟨apart, fits⟩ := rosterOk_iff.mp ok
  exact rosterOk_iff.mpr ⟨apart.sublist h, fun e he => fits e (h.subset he)⟩

/-- What a change may make of the entry g of a table: it keeps slot and identity, it fits, and no other entry has its name. -/
structure State.MayReplace (s : State) (g h : Entry) : Prop where
  slot : h.slot = g.slot
  identity : h.identity = g.identity
  fits : h.Fits
  fresh : ∀ n, h.name = some n → ∀ b ∈ s.roster.entries, b.name = some n → b.identity = g.identity

theorem RosterOk.changeEntry {s : State} (ok : RosterOk s) {x : Identity} {f : Entry → Entry}
    (h : s.EachOf x fun g => s.MayReplace g (f g)) : RosterOk (changeEntry x f s) := by
  obtain ⟨apart, fits⟩ := rosterOk_iff.mp ok
  refine rosterOk_iff.mpr ⟨?_, ?_⟩
  · rw [changeEntry_entries, List.pairwise_map]
    refine apart.imp_of_mem fun {a b} ha hb ab => ?_
    by_cases hax : a.identity = x
    · have hbx : b.identity ≠ x := fun hbx => ab.identity (hax.trans hbx.symm)
      have may := h a ha hax
      simp only [hax, hbx, beq_iff_eq, if_true, if_false]
      refine ⟨may.slot ▸ ab.slot, may.identity ▸ ab.identity, fun n hn hm => ?_⟩
      exact hbx ((may.fresh n hn b hb hm).trans hax)
    · by_cases hbx : b.identity = x
      · have may := h b hb hbx
        simp only [hax, hbx, beq_iff_eq, if_true, if_false]
        refine ⟨may.slot ▸ ab.slot, may.identity ▸ ab.identity, fun n hn hm => ?_⟩
        exact hax ((may.fresh n hm a ha hn).trans hbx)
      · simpa [hax, hbx] using ab
  · intro e he
    rw [changeEntry_entries, List.mem_map] at he
    obtain ⟨g, hg, rfl⟩ := he
    by_cases hgx : g.identity = x
    · have may := h g hg hgx
      simp only [hgx, beq_self_eq_true, if_true]
      exact ⟨may.slot ▸ (fits g hg).1, may.fits⟩
    · simpa [hgx] using fits g hg

/-- An entry with a slot, an identity and a name of its own takes its place in a table. -/
theorem RosterOk.insertEntry {s : State} (ok : RosterOk s) {e : Entry} (slot : ∀ g ∈ s.roster.entries, g.slot ≠ e.slot)
    (capacity : e.slot < Config.rosterCapacity) (identity : ∀ g ∈ s.roster.entries, g.identity ≠ e.identity)
    (name : ∀ n, e.name = some n → ∀ g ∈ s.roster.entries, g.name ≠ some n) (hfits : e.Fits) :
    RosterOk (insertEntry e s) := by
  obtain ⟨apart, fits⟩ := rosterOk_iff.mp ok
  refine rosterOk_iff.mpr ⟨?_, fun g hg => ?_⟩
  · have slots : (insertBy (fun g : Entry => decide (e.slot < g.slot)) e s.roster.entries).Pairwise
        fun a b => a.slot < b.slot :=
      pairwise_insertBy (apart.imp (·.slot)) (fun _ _ => Nat.lt_trans) (fun g _ behind => by simpa using behind)
        fun g hg ahead => Nat.lt_of_le_of_ne (by simpa using ahead) (slot g hg)
    have others : (insertBy (fun g : Entry => decide (e.slot < g.slot)) e s.roster.entries).Pairwise Entry.Differ :=
      (perm_insertBy _ _ _).symm.pairwise
        (List.pairwise_cons.mpr ⟨fun g hg => ⟨(identity g hg).symm, fun n hn => name n hn g hg⟩,
          apart.imp fun ab => ⟨ab.identity, ab.name⟩⟩) fun ab => ab.symm
    exact (slots.and others).imp fun ⟨slot, differ⟩ => ⟨slot, differ.1, differ.2⟩
  · rcases (mem_insertBy _ _ _ _).mp hg with rfl | hg
    · exact ⟨capacity, hfits⟩
    · exact fits g hg

end Sys2Proof.Machine

/-! The moves, and what they keep of the roster, the claims and the census (05, 06 section 6.3, 07). -/

namespace Sys2Proof.Machine

/-- The census counts tools: it is in one of the states that a good frame leaves it in (R127). -/
def State.Counting (s : State) : Prop :=
  s.census.state = .gathering ∨ s.census.state = .quiet ∨ s.census.state = .complete ∨ s.census.state = .overdue

/-- An OBJECT against a claim is offered, with a ticket where it enters the list (R112). -/
def offerObjection (x : Identity) (n : Name) (reason : Reason) (counter : Name) (s : State) : State :=
  let windowEnd := s.after s.cfg.window
  let t := offerFrame (.object x n reason counter) .naming (.claimObjection x windowEnd) s
  if (offerOutcome (.object x n reason counter) s).entered then
    t.withNaming { t.naming with
      tickets := t.naming.tickets ++ [{ tag := s.line.nextTag, claimant := x, deadline := windowEnd }] }
  else t

theorem raiseObjection_eq (x : Identity) (n : Name) (reason : Reason) (counter : Name) (s : State) :
    raiseObjection x n reason counter s = countObjection x (offerObjection x n reason counter s) := rfl

@[simp] theorem offerObjection_frame (x : Identity) (n : Name) (reason : Reason) (counter : Name) (s : State) :
    (offerObjection x n reason counter s).roster = s.roster ∧ (offerObjection x n reason counter s).census = s.census
      ∧ (offerObjection x n reason counter s).naming.claims = s.naming.claims
      ∧ (offerObjection x n reason counter s).naming.plan = s.naming.plan
      ∧ (offerObjection x n reason counter s).service = s.service
      ∧ (offerObjection x n reason counter s).changes = s.changes
      ∧ (offerObjection x n reason counter s).order = s.order := by
  unfold offerObjection
  dsimp only
  split <;> simp

/-- The entry of an identity in the slot k as it joins at an ANNOUNCE or a CLAIM (R74, R81). -/
def joiningEntry (k : Nat) (x : Identity) (path : Name) (revision : Byte) (s : State) : Entry :=
  { newEntry k x path revision s.time.now with claimDl := some s.claimValue }

/-- The entry of a stranger in the slot k as a hold of it is adopted (R74, R119, R121). -/
def adoptedEntry (k : Nat) (x : Identity) (n : Name) (s : State) : Entry :=
  { (newEntry k x 0 0 s.time.now).toNamed s.silenceValue with
    name := some n, prior := none, origin := s.naming.originOf x n, lastHeard := s.time.now }

/-- The moves of the roster, the naming unit and what they touch. Where A holds the roster is a table, and each move says what
it needs of it; where H holds the census counts tools as an entry enters HEARD. -/
inductive Move (A H : Prop) (s : State) : State → Prop
  | record (kind : ChangeKind) (name : Name) (identity : Option Identity) (detail : Nat) :
      Move A H s (queueRecord kind name identity detail s)
  | foreign : Move A H s (countForeign s)
  | offered (b : TxBody) (owner : Owner) (ref : OwnerRef)
      (fits : ∀ tag, ({ tag, body := b, owner, ref, attempts := 0, started := false } : TxFrame).refFits = true)
      (other : b ≠ .recall) : Move A H s (offerFrame b owner ref s)
  | objected (x : Identity) (n : Name) (reason : Reason) (counter : Name) :
      Move A H s (offerObjection x n reason counter s)
  | withdrawn (x : Identity) (d : Name) (conflict : Bool) : Move A H s (withdrawObjections x d conflict s)
  | pingEnds (error : Option OrderError) (detail : Nat) (running : s.pingRunning = true) :
      Move A H s (endOrder error detail s)
  | asked (l : List Asked) (ok : AskedOk s → AskedOk (s.withAsked l)) : Move A H s (s.withAsked l)
  | latched : Move A H s (s.withRoster { s.roster with fullLatch := true })
  | called (n : Name) (cause : Byte)
      (served : A → ∃ e ∈ s.roster.entries, e.name = some n ∧ (e.state = .named ∨ e.state = .silent)) :
      Move A H s (s.withService (s.service.call n cause))
  | adoptionTold : Move A H s (adoptionReported s)
  | touched (x : Identity) (f : Entry → Entry) (bounds : ∀ g : Entry, g.Bounded → (f g).Bounded)
      (shape : A → s.EachOf x fun g => g.Touched (f g)) : Move A H s (changeEntry x f s)
  | refreshed (x : Identity) (holds : A → s.EachOf x fun g => g.holds = true) :
      Move A H s (changeEntry x (fun g => { g.toNamed s.silenceValue with lastHeard := s.time.now }) s)
  | silenced (x : Identity) (span : Nat) (named : A → s.EachOf x fun g => g.state = .named) :
      Move A H s (changeEntry x (Entry.toSilent span) s)
  | lost (x : Identity) (n : Name) (holds : A → s.EachOf x fun g => g.heldName = some n) :
      Move A H s (serviceLost n (changeEntry x Entry.toLost s))
  | heard (x : Identity) (seeks : A → ClaimsInStep s → s.EachOf x fun g => g.heldName = none) (counting : H → s.Counting) :
      Move A H s (entryToHeard x (dropClaim x s))
  | left (x : Identity) (n : Name) (f : Entry → Entry) (enters : ∀ g : Entry, g.EntersHeard (f g))
      (holds : A → s.EachOf x fun g => g.heldName = some n) (counting : H → s.Counting) :
      Move A H s (serviceLeft n (heardReported (changeEntry x f s)))
  | freed (e : Entry) (seeks : A → s.EachOf e.identity fun g => g.heldName = none) : Move A H s (freeEntry e s)
  | freedName (e : Entry) (n : Name) (holds : A → s.EachOf e.identity fun g => g.heldName = some n) :
      Move A H s (serviceLeft n (freeEntry e s))
  | created (k : Nat) (x : Identity) (path : Name) (revision : Byte) (free : s.freeSlot = some k)
      (absent : s.entryOf x = none) (counting : H → s.Counting) :
      Move A H s (heardReported (insertEntry (joiningEntry k x path revision s) s))
  | adopted (k : Nat) (x : Identity) (n : Name) (free : s.freeSlot = some k) (absent : s.entryOf x = none)
      (fresh : A → ∀ g ∈ s.roster.entries, g.name ≠ some n) (range : A → inRange 1 Config.lastName n = true) :
      Move A H s ((insertEntry (adoptedEntry k x n s) s).withNaming (s.naming.bind x n))
  | accepted (x : Identity) (n : Name) (present : ∃ g ∈ s.roster.entries, g.identity = x)
      (heard : A → s.EachOf x fun g => g.state = .heard)
      (fresh : A → ∀ g ∈ s.roster.entries, g.name ≠ some n) (range : A → inRange 1 Config.lastName n = true)
      (room : s.naming.claims.length < Config.claimCapacity) : Move A H s (acceptClaim x n s)
  | named (x : Identity) (n : Name) (seeks : A → s.EachOf x fun g => g.seeking = true)
      (fresh : A → ∀ g ∈ s.roster.entries, g.name = some n → g.identity = x)
      (range : A → inRange 1 Config.lastName n = true) : Move A H s (nameEntry x n (dropClaim x s))

/-- A run of moves. -/
def Moves (A H : Prop) : State → State → Prop := Relation.ReflTransGen (Move A H)

section

variable {A H : Prop} {s t u : State}

theorem Moves.none : Moves A H s s := .refl

theorem Move.run (m : Move A H s t) : Moves A H s t := .single m

theorem Moves.then (h : Moves A H s t) (m : Move A H t u) : Moves A H s u := .tail h m

theorem Moves.append (h : Moves A H s t) (h' : Moves A H t u) : Moves A H s u := .trans h h'

/-- What every move keeps, a run of moves keeps. -/
theorem Moves.keeps {P : State → Prop} (step : ∀ {s t}, Move A H s t → P s → P t) (h : Moves A H s t) (hs : P s) : P t := by
  induction h with
  | refl => exact hs
  | tail _ m ih => exact step m ih

end

/-! ### What the moves write -/

theorem State.not_mem_of_freeSlot {s : State} {k : Nat} (h : s.freeSlot = some k) :
    k < Config.rosterCapacity ∧ ∀ g ∈ s.roster.entries, g.slot ≠ k := by
  constructor
  · exact List.mem_range.mp (List.mem_of_find?_eq_some h)
  · simpa using List.find?_some h

theorem State.not_mem_of_entryOf_eq_none {s : State} {x : Identity} (h : s.entryOf x = none) :
    ∀ g ∈ s.roster.entries, g.identity ≠ x := by
  simpa [State.entryOf] using h

theorem State.entryOf_eq_some {s : State} {x : Identity} {e : Entry} (h : s.entryOf x = some e) :
    e ∈ s.roster.entries ∧ e.identity = x :=
  ⟨List.mem_of_find?_eq_some h, by simpa using List.find?_some h⟩

theorem State.holder_eq_some {s : State} {n : Name} {e : Entry} (h : s.holder n = some e) :
    e ∈ s.roster.entries ∧ e.heldName = some n :=
  ⟨List.mem_of_find?_eq_some h, by simpa using List.find?_some h⟩

@[simp] theorem insertEntry_entries (e : Entry) (s : State) :
    (insertEntry e s).roster.entries = insertBy (fun g => decide (e.slot < g.slot)) e s.roster.entries := rfl

@[simp] theorem freeEntry_roster (e : Entry) (s : State) : (freeEntry e s).roster =
    { s.roster with entries := s.roster.entries.filter (fun g => g.identity != e.identity), fullLatch := false } := rfl

@[simp] theorem freeEntry_naming (e : Entry) (s : State) : (freeEntry e s).naming =
    { s.naming with claims := s.naming.claims.filter (fun c => c.claimant != e.identity) } := rfl

@[simp] theorem entryToHeard_entries (x : Identity) (s : State) : (entryToHeard x s).roster.entries =
    s.roster.entries.map (fun g => if g.identity == x then g.toHeard s.claimValue else g) := by
  simp [entryToHeard]

@[simp] theorem dropClaim_claimValue (x : Identity) (s : State) : (dropClaim x s).claimValue = s.claimValue := rfl

/-- The entry of x as it comes to hold n (R82, R88, R121). -/
def Entry.named (x : Identity) (n : Name) (s : State) (e : Entry) : Entry :=
  { e.toNamed s.silenceValue with
    name := some n, prior := none, origin := s.naming.originOf x n, lastHeard := s.time.now }

theorem nameEntry_eq (x : Identity) (n : Name) (s : State) :
    nameEntry x n s = (changeEntry x (Entry.named x n s) s).withNaming (s.naming.bind x n) := by
  simp only [nameEntry, changeEntry_frame]
  rfl

/-- A claim that is accepted (R110). -/
def newClaim (x : Identity) (n : Name) (s : State) : PendingClaim :=
  { claimant := x, name := n, windowEnd := s.after s.cfg.window, windowEnded := false,
    hold := s.after (2 * s.cfg.window), objectSent := false }

/-- The entry of a claimant (R110). -/
def Entry.claiming (n : Name) (now : Time) (e : Entry) : Entry :=
  { e with state := .claiming, name := some n, claimDl := none, lastHeard := now }

theorem acceptClaim_eq (x : Identity) (n : Name) (s : State) : acceptClaim x n s =
    (changeEntry x (Entry.claiming n s.time.now) s).withNaming
      { s.naming with claims := s.naming.claims ++ [newClaim x n s] } := by
  simp only [acceptClaim, changeEntry_frame]
  rfl

@[simp] theorem Naming.bind_claims (m : Naming) (x : Identity) (n : Name) : (m.bind x n).claims = m.claims := by
  unfold Naming.bind
  split <;> rfl

@[simp] theorem Naming.bind_tickets (m : Naming) (x : Identity) (n : Name) : (m.bind x n).tickets = m.tickets := by
  unfold Naming.bind
  split <;> rfl

@[simp] theorem Naming.length_plan_bind (m : Naming) (x : Identity) (n : Name) : (m.bind x n).plan.length = m.plan.length := by
  unfold Naming.bind
  split <;> simp

/-- A change of x's entry leaves every other entry. -/
theorem mem_changeEntry_other {x : Identity} {f : Entry → Entry} {s : State}
    (keeps : s.EachOf x fun g => (f g).identity = x) {e : Entry} (other : e.identity ≠ x) :
    e ∈ (changeEntry x f s).roster.entries ↔ e ∈ s.roster.entries := by
  rw [changeEntry_entries, List.mem_map]
  constructor
  · rintro ⟨g, hg, rfl⟩
    by_cases hgx : g.identity = x
    · simp only [hgx, beq_self_eq_true, if_true] at other
      exact absurd (keeps g hg hgx) other
    · simpa [hgx] using hg
  · intro he
    exact ⟨e, he, by simp [other]⟩

/-- An entry of x after a change is that of one before. -/
theorem mem_changeEntry_own {x : Identity} {f : Entry → Entry} {s : State} {e : Entry}
    (he : e ∈ (changeEntry x f s).roster.entries) (own : e.identity = x) :
    ∃ g ∈ s.roster.entries, g.identity = x ∧ e = f g := by
  rw [changeEntry_entries, List.mem_map] at he
  obtain ⟨g, hg, rfl⟩ := he
  by_cases hgx : g.identity = x
  · exact ⟨g, hg, hgx, by simp [hgx]⟩
  · simp [hgx] at own

/-! ### The roster stays a table -/

theorem State.EachOf.congr {s t : State} {x : Identity} {P : Entry → Prop} (h : s.EachOf x P)
    (entries : t.roster.entries = s.roster.entries) : t.EachOf x P := by
  rwa [State.EachOf, entries]

/-- A change that keeps a fitting entry under the name it had. -/
theorem RosterOk.mayReplace_of_name {s : State} (ok : RosterOk s) {g h : Entry} (hg : g ∈ s.roster.entries)
    (slot : h.slot = g.slot) (identity : h.identity = g.identity) (fits : h.Fits) (name : h.name = none ∨ h.name = g.name) :
    s.MayReplace g h := by
  refine ⟨slot, identity, fits, fun n hn b hb hbn => ?_⟩
  rcases name with none | same
  · simp [none] at hn
  · exact congrArg Entry.identity (ok.eq_of_name hb hg hbn (same ▸ hn))

theorem Entry.Fits.exists_name_of_holds {e : Entry} (fits : e.Fits) (h : e.holds = true) :
    ∃ n, e.name = some n ∧ inRange 1 Config.lastName n = true :=
  fits.exists_name fun heard => by simp [Entry.holds, heard] at h

theorem Entry.holds_of_heldName {e : Entry} {n : Name} (h : e.heldName = some n) : e.holds = true ∧ e.name = some n := by
  obtain ⟨name, state⟩ := Entry.heldName_eq_some_iff.mp h
  exact ⟨Entry.holds_iff.mpr state, name⟩

theorem Move.rosterOk {H : Prop} {s t : State} (m : Move True H s t) (ok : RosterOk s) : RosterOk t := by
  cases m with
  | touched x f bounds shape =>
    refine ok.changeEntry fun g hg hgx => ?_
    have same := shape trivial g hg hgx
    exact ok.mayReplace_of_name hg same.slot same.identity (same.fits (ok.fits hg)) (.inr same.name)
  | refreshed x holds =>
    refine ok.changeEntry fun g hg hgx => ?_
    obtain ⟨n, hn, range⟩ := (ok.fits hg).exists_name_of_holds (holds trivial g hg hgx)
    exact ok.mayReplace_of_name hg rfl rfl (Entry.Fits.toNamed _ hn range) (.inr rfl)
  | silenced x span named =>
    refine ok.changeEntry fun g hg hgx => ?_
    have isNamed := named trivial g hg hgx
    obtain ⟨n, hn, range⟩ := (ok.fits hg).exists_name (by simp [isNamed])
    have unclaimed := (ok.fits hg).claimDl_eq_none (by simp [isNamed])
    exact ok.mayReplace_of_name hg rfl rfl
      (by simp [Entry.Fits, Entry.nameFits, Entry.deadlinesFit, Entry.toSilent, hn, range, unclaimed]) (.inr rfl)
  | lost x n holds =>
    refine RosterOk.congr (s := changeEntry x Entry.toLost s) (ok.changeEntry fun g hg hgx => ?_) (by simp)
    obtain ⟨n, hn, range⟩ := (ok.fits hg).exists_name_of_holds (Entry.holds_of_heldName (holds trivial g hg hgx)).1
    exact ok.mayReplace_of_name hg rfl rfl
      (by simp [Entry.Fits, Entry.nameFits, Entry.deadlinesFit, Entry.toLost, hn, range]) (.inr rfl)
  | heard x seeks counting =>
    refine RosterOk.congr (s := changeEntry x (Entry.toHeard s.claimValue) s) (ok.changeEntry fun g hg hgx => ?_) (by simp)
    exact ok.mayReplace_of_name hg rfl rfl (Entry.entersHeard_toHeard _ _).fits (.inl rfl)
  | left x n f enters holds counting =>
    refine RosterOk.congr (s := changeEntry x f s) (ok.changeEntry fun g hg hgx => ?_) (by simp)
    exact ok.mayReplace_of_name hg (enters g).slot (enters g).identity (enters g).fits (.inl (enters g).name)
  | freed e seeks => exact ok.sublist (by simp)
  | freedName e n holds => exact ok.sublist (by simp)
  | created k x path revision free absent counting =>
    obtain ⟨capacity, slot⟩ := State.not_mem_of_freeSlot free
    refine RosterOk.congr (s := insertEntry (joiningEntry k x path revision s) s) (ok.insertEntry slot capacity
      (State.not_mem_of_entryOf_eq_none absent) nofun ⟨rfl, rfl⟩) (by simp)
  | adopted k x n free absent fresh range =>
    obtain ⟨capacity, slot⟩ := State.not_mem_of_freeSlot free
    refine RosterOk.congr (s := insertEntry (adoptedEntry k x n s) s) (ok.insertEntry slot capacity
      (State.not_mem_of_entryOf_eq_none absent) (fun m hm g hg => ?_) ?_) (by simp)
    · obtain rfl := Option.some.inj hm
      exact fresh trivial g hg
    · simp [Entry.Fits, Entry.nameFits, Entry.deadlinesFit, adoptedEntry, Entry.toNamed, range trivial]
  | accepted x n present heard fresh range room =>
    rw [acceptClaim_eq]
    refine RosterOk.congr (s := changeEntry x (Entry.claiming n s.time.now) s) (ok.changeEntry fun g hg hgx => ?_) (by simp)
    refine ⟨rfl, rfl, ?_, fun m hm b hb hbn => ?_⟩
    · have isHeard := heard trivial g hg hgx
      have unsilenced := (ok.fits hg).silenceDl_eq_none (by simp [isHeard])
      have unlost := (ok.fits hg).lossDl_eq_none (by simp [isHeard])
      simp [Entry.Fits, Entry.nameFits, Entry.deadlinesFit, Entry.claiming, range trivial, unsilenced, unlost]
    · obtain rfl := Option.some.inj hm
      exact absurd hbn (fresh trivial b hb)
  | named x n seeks fresh range =>
    rw [nameEntry_eq]
    refine RosterOk.congr (s := changeEntry x (Entry.named x n (dropClaim x s)) s) (ok.changeEntry fun g hg hgx => ?_)
      (by simp)
    refine ⟨rfl, rfl, ?_, fun m hm b hb hbn => ?_⟩
    · simp [Entry.Fits, Entry.nameFits, Entry.deadlinesFit, Entry.named, Entry.toNamed, range trivial]
    · obtain rfl := Option.some.inj hm
      exact (fresh trivial b hb hbn).trans hgx.symm
  | asked l kept => exact ok.congr rfl
  | _ => exact ok.congr (by simp)

/-! ### The claims stay in step with the roster (R88, R103) -/

theorem ClaimsInStep.congr {s t : State} (h : ClaimsInStep s) (entries : t.roster.entries = s.roster.entries)
    (claims : t.naming.claims = s.naming.claims) : ClaimsInStep t := by
  rwa [ClaimsInStep, entries, claims]

/-- The claims of x are dropped, no entry of x is CLAIMING, and the other entries stand. -/
theorem ClaimsInStep.dropped {s t : State} (h : ClaimsInStep s) (x : Identity)
    (claims : t.naming.claims = s.naming.claims.filter (fun c => c.claimant != x))
    (others : ∀ e : Entry, e.identity ≠ x → (e ∈ t.roster.entries ↔ e ∈ s.roster.entries))
    (own : t.EachOf x fun e => e.state ≠ .claiming) : ClaimsInStep t := by
  obtain ⟨room, distinct, claimed, claiming⟩ := h
  rw [ClaimsInStep, claims]
  refine ⟨(List.length_filter_le _ _).trans room, distinct.sublist (List.filter_sublist.map _), fun c hc => ?_,
    fun e he state => ?_⟩
  · obtain ⟨hc, other⟩ := List.mem_filter.mp hc
    obtain ⟨e, he, identity, name⟩ := claimed c hc
    exact ⟨e, (others e (by simpa [identity] using other)).mpr he, identity, name⟩
  · have other : e.identity ≠ x := fun same => own e he same state
    obtain ⟨c, hc, identity⟩ := claiming e ((others e other).mp he) state
    exact ⟨c, List.mem_filter.mpr ⟨hc, by simpa [identity] using other⟩, identity⟩

/-- Where no entry of x is CLAIMING there is no claim of x to drop. -/
theorem ClaimsInStep.filter_claims {s : State} (h : ClaimsInStep s) {x : Identity}
    (own : s.EachOf x fun e => e.state ≠ .claiming) :
    s.naming.claims.filter (fun c => c.claimant != x) = s.naming.claims := by
  obtain ⟨_, _, claimed, _⟩ := h
  rw [List.filter_eq_self]
  intro c hc
  obtain ⟨e, he, identity, name⟩ := claimed c hc
  obtain ⟨_, state⟩ := Entry.claimedName_eq_some_iff.mp name
  simpa using fun same : c.claimant = x => own e he (identity.trans same) state

/-- The entry of x, which was not CLAIMING, is changed and is not CLAIMING now. -/
theorem ClaimsInStep.changeEntry {s t : State} (h : ClaimsInStep s) {x : Identity} {f : Entry → Entry}
    (entries : t.roster.entries = (changeEntry x f s).roster.entries) (claims : t.naming.claims = s.naming.claims)
    (before : s.EachOf x fun g => g.state ≠ .claiming)
    (after : s.EachOf x fun g => (f g).identity = x ∧ (f g).state ≠ .claiming) : ClaimsInStep t := by
  refine h.dropped x (by rw [claims, h.filter_claims before]) (fun e other => ?_) fun e he own => ?_
  · rw [entries]
    exact mem_changeEntry_other (fun g hg hgx => (after g hg hgx).1) other
  · obtain ⟨g, hg, hgx, rfl⟩ := mem_changeEntry_own (entries ▸ he) own
    exact (after g hg hgx).2

theorem Entry.claimedName_congr {g h : Entry} (state : h.state = g.state) (name : h.name = g.name) :
    h.claimedName = g.claimedName := by
  rw [Entry.claimedName, state, name, Entry.claimedName]

/-- A change that keeps identity, state and name moves no claim. -/
theorem ClaimsInStep.touch {s : State} (h : ClaimsInStep s) {x : Identity} {f : Entry → Entry}
    (same : s.EachOf x fun g => (f g).identity = g.identity ∧ (f g).state = g.state ∧ (f g).name = g.name) :
    ClaimsInStep (Machine.changeEntry x f s) := by
  obtain ⟨room, distinct, claimed, claiming⟩ := h
  have image (g : Entry) (hg : g ∈ s.roster.entries) :
      (if g.identity == x then f g else g).identity = g.identity
        ∧ (if g.identity == x then f g else g).state = g.state
        ∧ (if g.identity == x then f g else g).name = g.name := by
    by_cases hgx : g.identity = x
    · simpa [hgx] using same g hg hgx
    · simp [hgx]
  refine ⟨by simpa using room, by simpa using distinct, fun c hc => ?_, fun e he state => ?_⟩
  · obtain ⟨g, hg, identity, name⟩ := claimed c (by simpa using hc)
    obtain ⟨hi, hs, hn⟩ := image g hg
    exact ⟨_, by rw [changeEntry_entries]; exact List.mem_map_of_mem hg, hi.trans identity,
      (Entry.claimedName_congr hs hn).trans name⟩
  · rw [changeEntry_entries, List.mem_map] at he
    obtain ⟨g, hg, rfl⟩ := he
    obtain ⟨hi, hs, _⟩ := image g hg
    obtain ⟨c, hc, identity⟩ := claiming g hg (hs ▸ state)
    exact ⟨c, by simpa using hc, identity.trans hi.symm⟩

/-- The entry of x comes into the table, and is not CLAIMING. -/
theorem ClaimsInStep.insertEntry {s t : State} (h : ClaimsInStep s) {e : Entry}
    (entries : t.roster.entries = (Machine.insertEntry e s).roster.entries) (claims : t.naming.claims = s.naming.claims)
    (absent : ∀ g ∈ s.roster.entries, g.identity ≠ e.identity) (own : e.state ≠ .claiming) : ClaimsInStep t := by
  have none : s.EachOf e.identity fun g => g.state ≠ .claiming := fun g hg same => absurd same (absent g hg)
  refine h.dropped e.identity (by rw [claims, h.filter_claims none]) (fun g other => ?_) fun g hg same => ?_
  · rw [entries, insertEntry_entries, mem_insertBy]
    exact or_iff_right fun eq => other (congrArg Entry.identity eq)
  · rw [entries, insertEntry_entries, mem_insertBy] at hg
    rcases hg with rfl | hg
    · exact own
    · exact absurd same (absent g hg)

theorem Entry.not_claiming_of_holds {e : Entry} (h : e.holds = true) : e.state ≠ .claiming := by
  intro claiming
  simp [Entry.holds, claiming] at h

theorem Entry.not_claiming_of_heldName {e : Entry} {n : Name} (h : e.heldName = some n) : e.state ≠ .claiming :=
  Entry.not_claiming_of_holds (Entry.holds_of_heldName h).1

/-- The entry of x is HEARD and comes to claim n. -/
theorem ClaimsInStep.acceptClaim {s : State} (h : ClaimsInStep s) {x : Identity} {n : Name}
    (present : ∃ g ∈ s.roster.entries, g.identity = x) (heard : s.EachOf x fun g => g.state = .heard)
    (room : s.naming.claims.length < Config.claimCapacity) : ClaimsInStep (acceptClaim x n s) := by
  have unclaimed := h.filter_claims (x := x) fun g hg hgx => by simp [heard g hg hgx]
  obtain ⟨_, distinct, claimed, claiming⟩ := h
  have absent : ∀ c ∈ s.naming.claims, c.claimant ≠ x := fun c hc => by
    simpa using (List.filter_eq_self.mp unclaimed) c hc
  have others {e : Entry} (other : e.identity ≠ x) :
      e ∈ (Machine.changeEntry x (Entry.claiming n s.time.now) s).roster.entries ↔ e ∈ s.roster.entries :=
    mem_changeEntry_other (f := Entry.claiming n s.time.now) (fun _ _ hgx => hgx) other
  rw [acceptClaim_eq]
  refine ⟨by simpa using room, ?_, fun c hc => ?_, fun e he state => ?_⟩
  · simpa [List.nodup_append, distinct, newClaim] using absent
  · rcases List.mem_append.mp hc with hc | hc
    · obtain ⟨e, he, identity, name⟩ := claimed c hc
      exact ⟨e, (others (identity ▸ absent c hc)).mpr he, identity, name⟩
    · obtain rfl := List.mem_singleton.mp hc
      obtain ⟨g, hg, hgx⟩ := present
      exact ⟨Entry.claiming n s.time.now g, by simpa using ⟨g, hg, by simp [hgx]⟩, hgx, rfl⟩
  · by_cases own : e.identity = x
    · exact ⟨newClaim x n s, by simp, own.symm⟩
    · obtain ⟨c, hc, identity⟩ := claiming e ((others own).mp he) state
      exact ⟨c, List.mem_append_left _ hc, identity⟩

theorem Move.claimsInStep {H : Prop} {s t : State} (m : Move True H s t) (h : ClaimsInStep s) : ClaimsInStep t := by
  cases m with
  | touched x f bounds shape =>
    exact h.touch fun g hg hgx => ⟨(shape trivial g hg hgx).identity, (shape trivial g hg hgx).state,
      (shape trivial g hg hgx).name⟩
  | refreshed x holds =>
    exact h.changeEntry rfl (by simp) (fun g hg hgx => Entry.not_claiming_of_holds (holds trivial g hg hgx))
      fun g _ hgx => ⟨hgx, nofun⟩
  | silenced x span named =>
    exact h.changeEntry rfl (by simp) (fun g hg hgx => by simp [named trivial g hg hgx]) fun g _ hgx => ⟨hgx, nofun⟩
  | lost x n holds =>
    exact h.changeEntry (x := x) (f := Entry.toLost) (by simp) (by simp)
      (fun g hg hgx => Entry.not_claiming_of_heldName (holds trivial g hg hgx)) fun g _ hgx => ⟨hgx, nofun⟩
  | heard x seeks counting =>
    refine h.dropped x (by simp) (fun e other => ?_) fun e he own => ?_
    · have same := mem_changeEntry_other (x := x) (f := Entry.toHeard s.claimValue) (s := s) (fun _ _ hgx => hgx) other
      simpa using same
    · obtain ⟨g, _, _, rfl⟩ := mem_changeEntry_own (x := x) (f := Entry.toHeard s.claimValue) (s := s)
        (by simpa using he) own
      nofun
  | left x n f enters holds counting =>
    exact h.changeEntry (x := x) (f := f) (by simp) (by simp)
      (fun g hg hgx => Entry.not_claiming_of_heldName (holds trivial g hg hgx))
      fun g _ hgx => ⟨(enters g).identity.trans hgx, by simp [(enters g).state]⟩
  | freed e seeks =>
    refine h.dropped e.identity (by simp) (fun g other => by simp [other]) fun g hg own => ?_
    simp [own] at hg
  | freedName e n holds =>
    refine h.dropped e.identity (by simp) (fun g other => by simp [other]) fun g hg own => ?_
    simp [own] at hg
  | created k x path revision free absent counting =>
    exact h.insertEntry (e := joiningEntry k x path revision s) (by simp) (by simp)
      (State.not_mem_of_entryOf_eq_none absent) nofun
  | adopted k x n free absent fresh range =>
    exact h.insertEntry (e := adoptedEntry k x n s) (by simp) (by simp [insertEntry, State.withEntries])
      (State.not_mem_of_entryOf_eq_none absent) nofun
  | accepted x n present heard fresh range room => exact h.acceptClaim present (heard trivial) room
  | named x n seeks fresh range =>
    rw [nameEntry_eq]
    refine h.dropped x (by simp) (fun e other => ?_) fun e he own => ?_
    · simpa using mem_changeEntry_other (x := x) (f := Entry.named x n (dropClaim x s)) (s := s) (fun _ _ hgx => hgx) other
    · obtain ⟨g, _, _, rfl⟩ := mem_changeEntry_own (x := x) (f := Entry.named x n (dropClaim x s)) (s := s)
        (by simpa using he) own
      nofun
  | withdrawn x d conflict => exact h.congr (by simp) (by simp)
  | asked l kept => exact h.congr rfl rfl
  | _ => exact h.congr (by simp) (by simp)

/-! ### The census goes on counting -/

theorem counting_heardReported {s : State} (h : s.Counting) : (heardReported s).Counting := by
  unfold heardReported
  rcases h with h | h | h | h
  · simp [h, State.Counting]
  · cases ret : s.census.returnState <;> simp [h, ret, State.Counting]
  · simp [h, State.Counting]
  · simp [h, State.Counting]

theorem State.Counting.congr {s t : State} (h : s.Counting) (census : t.census.state = s.census.state) : t.Counting := by
  rwa [State.Counting, census]

theorem counting_adoptionReported {s : State} (h : s.Counting) : (adoptionReported s).Counting := by
  unfold adoptionReported
  rcases h with h | h | h | h <;> simp [h, State.Counting]

theorem Move.counting {A H : Prop} {s t : State} (m : Move A H s t) (h : s.Counting) : t.Counting := by
  cases m with
  | adoptionTold => exact counting_adoptionReported h
  | heard x seeks counting => exact counting_heardReported (h.congr (by simp))
  | left x n f enters holds counting =>
    exact (counting_heardReported (s := changeEntry x f s) (h.congr (by simp))).congr (by simp)
  | created k x path revision free absent counting =>
    exact counting_heardReported (s := insertEntry (joiningEntry k x path revision s) s) (h.congr (by simp))
  | named x n seeks fresh range => rw [nameEntry_eq]; exact h.congr (by simp)
  | accepted x n present heard fresh range room => rw [acceptClaim_eq]; exact h.congr (by simp)
  | asked l kept => exact h.congr rfl
  | _ => exact h.congr (by simp)

/-- What a run of moves asks of the state it starts in. -/
structure Known (A H : Prop) (s : State) : Prop where
  roster : A → RosterOk s
  counting : H → s.Counting

theorem Move.known {A H : Prop} {s t : State} (m : Move A H s t) (h : Known A H s) : Known A H t where
  roster a := by obtain rfl := eq_true a; exact m.rosterOk (h.roster trivial)
  counting c := m.counting (h.counting c)

theorem Moves.known {A H : Prop} {s t : State} (m : Moves A H s t) (h : Known A H s) : Known A H t :=
  m.keeps (fun m => m.known) h

end Sys2Proof.Machine

/-! What an entry leaves and loses, as runs of moves: the leaving of names, removal with its stage, the restart, the return, the
demotion, and the cascade of a loss (05 sections 5.5 to 5.9). -/

namespace Sys2Proof.Machine

/-! ### Orders of writing that do not matter -/

theorem queueRecord_congr_blocks (kind : ChangeKind) (name : Name) (identity : Option Identity) (detail : Nat) (s : State) :
    queueRecord kind name identity detail s = s.withChanges (queueRecord kind name identity detail s).changes := by
  unfold queueRecord
  split <;> rfl

theorem queueRecord_changes_congr {s t : State} (changes : t.changes = s.changes) (now : t.time.now = s.time.now)
    (kind : ChangeKind) (name : Name) (identity : Option Identity) (detail : Nat) :
    (queueRecord kind name identity detail t).changes = (queueRecord kind name identity detail s).changes := by
  unfold queueRecord
  rw [changes, now]
  split <;> rfl

theorem serviceLeft_queueRecord (n : Name) (kind : ChangeKind) (name : Name) (identity : Option Identity) (detail : Nat)
    (s : State) :
    serviceLeft n (queueRecord kind name identity detail s) = queueRecord kind name identity detail (serviceLeft n s) := by
  rw [queueRecord_congr_blocks kind name identity detail s, queueRecord_congr_blocks kind name identity detail (serviceLeft n s),
    queueRecord_changes_congr (s := s) (t := serviceLeft n s) (by simp) (by simp)]
  rfl

theorem serviceLost_queueRecord (n : Name) (kind : ChangeKind) (name : Name) (identity : Option Identity) (detail : Nat)
    (s : State) :
    serviceLost n (queueRecord kind name identity detail s) = queueRecord kind name identity detail (serviceLost n s) := by
  rw [queueRecord_congr_blocks kind name identity detail s, queueRecord_congr_blocks kind name identity detail (serviceLost n s),
    queueRecord_changes_congr (s := s) (t := serviceLost n s) (by simp) (by simp)]
  rfl

theorem changeEntry_heardReported (x : Identity) (f : Entry → Entry) (s : State) :
    changeEntry x f (heardReported s) = heardReported (changeEntry x f s) := by
  have census : (changeEntry x f s).census = s.census := by simp
  unfold heardReported
  rw [census]
  split
  case h_1 => split <;> rfl
  all_goals rfl

/-- Two changes of one entry are one, where the first keeps its identity. -/
theorem changeEntry_changeEntry {x : Identity} {f g : Entry → Entry} (keeps : ∀ e : Entry, (g e).identity = e.identity)
    (s : State) : changeEntry x f (changeEntry x g s) = changeEntry x (fun e => f (g e)) s := by
  have twice (e : Entry) : (if (if e.identity == x then g e else e).identity == x then f (if e.identity == x then g e else e)
      else if e.identity == x then g e else e) = if e.identity == x then f (g e) else e := by
    by_cases h : e.identity = x
    · simp [h, keeps]
    · simp [h]
  simp only [changeEntry, State.withEntries, State.withRoster_roster, List.map_map, Function.comp_def, twice]
  rfl

/-- The entry as it leaves the name it holds for HEARD, which becomes its prior name (R79, R80, R88). -/
def Entry.leavesName (claim : Time) (e : Entry) : Entry := { e with prior := e.name }.toHeard claim

theorem heldToHeard_eq (x : Identity) (s : State) :
    heldToHeard x s = heardReported (changeEntry x (Entry.leavesName s.claimValue) s) := by
  unfold heldToHeard entryToHeard
  rw [changeEntry_changeEntry (g := fun e => { e with prior := e.name }) fun _ => rfl]
  rfl

theorem changeEntry_heldToHeard (x : Identity) (f : Entry → Entry) (s : State) :
    changeEntry x f (heldToHeard x s) = heardReported (changeEntry x (fun e => f (e.leavesName s.claimValue)) s) := by
  rw [heldToHeard_eq, changeEntry_heardReported,
    changeEntry_changeEntry (g := Entry.leavesName s.claimValue) fun _ => rfl]

/-! ### Removal and the stage (R92, R95) -/

/-- The stage of x, if it is a bridge, goes with the name n it leaves, to the depth given (R92). -/
def leaveStage (kind : ChangeKind) (depth : Nat) (x : Identity) (n : Name) (s : State) : State :=
  if isBridge x then removeBehind kind depth n s else s

/-- Removal of an entry, with a stage to the depth given. -/
def departEntry (kind : ChangeKind) (depth : Nat) (e : Entry) (s : State) : State :=
  match e.heldName with
  | some m => leaveStage kind depth e.identity m (serviceLeft m (freeEntry e s))
  | none => freeEntry e s

/-- The record of an entry that goes with the bridge of name n (R92). -/
def departRecord (kind : ChangeKind) (n : Name) (e : Entry) (s : State) : State :=
  queueRecord kind (e.name.getD 0) (some e.identity) n s

theorem leaveName_eq (x : Identity) (n : Name) (kind : ChangeKind) (s : State) :
    leaveName x n kind s = leaveStage kind Config.rosterCapacity x n (serviceLeft n s) := rfl

theorem removeEntry_eq (e : Entry) (kind : ChangeKind) (s : State) :
    removeEntry e kind s = departEntry kind Config.rosterCapacity e s := by
  unfold removeEntry departEntry
  cases e.heldName <;> rfl

theorem removeBehind_succ (kind : ChangeKind) (depth : Nat) (n : Name) (s : State) :
    removeBehind kind (depth + 1) n s =
      (s.directlyBehind n).foldl (fun t e => departEntry kind depth e (departRecord kind n e t)) s := by
  have member (t : State) (e : Entry) : departEntry kind depth e (departRecord kind n e t) =
      (match e.heldName with
      | some m =>
        let u := serviceLeft m (freeEntry e (queueRecord kind (e.name.getD 0) (some e.identity) n t))
        if isBridge e.identity then removeBehind kind depth m u else u
      | none => freeEntry e (queueRecord kind (e.name.getD 0) (some e.identity) n t)) := by
    unfold departEntry departRecord leaveStage
    cases e.heldName <;> rfl
  simp only [member]
  rfl

theorem State.mem_directlyBehind {s : State} {n : Name} {e : Entry} :
    e ∈ s.directlyBehind n ↔ e ∈ s.roster.entries ∧ e.path = n ∧ n ≠ 0 := by
  simp [State.directlyBehind]

theorem departEntry_sublist {kind : ChangeKind} {depth : Nat}
    (stage : ∀ n s, (removeBehind kind depth n s).roster.entries.Sublist s.roster.entries) (e : Entry) (s : State) :
    (departEntry kind depth e s).roster.entries.Sublist s.roster.entries := by
  have freed : (freeEntry e s).roster.entries.Sublist s.roster.entries := by simp
  unfold departEntry leaveStage
  split
  · split
    · exact (stage _ _).trans (by simp)
    · simp
  · exact freed

/-- What goes with a bridge leaves the other entries as they stand. -/
theorem removeBehind_sublist (kind : ChangeKind) (depth : Nat) (n : Name) (s : State) :
    (removeBehind kind depth n s).roster.entries.Sublist s.roster.entries := by
  induction depth generalizing n s with
  | zero => exact .refl _
  | succ depth ih =>
    rw [removeBehind_succ]
    refine List.foldlRecOn (motive := fun t : State => t.roster.entries.Sublist s.roster.entries) _ _ (.refl _)
      fun t ht e _ => ?_
    exact (departEntry_sublist ih e _).trans (by simpa [departRecord] using ht)

theorem leaveStage_sublist (kind : ChangeKind) (depth : Nat) (x : Identity) (n : Name) (s : State) :
    (leaveStage kind depth x n s).roster.entries.Sublist s.roster.entries := by
  unfold leaveStage
  split
  · exact removeBehind_sublist _ _ _ _
  · exact .refl _

section

variable {A H : Prop} {s : State}

theorem Moves.rosterOk {t : State} (m : Moves A H s t) (ok : A → RosterOk s) : A → RosterOk t :=
  m.keeps (P := fun s => A → RosterOk s) (fun m ok a => by obtain rfl := eq_true a; exact m.rosterOk (ok trivial)) ok

theorem departEntry_moves {kind : ChangeKind} {depth : Nat}
    (stage : ∀ n t, (A → RosterOk t) → Moves A H t (removeBehind kind depth n t)) {e : Entry} (ok : A → RosterOk s)
    (own : A → s.EachOf e.identity fun g => g.heldName = e.heldName) : Moves A H s (departEntry kind depth e s) := by
  unfold departEntry
  split
  · next n hn =>
    have freed : Moves A H s (serviceLeft n (freeEntry e s)) :=
      (Move.freedName e n fun a g hg same => (own a g hg same).trans hn).run
    unfold leaveStage
    split
    · exact freed.append (stage _ _ (freed.rosterOk ok))
    · exact freed
  · next hn => exact (Move.freed e fun a g hg same => (own a g hg same).trans hn).run

theorem removeBehind_moves (kind : ChangeKind) (depth : Nat) (n : Name) (ok : A → RosterOk s) :
    Moves A H s (removeBehind kind depth n s) := by
  induction depth generalizing n s with
  | zero => exact .none
  | succ depth ih =>
    rw [removeBehind_succ]
    refine (List.foldlRecOn (motive := fun t => Moves A H s t ∧ t.roster.entries.Sublist s.roster.entries) _ _
      ⟨.none, .refl _⟩ fun t ht e he => ?_).1
    obtain ⟨moved, kept⟩ := ht
    have recorded : Moves A H s (departRecord kind n e t) := moved.then (.record _ _ _ _)
    have entries : (departRecord kind n e t).roster.entries = t.roster.entries := by simp [departRecord]
    refine ⟨recorded.append (departEntry_moves (fun n t ok => ih n ok) (recorded.rosterOk ok) fun a g hg same => ?_),
      (departEntry_sublist (removeBehind_sublist kind depth) e _).trans (by rwa [entries])⟩
    rw [(ok a).eq_of_identity (kept.subset (entries ▸ hg)) (State.mem_directlyBehind.mp he).1 same]

theorem leaveStage_moves (kind : ChangeKind) (depth : Nat) (x : Identity) (n : Name) (ok : A → RosterOk s) :
    Moves A H s (leaveStage kind depth x n s) := by
  unfold leaveStage
  split
  · exact removeBehind_moves kind depth n ok
  · exact .none

/-- Removal of an entry of the roster (R95). -/
theorem removeEntry_moves {e : Entry} (kind : ChangeKind) (ok : A → RosterOk s)
    (own : A → s.EachOf e.identity fun g => g.heldName = e.heldName) : Moves A H s (removeEntry e kind s) := by
  rw [removeEntry_eq]
  exact departEntry_moves (fun n _ ok => removeBehind_moves kind _ n ok) ok own

/-! ### Restart, return and demotion (R79, R80, R88) -/

/-- The holder of n leaves it for HEARD, with a record, and its stage goes. -/
theorem leaveName_moves {x : Identity} {n : Name} {f : Entry → Entry} (enters : ∀ g : Entry, g.EntersHeard (f g))
    (known : Known A H s) (holds : A → s.EachOf x fun g => g.heldName = some n) (kind : ChangeKind) (name : Name)
    (identity : Option Identity) (detail : Nat) :
    Moves A H s (leaveName x n .stalled (queueRecord kind name identity detail (heardReported (changeEntry x f s)))) := by
  rw [leaveName_eq, serviceLeft_queueRecord]
  have moved : Moves A H s (queueRecord kind name identity detail (serviceLeft n (heardReported (changeEntry x f s)))) :=
    (Move.left x n f enters holds known.counting).run.then (.record _ _ _ _)
  exact moved.append (leaveStage_moves _ _ _ _ (moved.rosterOk known.roster))

theorem Entry.entersHeard_leavesName (claim : Time) (g : Entry) : g.EntersHeard (g.leavesName claim) := by
  constructor <;> rfl

/-- What a frame changes in an entry that leaves its name: fields that no table looks at. -/
structure Entry.Marks (f : Entry → Entry) : Prop where
  slot : ∀ g : Entry, (f g).slot = g.slot
  identity : ∀ g : Entry, (f g).identity = g.identity
  state : ∀ g : Entry, (f g).state = g.state
  name : ∀ g : Entry, (f g).name = g.name
  claimDl : ∀ g : Entry, (f g).claimDl = g.claimDl
  silenceDl : ∀ g : Entry, (f g).silenceDl = g.silenceDl
  lossDl : ∀ g : Entry, (f g).lossDl = g.lossDl
  gaps : ∀ g : Entry, (f g).gaps = g.gaps
  objections : ∀ g : Entry, (f g).objections = g.objections

theorem Entry.Marks.entersHeard {f : Entry → Entry} (marks : Entry.Marks f) (claim : Time) (g : Entry) :
    g.EntersHeard (f (g.leavesName claim)) := by
  constructor <;> simp [marks.slot, marks.identity, marks.state, marks.name, marks.claimDl, marks.silenceDl, marks.lossDl,
    marks.gaps, marks.objections, Entry.leavesName, Entry.toHeard]

theorem Entry.Marks.touched {f : Entry → Entry} (marks : Entry.Marks f) (g : Entry) : g.Touched (f g) := by
  constructor <;> simp [marks.slot, marks.identity, marks.state, marks.name, marks.claimDl, marks.silenceDl, marks.lossDl]

theorem Entry.Marks.bounded {f : Entry → Entry} (marks : Entry.Marks f) (g : Entry) (h : g.Bounded) : (f g).Bounded := by
  rwa [Entry.Bounded, marks.gaps, marks.objections]

theorem entryOf_eachOf {x : Identity} {e : Entry} (ok : RosterOk s) (entry : s.entryOf x = some e) {P : Entry → Prop}
    (h : P e) : s.EachOf x P := by
  obtain ⟨he, rfl⟩ := State.entryOf_eq_some entry
  exact ok.eachOf he h

theorem RosterOk.heldName_getD (ok : RosterOk s) {e : Entry} (he : e ∈ s.roster.entries) (holds : e.holds = true) :
    e.heldName = some (e.name.getD 0) := by
  obtain ⟨n, hn, _⟩ := (ok.fits he).exists_name_of_holds holds
  simp [Entry.heldName, holds, hn]

theorem restartEntry_moves {x : Identity} {e : Entry} {f : Entry → Entry} (marks : Entry.Marks f) (known : Known A H s)
    (entry : s.entryOf x = some e) (holds : e.holds = true) : Moves A H s (restartEntry e f s) := by
  obtain ⟨he, rfl⟩ := State.entryOf_eq_some entry
  unfold restartEntry
  dsimp only
  rw [changeEntry_heldToHeard]
  exact leaveName_moves (fun g => marks.entersHeard _ g) known
    (fun a => (known.roster a).eachOf he ((known.roster a).heldName_getD he holds)) _ _ _ _

theorem returnEntry_moves {x : Identity} {e : Entry} {f : Entry → Entry} (marks : Entry.Marks f) (known : Known A H s)
    (entry : s.entryOf x = some e) (holds : e.holds = true) : Moves A H s (returnEntry e f s) := by
  obtain ⟨he, rfl⟩ := State.entryOf_eq_some entry
  unfold returnEntry
  dsimp only
  rw [changeEntry_heldToHeard]
  exact leaveName_moves (fun g => marks.entersHeard _ g) known
    (fun a => (known.roster a).eachOf he ((known.roster a).heldName_getD he holds)) _ _ _ _

theorem demoteEntry_moves {e : Entry} (known : Known A H s) (he : e ∈ s.roster.entries) (holds : e.holds = true)
    (recordName : Name) (detail : Nat) : Moves A H s (demoteEntry e recordName detail s) := by
  unfold demoteEntry
  dsimp only
  rw [heldToHeard_eq]
  exact leaveName_moves (Entry.entersHeard_leavesName _) known
    (fun a => (known.roster a).eachOf he ((known.roster a).heldName_getD he holds)) _ _ _ _

/-! ### The cascade of a loss (R91) -/

theorem loseEntry_eq (e : Entry) (detail : Nat) (s : State) : loseEntry e detail s =
    queueRecord .lost (e.name.getD 0) (some e.identity) detail
      (serviceLost (e.name.getD 0) (changeEntry e.identity Entry.toLost s)) := by
  unfold loseEntry
  dsimp only
  rw [serviceLost_queueRecord]

theorem loseEntry_moves {e : Entry} (detail : Nat)
    (holds : A → s.EachOf e.identity fun g => g.heldName = some (e.name.getD 0)) : Moves A H s (loseEntry e detail s) := by
  rw [loseEntry_eq]
  exact (Move.lost e.identity (e.name.getD 0) holds).run.then (.record _ _ _ _)

@[simp] theorem loseEntry_entries (e : Entry) (detail : Nat) (s : State) : (loseEntry e detail s).roster.entries =
    s.roster.entries.map (fun g => if g.identity == e.identity then g.toLost else g) := by
  simp [loseEntry_eq]

/-- Every entry of t is one of s that still holds the name it held. -/
def State.Fades (s t : State) : Prop :=
  ∀ g ∈ t.roster.entries, ∃ h ∈ s.roster.entries, g.identity = h.identity ∧ g.heldName = h.heldName

theorem State.Fades.trans {s t u : State} (h : s.Fades t) (h' : t.Fades u) : s.Fades u := by
  intro g hg
  obtain ⟨e, he, identity, name⟩ := h' g hg
  obtain ⟨d, hd, identity', name'⟩ := h e he
  exact ⟨d, hd, identity.trans identity', name.trans name'⟩

theorem State.Fades.of_sublist {s t : State} (h : t.roster.entries.Sublist s.roster.entries) : s.Fades t :=
  fun g hg => ⟨g, h.subset hg, rfl, rfl⟩

theorem Entry.toLost_heldName {g : Entry} {n : Name} (h : g.heldName = some n) : g.toLost.heldName = g.heldName := by
  rw [h]
  exact Entry.heldName_eq_some_iff.mpr ⟨(Entry.holds_of_heldName h).2, .inr (.inr rfl)⟩

theorem loseEntry_fades {e : Entry} {n : Name} {detail : Nat} (holds : s.EachOf e.identity fun g => g.heldName = some n) :
    s.Fades (loseEntry e detail s) := by
  intro g hg
  rw [loseEntry_entries, List.mem_map] at hg
  obtain ⟨h, hh, rfl⟩ := hg
  by_cases same : h.identity = e.identity
  · exact ⟨h, hh, by simp [same, Entry.toLost], by simpa [same] using Entry.toLost_heldName (holds h hh same)⟩
  · exact ⟨h, hh, by simp [same], by simp [same]⟩

/-- What the loss of the bridge of name n does to an entry directly behind it (R91). -/
def loseMember (depth : Nat) (n : Name) (e : Entry) (s : State) : State :=
  match e.state with
  | .lost => s
  | .heard => removeEntry e .stalled (queueRecord .stalled 0 (some e.identity) n s)
  | .claiming => removeEntry e .stalled (queueRecord .stalled (e.name.getD 0) (some e.identity) n s)
  | .named => if isBridge e.identity then cascadeLoss depth (e.name.getD 0) (loseEntry e n s) else loseEntry e n s
  | .silent => if isBridge e.identity then cascadeLoss depth (e.name.getD 0) (loseEntry e n s) else loseEntry e n s

theorem cascadeLoss_succ (depth : Nat) (n : Name) (s : State) :
    cascadeLoss (depth + 1) n s = (s.directlyBehind n).foldl (fun t e => loseMember depth n e t) s := by
  have member (t : State) (e : Entry) : loseMember depth n e t =
      (match e.state with
      | .lost => t
      | .heard => removeEntry e .stalled (queueRecord .stalled 0 (some e.identity) n t)
      | .claiming => removeEntry e .stalled (queueRecord .stalled (e.name.getD 0) (some e.identity) n t)
      | .named =>
        let t := loseEntry e n t
        if isBridge e.identity then cascadeLoss depth (e.name.getD 0) t else t
      | .silent =>
        let t := loseEntry e n t
        if isBridge e.identity then cascadeLoss depth (e.name.getD 0) t else t) := by
    unfold loseMember
    cases e.state <;> rfl
  simp only [member]
  rfl

theorem removeEntry_sublist (e : Entry) (kind : ChangeKind) (s : State) :
    (removeEntry e kind s).roster.entries.Sublist s.roster.entries := by
  rw [removeEntry_eq]
  exact departEntry_sublist (removeBehind_sublist kind _) e s

/-- A run of moves through which entries fade. -/
def FadingRun (A H : Prop) (s t : State) : Prop := Moves A H s t ∧ (A → s.Fades t)

theorem FadingRun.trans {t u : State} (h : FadingRun A H s t) (h' : FadingRun A H t u) : FadingRun A H s u :=
  ⟨h.1.append h'.1, fun a => (h.2 a).trans (h'.2 a)⟩

theorem loseMember_fadingRun {depth : Nat}
    (cascade : ∀ n t, (A → RosterOk t) → FadingRun A H t (cascadeLoss depth n t)) {n : Name} {e : Entry} (fits : A → e.Fits)
    (ok : A → RosterOk s) (own : A → s.EachOf e.identity fun g => g.heldName = e.heldName) :
    FadingRun A H s (loseMember depth n e s) := by
  have removed (name : Name) :
      FadingRun A H s (removeEntry e .stalled (queueRecord .stalled name (some e.identity) n s)) := by
    have recorded : Moves A H s (queueRecord .stalled name (some e.identity) n s) := (Move.record _ _ _ _).run
    exact ⟨recorded.append (removeEntry_moves _ (recorded.rosterOk ok) fun a => (own a).congr (by simp)),
      fun _ => .of_sublist ((removeEntry_sublist _ _ _).trans (by simp))⟩
  have lost (holds : e.holds = true) : FadingRun A H s
      (if isBridge e.identity then cascadeLoss depth (e.name.getD 0) (loseEntry e n s) else loseEntry e n s) := by
    have each (a : A) : s.EachOf e.identity fun g => g.heldName = some (e.name.getD 0) := by
      obtain ⟨m, hm, _⟩ := (fits a).exists_name_of_holds holds
      exact fun g hg same => (own a g hg same).trans (by simp [Entry.heldName, holds, hm])
    have run : FadingRun A H s (loseEntry e n s) := ⟨loseEntry_moves n each, fun a => loseEntry_fades (each a)⟩
    split
    · exact run.trans (cascade _ _ (run.1.rosterOk ok))
    · exact run
  unfold loseMember
  split
  case h_1 => exact ⟨.none, fun _ => .of_sublist (.refl _)⟩
  case h_2 => exact removed _
  case h_3 => exact removed _
  case h_4 state => exact lost (by simp [Entry.holds, state])
  case h_5 state => exact lost (by simp [Entry.holds, state])

theorem cascadeLoss_fadingRun (depth : Nat) (n : Name) (ok : A → RosterOk s) :
    FadingRun A H s (cascadeLoss depth n s) := by
  induction depth generalizing n s with
  | zero => exact ⟨.none, fun _ => .of_sublist (.refl _)⟩
  | succ depth ih =>
    rw [cascadeLoss_succ]
    refine List.foldlRecOn (motive := FadingRun A H s) _ _ ⟨.none, fun _ => .of_sublist (.refl _)⟩ fun t ht e he => ?_
    have mem := (State.mem_directlyBehind.mp he).1
    refine ht.trans (loseMember_fadingRun (fun n t ok => ih n ok) (fun a => (ok a).fits mem) (ht.1.rosterOk ok)
      fun a g hg same => ?_)
    obtain ⟨h, hh, identity, name⟩ := ht.2 a g hg
    rw [name, (ok a).eq_of_identity hh mem (identity.symm.trans same)]

end

end Sys2Proof.Machine

/-! What a received frame does, as runs of moves (02 section 2.3, 05, 06). A RECALL is no run of moves: it reaches every owner. -/

namespace Sys2Proof.Machine

section

variable {A H : Prop} {s : State}

/-! ### The sender report (R24, R82, R84) -/

theorem refreshHolder_moves {e : Entry} (ok : A → RosterOk s) (he : e ∈ s.roster.entries) (holds : e.holds = true) :
    Moves A H s (refreshHolder e s) := by
  have named : Moves A H s
      (changeEntry e.identity (fun g => { g.toNamed s.silenceValue with lastHeard := s.time.now }) s) :=
    (Move.refreshed _ fun a => (ok a).eachOf he holds).run
  unfold refreshHolder
  dsimp only
  split
  · exact named
  · exact named.then (.record _ _ _ _)

theorem askedOk_append {s : State} {n : Name} {p : ProbeState} {tag : Option Nat} (range : inRange 1 Config.lastName n = true)
    (fresh : s.roster.asked.find? (fun a => a.name == n) = none) (closed : p ≠ .opened) (ok : AskedOk s) :
    AskedOk (s.withAsked (s.roster.asked ++ [{ name := n, probe := p, window := none, tag := tag }])) := by
  obtain ⟨names, members⟩ := ok
  have absent : ∀ a ∈ s.roster.asked, a.name ≠ n := by simpa using fresh
  refine ⟨?_, fun a ha => ?_⟩
  · simpa [State.withAsked, List.nodup_append, names] using absent
  · rcases List.mem_append.mp ha with ha | ha
    · exact members a ha
    · obtain rfl := List.mem_singleton.mp ha
      exact ⟨range, by simp [closed]⟩

theorem askedOk_replace {s : State} {n : Name} {p : ProbeState} {tag : Option Nat} (closed : p ≠ .opened) (ok : AskedOk s) :
    AskedOk (s.withAsked (s.roster.asked.map
      (fun b => if b.name == n then { name := n, probe := p, window := none, tag := tag } else b))) := by
  obtain ⟨names, members⟩ := ok
  have same (b : Asked) :
      (if b.name == n then { name := n, probe := p, window := none, tag := tag } else b : Asked).name = b.name := by
    by_cases h : b.name = n <;> simp [h]
  have kept : (s.roster.asked.map
      (fun b => if b.name == n then ({ name := n, probe := p, window := none, tag := tag } : Asked) else b)).map (·.name)
      = s.roster.asked.map (·.name) := by
    rw [List.map_map]
    exact List.map_congr_left fun b _ => same b
  refine ⟨kept ▸ names, fun a ha => ?_⟩
  obtain ⟨b, hb, rfl⟩ := List.mem_map.mp ha
  refine ⟨by rw [same]; exact (members b hb).1, ?_⟩
  by_cases h : b.name = n
  · simp [h, closed]
  · simpa [h] using (members b hb).2

theorem askedOk_leave {s : State} (n : Name) (ok : AskedOk s) : AskedOk (leaveAsked n s) := by
  obtain ⟨names, members⟩ := ok
  exact ⟨names.sublist (List.filter_sublist.map _), fun a ha => members a (List.mem_filter.mp ha).1⟩

theorem AskedOk.congr {t : State} (ok : AskedOk s) (h : t.roster.asked = s.roster.asked) : AskedOk t := by
  rwa [AskedOk, h]

/-- The member of the asked set that asking for n puts there (R84, R86). -/
def askedMember (n : Name) (s : State) : Asked :=
  if (offerOutcome (.probe n) s).entered then { name := n, probe := .queued, window := none, tag := some s.line.nextTag }
  else { name := n, probe := .unsent, window := none, tag := none }

theorem askedMember_closed (n : Name) (s : State) : ∃ p tag, p ≠ .opened ∧
    askedMember n s = { name := n, probe := p, window := none, tag := tag } := by
  unfold askedMember
  split
  · exact ⟨.queued, some s.line.nextTag, by decide, rfl⟩
  · exact ⟨.unsent, none, by decide, rfl⟩

theorem askName_moves {n : Name} (range : inRange 1 Config.lastName n = true) : Moves A H s (askName n s) := by
  have offered : Moves A H s (offerFrame (.probe n) .roster (.adoptionProbe n) s) :=
    (Move.offered (.probe n) .roster (.adoptionProbe n) (fun _ => beq_self_eq_true n) nofun).run
  obtain ⟨p, tag, closed, member⟩ := askedMember_closed n s
  have same : (offerFrame (.probe n) .roster (.adoptionProbe n) s).roster.asked = s.roster.asked := by simp
  unfold askName
  dsimp only
  change Moves A H s (match s.roster.asked.find? (fun a => a.name == n) with
    | none => (offerFrame (.probe n) .roster (.adoptionProbe n) s).withAsked (s.roster.asked ++ [askedMember n s])
    | some a => if a.probe == .unsent then (offerFrame (.probe n) .roster (.adoptionProbe n) s).withAsked
        (s.roster.asked.map (fun b => if b.name == n then askedMember n s else b)) else s)
  rw [member]
  split
  · next fresh =>
    rw [← same]
    exact offered.then (.asked _ (askedOk_append range (by rw [same]; exact fresh) closed))
  · split
    · rw [← same]
      exact offered.then (.asked _ (askedOk_replace closed))
    · exact .none

theorem senderReport_moves {n : Name} (range : inRange 1 Config.lastName n = true) (ok : A → RosterOk s) :
    Moves A H s (senderReport n s) := by
  unfold senderReport
  split
  · next e he =>
    obtain ⟨mem, held⟩ := State.holder_eq_some he
    split
    · exact Move.foreign.run
    · exact refreshHolder_moves ok mem (Entry.holds_of_heldName held).1
  · exact Move.foreign.run.append (askName_moves range)

theorem answerProbe_moves : Moves A H s (answerProbe s) := by
  unfold answerProbe
  split
  · exact .none
  · exact (Move.offered (.hold s.cfg.identity) .line .none (fun _ => rfl) nofun).run

/-! ### The roster unit (R76 to R83, R93) -/

theorem createHeard_moves {x : Identity} (path : Name) (revision : Byte) (absent : s.entryOf x = none)
    (counting : H → s.Counting) : Moves A H s (createHeard x path revision s) := by
  unfold createHeard
  split
  · unfold creationFails
    split
    · exact .none
    · exact Move.latched.run.then (.record _ _ _ _)
  · next k free => exact (Move.created k x path revision free absent counting).run.then (.record _ _ _ _)

/-- What an ANNOUNCE sets in the entry of its sender (R78 to R80). -/
def Entry.announced (p : Name) (revision : Byte) (now : Time) (g : Entry) : Entry :=
  { g with path := p, revision := revision, lastHeard := now }

theorem Entry.marks_announced (p : Name) (revision : Byte) (now : Time) : Entry.Marks (Entry.announced p revision now) := by
  constructor <;> exact fun _ => rfl

/-- What a CLAIM sets in the entry of its sender (R107). -/
def Entry.heardAt (now : Time) (g : Entry) : Entry := { g with lastHeard := now }

theorem Entry.marks_heardAt (now : Time) : Entry.Marks (Entry.heardAt now) := by
  constructor <;> exact fun _ => rfl

theorem Entry.Marks.touch {f : Entry → Entry} (marks : Entry.Marks f) (x : Identity) : Moves A H s (changeEntry x f s) :=
  (Move.touched x f marks.bounded fun _ g _ _ => marks.touched g).run

theorem takeAnnounce_moves (x : Identity) (p : Name) (revision : Byte) (known : Known A H s) :
    Moves A H s (takeAnnounce x p revision s) := by
  have marks := Entry.marks_announced p revision s.time.now
  unfold takeAnnounce
  split
  · split
    · next absent => exact createHeard_moves _ _ absent known.counting
    · next e entry =>
      dsimp only
      split
      case h_1 heard =>
        refine (Move.touched x (fun g => { g.announced p revision s.time.now with claimDl := some s.claimValue })
          (fun _ => id) fun a => entryOf_eachOf (known.roster a) entry ?_).run
        have armed := ((known.roster a).fits (State.entryOf_eq_some entry).1).claimDl_iff.mpr heard
        exact ⟨rfl, rfl, rfl, rfl, armed.symm, rfl, rfl⟩
      case h_2 => exact marks.touch x
      case h_3 state => exact restartEntry_moves marks known entry (by simp [Entry.holds, state])
      case h_4 state => exact restartEntry_moves marks known entry (by simp [Entry.holds, state])
      case h_5 state => exact returnEntry_moves marks known entry (by simp [Entry.holds, state])
  · exact (Move.record _ _ _ _).run

theorem Entry.checkBeat_bounded (q : BitVec 8) (g : Entry) (h : g.Bounded) : (g.checkBeat q).Bounded := by
  unfold Entry.checkBeat
  split
  · exact h
  · split
    · exact h
    · exact ⟨satAdd_le _ _ _, h.2⟩

theorem Entry.checkBeat_touched (q : BitVec 8) (g : Entry) : g.Touched (g.checkBeat q) := by
  unfold Entry.checkBeat
  split
  · constructor <;> rfl
  · split <;> constructor <;> rfl

theorem takeBeat_moves (n : Name) (q : BitVec 8) : Moves A H s (takeBeat n q s) := by
  unfold takeBeat
  split
  · split
    · exact .none
    · exact (Move.touched _ _ (Entry.checkBeat_bounded q) fun _ g _ _ => Entry.checkBeat_touched q g).run
  · exact .none

theorem takeRelease_moves (n : Name) (x : Identity) (ok : A → RosterOk s) : Moves A H s (takeRelease n x s) := by
  unfold takeRelease
  split
  · next e he =>
    split
    · have recorded : Moves A H s (queueRecord .released n (some x) 0 s) := (Move.record _ _ _ _).run
      refine recorded.append (removeEntry_moves _ (recorded.rosterOk ok) fun a => ?_)
      exact State.EachOf.congr ((ok a).eachOf (State.holder_eq_some he).1 rfl) (by simp)
    · exact Move.foreign.run
  · exact Move.foreign.run

theorem takeCall_moves (n : Name) (cause : Byte) : Moves A H s (takeCall n cause s) := by
  unfold takeCall
  split
  · next e he =>
    obtain ⟨mem, held⟩ := State.holder_eq_some he
    obtain ⟨name, state⟩ := Entry.heldName_eq_some_iff.mp held
    split
    · exact .none
    · next other =>
      refine (Move.called _ _ fun _ => ⟨e, mem, name, ?_⟩).run
      rcases state with state | state | state
      · exact .inl state
      · exact .inr state
      · simp [state] at other
  · exact .none

/-! ### The naming unit: CLAIM (R107 to R112) -/

theorem countObjection_moves (x : Identity) : Moves A H s (countObjection x s) := by
  have touch (f : Entry → Entry) (same : ∀ g : Entry, g.Touched (f g)) (gaps : ∀ g : Entry, (f g).gaps = g.gaps)
      (objections : ∀ g : Entry, (f g).objections ≤ Config.maxObjections) : Moves A H s (changeEntry x f s) :=
    (Move.touched _ _ (fun g h => ⟨gaps g ▸ h.1, objections g⟩) fun _ g _ _ => same g).run
  unfold countObjection
  split
  · exact .none
  · dsimp only
    split
    · refine (touch (fun g => { g with objections := satAdd Config.maxObjections _ 1, storm := true })
        (fun g => ?_) (fun _ => rfl) fun _ => satAdd_le _ _ _).then (.record _ _ _ _)
      constructor <;> rfl
    · refine touch (fun g => { g with objections := satAdd Config.maxObjections _ 1 }) (fun g => ?_) (fun _ => rfl)
        fun _ => satAdd_le _ _ _
      constructor <;> rfl

theorem raiseObjection_moves (x : Identity) (n : Name) (reason : Reason) (counter : Name) :
    Moves A H s (raiseObjection x n reason counter s) :=
  (Move.objected x n reason counter).run.append (countObjection_moves x)

/-- A claim that no test of R108 fails. -/
theorem claimTest_eq_none {x : Identity} {n : Name} (h : claimTest x n s = none) :
    n ≠ 0 ∧ n ≠ Config.noneName ∧ (∃ g ∈ s.roster.entries, g.identity = x)
      ∧ (∀ g ∈ s.roster.entries, g.heldName ≠ some n ∧ g.claimedName ≠ some n)
      ∧ s.naming.claims.length < Config.claimCapacity := by
  unfold claimTest at h
  split at h
  · simp at h
  next range =>
  split at h
  · simp at h
  next present =>
  split at h
  · simp at h
  next held =>
  split at h
  · simp at h
  next claimed =>
  split at h
  · simp at h
  dsimp only at h
  split at h
  · simp at h
  split at h
  · simp at h
  next room =>
  rw [not_or] at range
  refine ⟨range.1, range.2, ?_, fun g hg => ⟨fun hn => ?_, fun hn => ?_⟩, Nat.lt_of_not_le room⟩
  · rw [Option.isNone_iff_eq_none] at present
    obtain ⟨e, he⟩ := Option.ne_none_iff_exists'.mp present
    exact ⟨e, State.entryOf_eq_some he⟩
  · exact held (by rw [State.holder, List.find?_isSome]; exact ⟨g, hg, by simpa using hn⟩)
  · exact claimed (List.any_eq_true.mpr ⟨g, hg, by simpa using hn⟩)

/-- An entry that neither holds a name nor claims it does not have it. -/
theorem Entry.Fits.name_ne {e : Entry} (fits : e.Fits) {n : Name} (held : e.heldName ≠ some n)
    (claimed : e.claimedName ≠ some n) : e.name ≠ some n := by
  intro name
  rcases eq_or_ne e.state .heard with heard | notHeard
  · simp [fits.name_eq_none_iff.mpr heard] at name
  · rcases eq_or_ne e.state .claiming with claiming | notClaiming
    · exact claimed (Entry.claimedName_eq_some_iff.mpr ⟨name, claiming⟩)
    · refine held (Entry.heldName_eq_some_iff.mpr ⟨name, ?_⟩)
      cases state : e.state <;> simp_all

theorem judgeClaim_moves {x : Identity} {n : Name} (range : n ≤ 63) (ok : A → RosterOk s)
    (heard : A → s.EachOf x fun g => g.state = .heard) : Moves A H s (judgeClaim x n s) := by
  unfold judgeClaim
  split
  · exact raiseObjection_moves _ _ _ _
  · next passes =>
    obtain ⟨nonzero, notNone, present, free, room⟩ := claimTest_eq_none passes
    refine (Move.accepted x n present heard (fun a g hg => ?_) (fun _ => ?_) room).run
    · exact ((ok a).fits hg).name_ne (free g hg).1 (free g hg).2
    · have below : n < 63 := Nat.lt_of_le_of_ne range notNone
      have above : 1 ≤ n := Nat.one_le_iff_ne_zero.mpr nonzero
      exact Bool.and_eq_true_iff.mpr ⟨decide_eq_true above, decide_eq_true (Nat.le_of_lt_succ below)⟩

/-- Once the entry of x has left its name for HEARD it stays HEARD as its stage goes. -/
theorem eachOf_leaveName_heard {x : Identity} {n : Name} {f : Entry → Entry} (enters : ∀ g : Entry, g.EntersHeard (f g))
    (kind : ChangeKind) (name : Name) (identity : Option Identity) (detail : Nat) :
    (leaveName x n .stalled (queueRecord kind name identity detail (heardReported (changeEntry x f s)))).EachOf x
      fun g => g.state = .heard := by
  intro g hg same
  have mem : g ∈ (changeEntry x f s).roster.entries := by
    have := (leaveStage_sublist _ _ _ _ _).subset (leaveName_eq _ _ _ _ ▸ hg)
    simpa using this
  obtain ⟨h, _, _, rfl⟩ := mem_changeEntry_own mem same
  exact (enters h).state

theorem eachOf_restartEntry_heard {e : Entry} {f : Entry → Entry} (marks : Entry.Marks f) :
    (restartEntry e f s).EachOf e.identity fun g => g.state = .heard := by
  unfold restartEntry
  dsimp only
  rw [changeEntry_heldToHeard]
  exact eachOf_leaveName_heard (fun g => marks.entersHeard _ g) _ _ _ _

theorem eachOf_returnEntry_heard {e : Entry} {f : Entry → Entry} (marks : Entry.Marks f) :
    (returnEntry e f s).EachOf e.identity fun g => g.state = .heard := by
  unfold returnEntry
  dsimp only
  rw [changeEntry_heldToHeard]
  exact eachOf_leaveName_heard (fun g => marks.entersHeard _ g) _ _ _ _

theorem eachOf_entryToHeard_heard (x : Identity) (s : State) : (entryToHeard x s).EachOf x fun g => g.state = .heard := by
  intro g hg same
  obtain ⟨h, _, _, rfl⟩ := mem_changeEntry_own (x := x) (f := Entry.toHeard s.claimValue) (s := s) (by simpa using hg) same
  rfl

theorem eachOf_createHeard_heard {x : Identity} {path : Name} {revision : Byte} (absent : s.entryOf x = none) :
    (createHeard x path revision s).EachOf x fun g => g.state = .heard := by
  intro g hg same
  have others := State.not_mem_of_entryOf_eq_none absent
  unfold createHeard at hg
  split at hg
  · exact absurd same (others g (by simpa using hg))
  · next k _ =>
    have mem : g = joiningEntry k x path revision s ∨ g ∈ s.roster.entries := by simpa [joiningEntry] using hg
    rcases mem with rfl | mem
    · rfl
    · exact absurd same (others g mem)

theorem takeClaim_moves {x : Identity} {n : Name} (range : n ≤ 63) (known : Known A H s) : Moves A H s (takeClaim x n s) := by
  have marks := Entry.marks_heardAt s.time.now
  have touched : Moves A H s (changeEntry x (Entry.heardAt s.time.now) s) := marks.touch x
  unfold takeClaim
  split
  · next absent =>
    have created := createHeard_moves (A := A) 0 0 absent known.counting
    exact created.append (judgeClaim_moves range (created.rosterOk known.roster) fun _ => eachOf_createHeard_heard absent)
  · next e entry =>
    obtain ⟨_, rfl⟩ := State.entryOf_eq_some entry
    have each {P : Entry → Prop} (h : P (e.heardAt s.time.now)) (a : A) :
        (changeEntry e.identity (Entry.heardAt s.time.now) s).EachOf e.identity P := by
      intro g hg same
      obtain ⟨d, hd, hdx, rfl⟩ := mem_changeEntry_own hg same
      rwa [(known.roster a).eq_of_identity hd (State.entryOf_eq_some entry).1 hdx]
    dsimp only
    split
    case h_1 state =>
      exact touched.append (judgeClaim_moves range (touched.rosterOk known.roster) (each state))
    case h_2 state =>
      have heard := touched.then (.heard e.identity
        (fun a _ => each (by simp [Entry.heldName, Entry.holds, Entry.heardAt, state]) a) (touched.known known).counting)
      exact heard.append (judgeClaim_moves range (heard.rosterOk known.roster) fun _ => eachOf_entryToHeard_heard _ _)
    case h_3 state =>
      have restarted := restartEntry_moves marks known entry (by simp [Entry.holds, state])
      exact restarted.append (judgeClaim_moves range (restarted.rosterOk known.roster) fun _ =>
        eachOf_restartEntry_heard marks)
    case h_4 state =>
      have restarted := restartEntry_moves marks known entry (by simp [Entry.holds, state])
      exact restarted.append (judgeClaim_moves range (restarted.rosterOk known.roster) fun _ =>
        eachOf_restartEntry_heard marks)
    case h_5 state =>
      split
      · exact Move.foreign.run
      · have returned := returnEntry_moves marks known entry (by simp [Entry.holds, state])
        exact returned.append (judgeClaim_moves range (returned.rosterOk known.roster) fun _ =>
          eachOf_returnEntry_heard marks)

/-! ### The naming unit: OBJECT (R114, R115) -/

/-- A pending claimant, whose entry is CLAIMING, has no name to leave (R103). -/
theorem eachOf_claimant {x : Identity} {c : PendingClaim} (ok : RosterOk s) (claims : ClaimsInStep s)
    (claim : s.claimOf x = some c) : s.EachOf x fun g => g.heldName = none := by
  obtain ⟨_, _, claimed, _⟩ := claims
  obtain ⟨e, he, identity, name⟩ := claimed c (List.mem_of_find?_eq_some claim)
  have same : c.claimant = x := by simpa using List.find?_some claim
  obtain ⟨_, state⟩ := Entry.claimedName_eq_some_iff.mp name
  exact (identity.trans same) ▸ ok.eachOf he (by simp [Entry.heldName, Entry.holds, state])

theorem heardConflict_moves (x : Identity) (d : Name) (known : Known A H s) : Moves A H s (heardConflict x d s) := by
  unfold heardConflict
  split
  · next e he =>
    obtain ⟨mem, held⟩ := State.holder_eq_some he
    split
    · exact demoteEntry_moves known mem (Entry.holds_of_heldName held).1 _ _
    · exact .none
  · exact .none

theorem takeObject_moves (x : Identity) (d : Name) (reason : Nat) (known : Known A H s) :
    Moves A H s (takeObject x d reason s) := by
  have dropped : Moves A H s (match s.claimOf x with
      | some _ => entryToHeard x (dropClaim x s)
      | none => s) := by
    split
    · next c claim =>
      exact (Move.heard x (fun a inStep => eachOf_claimant (known.roster a) inStep claim) known.counting).run
    · exact .none
  have counted := (dropped.then (.withdrawn x d (reason == Reason.conflict.code))).append (countObjection_moves x)
  unfold takeObject
  dsimp only
  split
  · exact counted.append (heardConflict_moves x d (counted.known known))
  · exact counted

/-! ### The naming unit: HOLD (R117 to R121) -/

theorem disputeHold_moves (x : Identity) (n : Name) (reason : Reason) (counter : Name) :
    Moves A H s (disputeHold x n reason counter s) :=
  (Move.offered (.object x n reason counter) .naming (.holdObjection x) (fun _ => beq_self_eq_true x) nofun).run

/-- A name that is free for x is the name of no other entry (R102). -/
theorem RosterOk.fresh_of_freeFor {x : Identity} {n : Name} (ok : RosterOk s) (free : s.freeFor x n = true) :
    ∀ g ∈ s.roster.entries, g.name = some n → g.identity = x := by
  obtain ⟨claimed, held, _⟩ := State.freeFor_iff.mp free
  intro g hg name
  obtain ⟨named, silent, lost⟩ := held g hg name
  cases state : g.state with
  | heard => simp [(ok.fits hg).name_eq_none_iff.mpr state] at name
  | claiming => exact claimed g hg name state
  | named => exact absurd state named
  | silent => exact absurd state silent
  | lost => exact absurd state lost

/-- A map of a list in order, the new member with it, is an insertion of the image. -/
theorem map_insertBy {α β : Type} {p : α → Bool} {q : β → Bool} {f : α → β} {x : α} {l : List α}
    (same : ∀ y ∈ l, q (f y) = p y) : (insertBy p x l).map f = insertBy q (f x) (l.map f) := by
  induction l with
  | nil => rfl
  | cons y l ih =>
    have rest := ih fun z hz => same z (List.mem_cons_of_mem _ hz)
    by_cases h : p y = true
    · simp [insertBy, h, same y]
    · simp [insertBy, h, same y, rest]

/-- A change of the entry that has just come into the table. -/
theorem changeEntry_insertEntry {x : Identity} {e : Entry} {f : Entry → Entry} (absent : s.entryOf x = none)
    (own : e.identity = x) (slot : (f e).slot = e.slot) : changeEntry x f (insertEntry e s) = insertEntry (f e) s := by
  have others := State.not_mem_of_entryOf_eq_none absent
  have unchanged : s.roster.entries.map (fun g => if g.identity == x then f g else g) = s.roster.entries := by
    conv_rhs => rw [← List.map_id s.roster.entries]
    exact List.map_congr_left fun g hg => by simp [others g hg]
  have entries : (insertEntry e s).roster.entries.map (fun g => if g.identity == x then f g else g) =
      insertBy (fun g => decide ((f e).slot < g.slot)) (f e) s.roster.entries := by
    rw [insertEntry_entries, map_insertBy (q := fun g => decide ((f e).slot < g.slot)) fun g hg => ?_, unchanged]
    · simp [own]
    · simp [others g hg, slot]
  rw [changeEntry, entries]
  rfl

/-- Naming the entry that has just come into slot k gives the entry of an adoption. -/
theorem nameEntry_insertEntry {k : Nat} {x : Identity} {n : Name} (absent : s.entryOf x = none) :
    nameEntry x n (insertEntry { newEntry k x 0 0 s.time.now with state := .named, name := some n } s) =
      (insertEntry (adoptedEntry k x n s) s).withNaming (s.naming.bind x n) := by
  rw [nameEntry_eq, changeEntry_insertEntry absent rfl rfl]
  rfl

theorem adopted_moves {x : Identity} {n : Name} {t : State} (named : Moves A H s (nameEntry x n t)) :
    Moves A H s (adopted x n t) :=
  (named.then (.record _ _ _ _)).then .adoptionTold

/-- Adoption of a stranger, or of an entry that still seeks a name (R119). -/
theorem adoptHold_moves {x : Identity} {n : Name} (ok : A → RosterOk s) (range : inRange 1 Config.lastName n = true)
    (free : s.freeFor x n = true) (seeks : ∀ e, s.entryOf x = some e → e.seeking = true) :
    Moves A H s (adoptHold x n s) := by
  unfold adoptHold
  split
  · next e entry =>
    exact adopted_moves (Move.named x n (fun a => entryOf_eachOf (ok a) entry (seeks e entry))
      (fun a => (ok a).fresh_of_freeFor free) fun _ => range).run
  · next absent =>
    split
    · refine Moves.append ?_ (disputeHold_moves x n .full 0)
      unfold creationFails
      split
      · exact .none
      · exact Move.latched.run.then (.record _ _ _ _)
    · next k slot =>
      refine adopted_moves ?_
      rw [nameEntry_insertEntry absent]
      refine (Move.adopted k x n slot absent (fun a g hg name => ?_) fun _ => range).run
      exact State.not_mem_of_entryOf_eq_none absent g hg ((ok a).fresh_of_freeFor free g hg name)

theorem conflictHold_moves (x : Identity) (n : Name) (known : Known A H s) : Moves A H s (conflictHold x n s) := by
  unfold conflictHold
  dsimp only
  refine Moves.append (Moves.append ?_ (disputeHold_moves x n .conflict _)) (countObjection_moves x)
  split
  · exact (Move.record _ _ _ _).run
  · next e entry =>
    have mem := (State.entryOf_eq_some entry).1
    split
    case h_1 => exact (Move.record _ _ _ _).run
    case h_2 state =>
      exact (Move.heard x (fun a _ => entryOf_eachOf (known.roster a) entry (by simp [Entry.heldName, Entry.holds, state]))
        known.counting).run.then (.record _ _ _ _)
    case h_3 state => exact demoteEntry_moves known mem (by simp [Entry.holds, state]) _ _
    case h_4 state => exact demoteEntry_moves known mem (by simp [Entry.holds, state]) _ _
    case h_5 state => exact demoteEntry_moves known mem (by simp [Entry.holds, state]) _ _

/-- What R117 asks of an acceptance. -/
theorem State.acceptable_iff {x : Identity} {n : Name} : s.acceptable x n = true ↔
    ∃ e c, s.entryOf x = some e ∧ s.claimOf x = some c ∧ e.claimedName = some n ∧ c.windowEnded = true
      ∧ s.objectionState c = .none := by
  unfold State.acceptable
  split
  · next e c entry claim =>
    simp only [Bool.and_eq_true, beq_iff_eq, entry, claim, Option.some.injEq]
    exact ⟨fun ⟨⟨name, ended⟩, unopposed⟩ => ⟨e, c, rfl, rfl, name, ended, unopposed⟩,
      fun ⟨_, _, rfl, rfl, name, ended, unopposed⟩ => ⟨⟨name, ended⟩, unopposed⟩⟩
  · next missing =>
    exact ⟨nofun, fun ⟨e, c, entry, claim, _⟩ => absurd claim (missing e c entry)⟩

theorem acceptHold_moves {x : Identity} {n : Name} (ok : A → RosterOk s) (range : inRange 1 Config.lastName n = true)
    (acceptable : s.acceptable x n = true) : Moves A H s (acceptHold x n s) := by
  obtain ⟨e, c, entry, _, claimed, _⟩ := State.acceptable_iff.mp acceptable
  obtain ⟨name, state⟩ := Entry.claimedName_eq_some_iff.mp claimed
  obtain ⟨mem, own⟩ := State.entryOf_eq_some entry
  exact (Move.named x n (fun a => entryOf_eachOf (ok a) entry (by simp [Entry.seeking, state]))
    (fun a g hg hn => by rw [(ok a).eq_of_name hg mem hn name, own]) fun _ => range).run.then (.record _ _ _ _)

theorem judgeHold_moves {x : Identity} {n : Name} (range : inRange 1 Config.lastName n = true) (known : Known A H s) :
    Moves A H s (judgeHold x n s) := by
  unfold judgeHold
  split
  · next absent =>
    split
    · next free => exact adoptHold_moves known.roster range free fun e entry => by simp [absent] at entry
    · exact conflictHold_moves x n known
  · next e entry =>
    split
    · exact Move.foreign.run
    split
    · next acceptable => exact acceptHold_moves known.roster range acceptable
    split
    · next held =>
      exact refreshHolder_moves known.roster (State.entryOf_eq_some entry).1
        (Entry.holds_of_heldName (n := n) (by simpa using held)).1
    split
    · next free =>
      simp only [Bool.and_eq_true] at free
      exact adoptHold_moves known.roster range free.1 fun d other => by
        obtain rfl := Option.some.inj (entry.symm.trans other)
        exact free.2
    · exact conflictHold_moves x n known

theorem pingAnswered_moves (x : Identity) (n : Name) : Moves A H s (pingAnswered x n s) := by
  unfold pingAnswered
  split
  · next awaits =>
    simp only [Bool.and_eq_true] at awaits
    split
    · exact (Move.pingEnds _ _ awaits.1.1).run
    · exact (Move.pingEnds _ _ awaits.1.1).run
  · exact .none

theorem takeHold_moves {x : Identity} {n : Name} (range : inRange 1 Config.lastName n = true) (known : Known A H s) :
    Moves A H s (takeHold x n s) := by
  have answered : Moves A H s (pingAnswered x n (leaveAsked n s)) :=
    (Move.asked _ (askedOk_leave n)).run.append (pingAnswered_moves x n)
  exact answered.append (judgeHold_moves range (answered.known known))

/-! ### The dispatch (R24) -/

theorem inRange_of_senderKeyOk {key : Key} (h : senderKeyOk key = true) : inRange 1 Config.lastName (senderOf key) = true := h

/-- A well-formed frame that is no RECALL is a run of moves. -/
theorem dispatch_moves {f : RxFrame} {own : Option Identity} (form : formOk own f = true)
    (other : ∀ reason, f.body ≠ .recall reason) (known : Known A H s) : Moves A H s (dispatch f s) := by
  obtain ⟨key, body⟩ := f
  unfold formOk at form
  unfold dispatch
  cases body with
  | object claimant name reason counter =>
    simp only [Bool.and_eq_true] at form
    have reported := senderReport_moves (H := H) (inRange_of_senderKeyOk form.1.1.1.1) known.roster
    exact reported.append (takeObject_moves _ _ _ (reported.known known))
  | call cause =>
    exact (senderReport_moves (inRange_of_senderKeyOk form) known.roster).append (takeCall_moves _ _)
  | hold holder =>
    simp only [Bool.and_eq_true] at form
    exact takeHold_moves (inRange_of_senderKeyOk form.1) known
  | claim name tryCount =>
    simp only [Bool.and_eq_true, byteIn, decide_eq_true_eq] at form
    exact takeClaim_moves form.2.2 known
  | announce path revision wish => exact takeAnnounce_moves _ _ _ known
  | probe target =>
    simp only [Bool.and_eq_true] at form
    have reported := senderReport_moves (H := H) (inRange_of_senderKeyOk form.1) known.roster
    dsimp only
    split
    · exact reported.append answerProbe_moves
    · exact reported
  | beat sequence window =>
    exact (senderReport_moves (inRange_of_senderKeyOk form) known.roster).append (takeBeat_moves _ _)
  | release holder => exact takeRelease_moves _ _ known.roster
  | _ => exact absurd rfl (other _)

/-! ### The deadlines of entries and claims (R81, R89, R90, R105) -/

theorem State.mem_of_entryAt {slot : Nat} {e : Entry} (entry : s.entryAt slot = some e) : e ∈ s.roster.entries :=
  List.mem_of_find?_eq_some entry

theorem claimExpiry_moves {slot : Nat} {e : Entry} (entry : s.entryAt slot = some e) (ok : A → RosterOk s) :
    Moves A H s (removeEntry e .stalled (queueRecord .stalled 0 (some e.identity) 0 s)) := by
  have recorded : Moves A H s (queueRecord .stalled 0 (some e.identity) 0 s) := (Move.record _ _ _ _).run
  exact recorded.append (removeEntry_moves _ (recorded.rosterOk ok) fun a =>
    State.EachOf.congr ((ok a).eachOf (State.mem_of_entryAt entry) rfl) (by simp))

theorem silenceExpiry_moves {slot : Nat} {e : Entry} (entry : s.entryAt slot = some e) (armed : e.silenceDl.isSome = true)
    (ok : A → RosterOk s) (span : Nat) :
    Moves A H s (queueRecord .silent (e.name.getD 0) (some e.identity) 0 (changeEntry e.identity (Entry.toSilent span) s)) := by
  have mem := State.mem_of_entryAt entry
  exact (Move.silenced e.identity span fun a =>
    (ok a).eachOf mem (((ok a).fits mem).silenceDl_iff.mp armed)).run.then (.record _ _ _ _)

theorem lossExpiry_moves {slot : Nat} {e : Entry} (entry : s.entryAt slot = some e) (armed : e.lossDl.isSome = true)
    (ok : A → RosterOk s) : Moves A H s (if isBridge e.identity then
      cascadeLoss Config.rosterCapacity (e.name.getD 0) (loseEntry e 0 s) else loseEntry e 0 s) := by
  have mem := State.mem_of_entryAt entry
  have lost : Moves A H s (loseEntry e 0 s) := loseEntry_moves 0 fun a =>
    (ok a).eachOf mem ((ok a).heldName_getD mem (by simp [Entry.holds, ((ok a).fits mem).lossDl_iff.mp armed]))
  split
  · exact lost.append (cascadeLoss_fadingRun _ _ (lost.rosterOk ok)).1
  · exact lost

theorem holdExpiry_moves {x : Identity} {c : PendingClaim} (claim : s.claimOf x = some c) (known : Known A H s) :
    Moves A H s (entryToHeard x (dropClaim x s)) :=
  (Move.heard x (fun a inStep => eachOf_claimant (known.roster a) inStep claim) known.counting).run

/-- Nothing is known of the roster, and nothing asked. -/
theorem Known.nothing : Known False False s := ⟨False.elim, False.elim⟩

/-- The FORGET order is a run of moves and its end (R94, R175). -/
theorem forgetOrder_moves (ok : A → RosterOk s) :
    ∃ t error, Moves A H s t ∧ forgetOrder s = endOrder error 0 t := by
  unfold forgetOrder
  dsimp only
  split
  · split
    · next e he =>
      split
      · have recorded : Moves A H s (queueRecord .forgotten s.order.operand.toNat (some e.identity) 0 s) :=
          (Move.record _ _ _ _).run
        refine ⟨_, none, recorded.append (removeEntry_moves .forgotten (recorded.rosterOk ok) fun a => ?_), rfl⟩
        exact State.EachOf.congr ((ok a).eachOf (State.holder_eq_some he).1 rfl) (by simp)
      · exact ⟨s, some .notLost, .none, rfl⟩
    · exact ⟨s, some .notLost, .none, rfl⟩
  · exact ⟨s, some .badOperand, .none, rfl⟩

end

end Sys2Proof.Machine

/-! What one event does to the tool's records: the roster, the naming and service units, the transmit list, the counts, the
change queue and the order, apart from the census, the coupling and the notices. -/

namespace Sys2Proof.Machine

/-- s and t agree in the roster, the naming and service units, the change queue, the order, the transmit list and the counts. -/
structure SameTool (s t : State) : Prop where
  roster : t.roster = s.roster
  naming : t.naming = s.naming
  service : t.service = s.service
  changes : t.changes = s.changes
  order : t.order = s.order
  txList : t.line.txList = s.line.txList
  nextTag : t.line.nextTag = s.line.nextTag
  txDrops : t.line.txDrops = s.line.txDrops
  foreign : t.line.foreign = s.line.foreign
  errors : t.line.errors = s.line.errors

theorem SameTool.trans {s t u : State} (h : SameTool s t) (h' : SameTool t u) : SameTool s u :=
  ⟨h'.roster.trans h.roster, h'.naming.trans h.naming, h'.service.trans h.service, h'.changes.trans h.changes,
    h'.order.trans h.order, h'.txList.trans h.txList, h'.nextTag.trans h.nextTag, h'.txDrops.trans h.txDrops,
    h'.foreign.trans h.foreign, h'.errors.trans h.errors⟩

theorem sameTool_refl (s : State) : SameTool s s := by constructor <;> rfl

theorem sameTool_refreshNotices (s : State) : SameTool s (refreshNotices s) := by constructor <;> rfl

theorem sameTool_close (s : State) : SameTool s (close s) := by constructor <;> simp

theorem sameTool_clockOut (before : State) (bytes : List Byte) (s : State) : SameTool s (clockOut before bytes s) := by
  constructor <;> rfl

theorem sameTool_enterMaking (s : State) : SameTool s (enterMaking s) := by constructor <;> simp [enterMaking_line]

theorem sameTool_enterHeld (s : State) : SameTool s (enterHeld s) := by constructor <;> simp [enterHeld_line]

theorem sameTool_enterBreaking (s : State) : SameTool s (enterBreaking s) := by constructor <;> simp [enterBreaking_line]

theorem sameTool_enterOpen (s : State) : SameTool s (enterOpen s) := by constructor <;> simp [enterOpen_line]

theorem sameTool_beginFreeze (s : State) : SameTool s (beginFreeze s) := by constructor <;> simp

theorem sameTool_enterCoupled (s : State) : SameTool (releaseFreeze s) (enterCoupled s) := by
  constructor <;> simp [enterCoupled_line]

theorem releaseFreeze_withPins (s : State) (p : Pins) : releaseFreeze (s.withPins p) = (releaseFreeze s).withPins p := by
  unfold releaseFreeze
  by_cases h : s.time.frozen = true
  · simp [h]
    rfl
  · simp [h]

theorem releaseFreeze_withCoupling (s : State) (c : Coupling) :
    releaseFreeze (s.withCoupling c) = (releaseFreeze s).withCoupling c := by
  unfold releaseFreeze
  by_cases h : s.time.frozen = true
  · simp [h]
    rfl
  · simp [h]

/-- s is left, or its freeze is released. -/
def Released (s t : State) : Prop := SameTool s t ∨ SameTool (releaseFreeze s) t

theorem Released.trans {s t u : State} (h : Released s t) (h' : SameTool t u) : Released s u :=
  h.imp (·.trans h') (·.trans h')

theorem Released.of_coupling {s t : State} {c : Coupling} (h : Released (s.withCoupling c) t) : Released s t := by
  have keeps (u : State) : SameTool u (u.withCoupling c) := by constructor <;> rfl
  refine h.imp (keeps s).trans fun h => (keeps (releaseFreeze s)).trans ?_
  rwa [← releaseFreeze_withCoupling]

theorem Released.of_pins {s t : State} {p : Pins} (h : Released (s.withPins p) t) : Released s t := by
  have keeps (u : State) : SameTool u (u.withPins p) := by constructor <;> rfl
  refine h.imp (keeps s).trans fun h => (keeps (releaseFreeze s)).trans ?_
  rwa [← releaseFreeze_withPins]

theorem released_coupleByLock (s : State) : Released s (coupleByLock s) := by
  cases lock : s.pins.lock with
  | true => rw [coupleByLock_of_lock lock]; exact .inr (sameTool_enterCoupled s)
  | false => rw [coupleByLock_of_not_lock lock]; exact .inl (sameTool_enterHeld s)

theorem released_matesMet (s : State) : Released s (matesMet s) := by
  unfold matesMet
  split
  case h_1 => exact .inl (sameTool_enterMaking s)
  case h_2 => exact (released_coupleByLock _).of_coupling
  all_goals exact .inl (sameTool_refl s)

theorem sameTool_mateParted (s : State) : SameTool s (mateParted s) := by
  unfold mateParted
  split
  case h_1 => exact sameTool_enterOpen s
  case h_2 => exact (sameTool_beginFreeze s).trans (sameTool_enterBreaking _)
  case h_3 => exact sameTool_enterBreaking s
  all_goals exact sameTool_refl s

/-! ### The recall (R37, R96) -/

/-- A recall up to its effect on the order: every owner is emptied, and of the transmit list a BEAT is kept (R33, R96). -/
def emptyOwners (sender : Name) (s : State) : State :=
  let t := recallCensus (emptyNaming (queueRecord .recalled sender none s.roster.entries.length (emptyRoster s)))
  withdraw (fun f => !f.isBeat) (t.withService t.service.emptied)

/-- The order of a RECALL that is removed from the list ends OK with detail 1 (R176). -/
def endRecalled (s t : State) : State := if s.line.txList.any TxFrame.isRecall then endRecallOrder none 1 t else t

theorem takeRecall_eq (sender : Name) (s : State) : takeRecall sender s =
    let t := endRecalled s (emptyOwners sender s)
    if s.line.txList.any TxFrame.isPingProbe && t.pingRunning then offerPingProbe t.order.operand.toNat t else t := rfl

@[simp] theorem emptyOwners_values (sender : Name) (s : State) :
    (emptyOwners sender s).pins = s.pins ∧ (emptyOwners sender s).time = s.time
      ∧ (emptyOwners sender s).line = { s.line with txList := s.line.txList.filter TxFrame.isBeat }
      ∧ (emptyOwners sender s).coupling = s.coupling ∧ (emptyOwners sender s).roster = Roster.reset
      ∧ (emptyOwners sender s).naming = {
          plan := s.naming.plan.map (fun p => if p.wildcard then { p with binding := none } else p), claims := [],
          tickets := [] }
      ∧ (emptyOwners sender s).census = (recallCensus s).census
      ∧ (emptyOwners sender s).service = { s.service with requests := [], inService := [] }
      ∧ (emptyOwners sender s).changes = (queueRecord .recalled sender none s.roster.entries.length s).changes
      ∧ (emptyOwners sender s).notices = s.notices ∧ (emptyOwners sender s).order = s.order
      ∧ (emptyOwners sender s).snapshot = s.snapshot ∧ (emptyOwners sender s).draws = s.draws
      ∧ (emptyOwners sender s).pending = s.pending := by
  have recorded : (queueRecord .recalled sender none s.roster.entries.length (emptyRoster s)).changes
      = (queueRecord .recalled sender none s.roster.entries.length s).changes :=
    queueRecord_changes_congr (by simp) (by simp) _ _ _ _
  have census : (recallCensus (emptyNaming (queueRecord .recalled sender none s.roster.entries.length (emptyRoster s)))).census
      = (recallCensus s).census := by
    unfold recallCensus
    simp only [emptyNaming_frame, queueRecord_frame, emptyRoster_frame]
    split
    · simp [State.toolAfter, State.cfg]
    · simp
  simp [emptyOwners, recorded, census, Service.emptied]

@[simp] theorem endRecalled_frame (s t : State) :
    (endRecalled s t).pins = t.pins ∧ (endRecalled s t).time = t.time ∧ (endRecalled s t).line = t.line
      ∧ (endRecalled s t).coupling = t.coupling ∧ (endRecalled s t).roster = t.roster
      ∧ (endRecalled s t).naming = t.naming ∧ (endRecalled s t).census = t.census
      ∧ (endRecalled s t).service = t.service ∧ (endRecalled s t).changes = t.changes
      ∧ (endRecalled s t).notices = t.notices ∧ (endRecalled s t).snapshot = t.snapshot
      ∧ (endRecalled s t).draws = t.draws ∧ (endRecalled s t).pending = t.pending
      ∧ (endRecalled s t).order.data = t.order.data ∧ (endRecalled s t).order.operand = t.order.operand
      ∧ (endRecalled s t).order.opcode = t.order.opcode ∧ (endRecalled s t).order.phase = t.order.phase
      ∧ (endRecalled s t).order.setup = t.order.setup := by
  unfold endRecalled
  split <;> simp

/-- What a recall leaves of the owners, whatever becomes of the order (R96, R122, R135, R156). -/
theorem takeRecall_values (sender : Name) (s : State) :
    (takeRecall sender s).roster = Roster.reset
      ∧ (takeRecall sender s).naming = {
          plan := s.naming.plan.map (fun p => if p.wildcard then { p with binding := none } else p), claims := [],
          tickets := [] }
      ∧ (takeRecall sender s).census = (recallCensus s).census
      ∧ (takeRecall sender s).service = { s.service with requests := [], inService := [] }
      ∧ (takeRecall sender s).changes = (queueRecord .recalled sender none s.roster.entries.length s).changes := by
  rw [takeRecall_eq]
  dsimp only
  split <;> simp

/-! ### The end of an attempt (R12) -/

/-- The attempt has succeeded and the count has fallen (R12, R15). -/
def endInSuccess (s : State) : State := goodCount (endAttempt .hunting s)

theorem completeAttempt_eq (i : InFlight) (s : State) : completeAttempt i s =
    match (endInSuccess s).line.frame i.tag with
    | none => endInSuccess s
    | some f => sentReport f (withdraw (fun g => g.tag == i.tag) (endInSuccess s)) := rfl

@[simp] theorem endInSuccess_line (s : State) : (endInSuccess s).line =
    { s.line with
      inFlight := none, rx := .hunting, errors := s.line.errors - 1
      fault := s.line.fault && (decide (Config.faultExit ≤ s.line.errors - 1) || s.line.stuck) } := by
  rw [endInSuccess, goodCount_line]
  rfl

@[simp] theorem endInSuccess_frame (s : State) :
    (endInSuccess s).pins = s.pins ∧ (endInSuccess s).time = s.time ∧ (endInSuccess s).coupling = s.coupling
      ∧ (endInSuccess s).roster = s.roster ∧ (endInSuccess s).naming = s.naming
      ∧ (endInSuccess s).census = s.census ∧ (endInSuccess s).service = s.service
      ∧ (endInSuccess s).changes = s.changes ∧ (endInSuccess s).notices = s.notices
      ∧ (endInSuccess s).order = s.order ∧ (endInSuccess s).snapshot = s.snapshot
      ∧ (endInSuccess s).draws = s.draws ∧ (endInSuccess s).pending = s.pending := by
  simp [endInSuccess]

/-- The order of s is over, or was not running, and what it keeps with it is gone (R171, R172). -/
structure OrderRests (o o' : Order) : Prop where
  state : o'.state ≠ .running
  pingIdentity : o'.pingIdentity = none
  pingWindow : o'.pingWindow = none
  data : o'.data = o.data
  setup : o'.phase = .run → (o.phase = .run ∧ o'.setup = o.setup) ∨ o'.setup.isSome = true

theorem orderRests_of_ended {o : Order} {s : OrderState} {w : BitVec 16} {d : Byte} (h : s ≠ .running) :
    OrderRests o { o with state := s, termination := w, detail := d, pingIdentity := none, pingWindow := none } :=
  ⟨h, rfl, rfl, rfl, fun run => .inl ⟨run, rfl⟩⟩

theorem State.isSome_of_toolDue {s : State} {d : Option Time} (h : s.toolDue d = true) : d.isSome = true :=
  State.isSome_of_due (Bool.and_eq_true_iff.mp h).2

/-- What one event does to the tool's records. -/
inductive Work (s : State) : State → Prop
  | released : Work s (releaseFreeze s)
  /-- A park or a teardown (R66, R69). -/
  | emptied (c : CensusState) (off : c.lineActive = false) (kind : ChangeKind) (detail : Nat) {o : Order}
      (rests : OrderRests s.order o) : Work s ((queueRecord kind 0 none detail (emptyTool c s)).withOrder o)
  | attemptBegins : Work s (beginAttempt s)
  | bitError (i : InFlight) (cause : BitErrorCause) : Work s (failAttempt i cause s)
  | sent (i : InFlight) : Work s (completeAttempt i s)
  | receiveError (rx : Receiver) : Work s (checkFault (s.withLine { s.line with
      errors := satAdd Config.maxErrors s.line.errors 1, rx := rx, recessive8 := false }))
  | stuckEnters (rx : Receiver) :
      Work s (enterFault (s.withLine { s.line with stuck := true, rx := rx, recessive8 := false }))
  /-- A run of moves, after a good frame where there is one. -/
  | runs {r u : State} (start : r = s ∨ r = goodFrame s)
      (run : ∀ {A H : Prop}, Known A H r → Moves A H r u) : Work s u
  | recalled (sender : Name) : Work s (takeRecall sender (goodFrame s))
  | objectionWindowEnds (x : Identity) : Work s (s.withNaming { s.naming with
      claims := s.naming.claims.map (fun d => if d.claimant == x then { d with windowEnded := true } else d) })
  | ticketExpires (k : Nat) (ticket : ∃ b ∈ s.naming.tickets, b.tag = k) : Work s (withdrawLate k (s.withNaming { s.naming with
      tickets := s.naming.tickets.filter (fun t => t.tag != k) }))
  | pingWindowEnds : Work s (endPingOrder (some .noAnswer) 0 (s.withOrder { s.order with pingWindow := none }))
  | orderWritten (opcode operand : Byte) (offset : Nat) (bytes : List Byte) (idle : s.order.state = .idle) :
      Work s (s.withOrder { s.order with opcode, operand, data := writeData s.order.data offset bytes })
  | retired (done : s.order.state = .done) : Work s (s.withOrder { s.order with state := .idle })
  | changeRead {r : ChangeRecord} {rest : List ChangeRecord} (queue : s.changes.queue = r :: rest) :
      Work s (s.withChanges { s.changes with queue := rest })
  | taken {n : Name} (choice : s.takeChoice = some n) : Work s (s.withService (s.service.taken s.cfg n))
  | finished {n : Name} (serving : n ∈ s.service.inService) : Work s (s.withService (s.service.doneWith s.cfg n))
  | maskSet (mask : BitVec 64) : Work s (s.withService { s.service with mask := maskOf mask })
  | orderEnds {o : Order} (rests : OrderRests s.order o) (idle : s.order.state = .idle) : Work s (s.withOrder o)
  | planned (p : List PlanEntry) {o : Order} (room : p.length ≤ Config.planCapacity) (rests : OrderRests s.order o)
      (idle : s.order.state = .idle) : Work s ((s.withNaming { s.naming with plan := p }).withOrder o)
  | recallStarts (idle : s.order.state = .idle) (opcode : s.order.opcode = 0x12) (phase : s.order.phase = .run) :
      Work s (recallOrder (beginOrder s))
  | pingStarts (idle : s.order.state = .idle) (opcode : s.order.opcode = 0x13) (phase : s.order.phase = .run) :
      Work s (pingOrder (beginOrder s))
  | forgets (idle : s.order.state = .idle) (opcode : s.order.opcode = 0x14) (phase : s.order.phase = .run) :
      Work s (forgetOrder (beginOrder s))

/-- t is what one event makes of s, as far as the tool's records go. -/
def Works (s t : State) : Prop := ∃ u, Work s u ∧ SameTool u t

theorem Work.works {s u t : State} (w : Work s u) (h : SameTool u t) : Works s t := ⟨u, w, h⟩

theorem Works.of_run {s u t : State} (run : ∀ {A H : Prop}, Known A H s → Moves A H s u) (h : SameTool u t) : Works s t :=
  (Work.runs (.inl rfl) run).works h

theorem Works.of_same {s t : State} (h : SameTool s t) : Works s t := .of_run (fun _ => .none) h

theorem Works.of_released {s t : State} (h : Released s t) : Works s t :=
  h.elim .of_same Work.released.works

theorem orderRests_overtaken (s : State) : OrderRests s.order (overtakeOrder (s.withOrder
    { s.order with pingIdentity := none, pingWindow := none })).order := by
  rw [overtakeOrder_order]
  split
  · exact ⟨nofun, rfl, rfl, rfl, fun run => .inl ⟨run, rfl⟩⟩
  · next resting => exact ⟨resting, rfl, rfl, rfl, fun run => .inl ⟨run, rfl⟩⟩

theorem sameTool_parkOvertaking {s s' : State} (h : SameTool s s') (now : s'.time.now = s.time.now) (kind : ChangeKind)
    (detail : Nat) : SameTool ((queueRecord kind 0 none detail (emptyTool .parked s)).withOrder
      (overtakeOrder (s.withOrder { s.order with pingIdentity := none, pingWindow := none })).order)
      (parkOvertaking kind detail s') := by
  have recorded : (queueRecord kind 0 none detail (emptyTool .parked s')).changes
      = (queueRecord kind 0 none detail (emptyTool .parked s)).changes :=
    queueRecord_changes_congr (by simp [h.changes]) (by simp [now]) _ _ _ _
  by_cases running : s.order.state = .running
  · constructor <;> simp [parkOvertaking, parkTool, overtakeOrder_order, emptyTool_line (c := .parked) rfl, h.naming, h.service,
      h.order, h.nextTag, h.txDrops, h.foreign, recorded, running]
  · constructor <;> simp [parkOvertaking, parkTool, overtakeOrder_order, emptyTool_line (c := .parked) rfl, h.naming, h.service,
      h.order, h.nextTag, h.txDrops, h.foreign, recorded, running]

theorem works_parkOvertaking {s s' : State} (h : SameTool s s') (now : s'.time.now = s.time.now) (kind : ChangeKind)
    (detail : Nat) : Works s (parkOvertaking kind detail s') :=
  (Work.emptied .parked rfl kind detail (orderRests_overtaken s)).works (sameTool_parkOvertaking h now kind detail)

theorem works_teardown {s s' : State} (h : SameTool s s') (now : s'.time.now = s.time.now) : Works s (teardown s') := by
  refine (Work.emptied .absent rfl .torn s.roster.entries.length (orderRests_overtaken s)).works
    (SameTool.trans ?_ (sameTool_enterOpen _))
  have recorded : (queueRecord .torn 0 none s'.roster.entries.length (emptyTool .absent s')).changes
      = (queueRecord .torn 0 none s.roster.entries.length (emptyTool .absent s)).changes := by
    rw [h.roster]
    exact queueRecord_changes_congr (by simp [h.changes]) (by simp [now]) _ _ _ _
  by_cases running : s.order.state = .running
  · constructor <;> simp [overtakeOrder_order, emptyTool_line (c := .absent) rfl, h.naming, h.service, h.order, h.nextTag,
      h.txDrops, h.foreign, recorded, running]
  · constructor <;> simp [overtakeOrder_order, emptyTool_line (c := .absent) rfl, h.naming, h.service, h.order, h.nextTag,
      h.txDrops, h.foreign, recorded, running]

theorem sameTool_withPins (s : State) (p : Pins) : SameTool s (s.withPins p) := by constructor <;> rfl

theorem sameTool_withCoupling (s : State) (c : Coupling) : SameTool s (s.withCoupling c) := by constructor <;> rfl

/-- An order that ends in the event that began it (R171). -/
theorem works_orderEnds {s t : State} {error : Option OrderError} {detail : Nat} (idle : s.order.state = .idle)
    (h : SameTool (endOrder error detail (beginOrder s)) t) : Works s t := by
  refine (Work.orderEnds (s := s) (o := (endOrder error detail (beginOrder s)).order)
    ⟨nofun, rfl, rfl, rfl, fun run => .inl ⟨run, rfl⟩⟩ idle).works (SameTool.trans ?_ h)
  constructor <;> rfl

theorem works_setupOrder {s t : State} (idle : s.order.state = .idle) (h : SameTool (setupOrder (beginOrder s)) t) :
    Works s t := by
  unfold setupOrder at h
  dsimp only at h
  split at h
  · exact works_orderEnds idle h
  · refine (Work.orderEnds (s := s) (o := (endOrder none 0 ((beginOrder s).withOrder
      { (beginOrder s).order with setup := some (setupOf (beginOrder s).order.data) })).order)
      ⟨nofun, rfl, rfl, rfl, fun _ => .inr rfl⟩ idle).works (SameTool.trans ?_ h)
    constructor <;> rfl

theorem works_planOrder {s t : State} (idle : s.order.state = .idle) (h : SameTool (planOrder (beginOrder s)) t) :
    Works s t := by
  unfold planOrder at h
  dsimp only at h
  split at h
  · split at h
    · exact works_orderEnds idle h
    · split at h
      · exact works_orderEnds idle h
      · next fits =>
        simp only [planClash, Bool.or_eq_true, decide_eq_true_eq, not_or, Nat.not_lt] at fits
        refine (Work.planned (s := s) (o := (endOrder none 0 (beginOrder s)).order) _ fits.2
          ⟨nofun, rfl, rfl, rfl, fun run => .inl ⟨run, rfl⟩⟩ idle).works (SameTool.trans ?_ h)
        constructor <;> rfl
  · exact works_orderEnds idle h

theorem works_clearPlanOrder {s t : State} (idle : s.order.state = .idle)
    (h : SameTool (clearPlanOrder (beginOrder s)) t) : Works s t := by
  refine (Work.planned (s := s) (o := (endOrder none 0 (beginOrder s)).order) [] (by decide)
    ⟨nofun, rfl, rfl, rfl, fun run => .inl ⟨run, rfl⟩⟩ idle).works (SameTool.trans ?_ h)
  constructor <;> rfl

theorem works_goOrder {s t : State} (idle : s.order.state = .idle) (h : SameTool (goOrder (beginOrder s)) t) : Works s t := by
  unfold goOrder at h
  split at h
  · exact works_orderEnds idle h
  · next v setup =>
    refine (Work.orderEnds (s := s) (o := (endOrder none 0 ((beginOrder s).withOrder
      { (beginOrder s).order with phase := .run })).order)
      ⟨nofun, rfl, rfl, rfl, fun _ => .inr (Option.isSome_of_eq_some setup)⟩ idle).works (SameTool.trans ?_ h)
    dsimp only
    split
    · constructor <;> simp [enterMaking_line]
    · constructor <;> rfl

theorem works_parkOrder {s t : State} (idle : s.order.state = .idle) (h : SameTool (parkOrder (beginOrder s)) t) :
    Works s t := by
  unfold parkOrder at h
  split at h
  · refine (Work.emptied (s := s) .parked rfl .parked 1 (o := (endOrder none 0 (beginOrder s)).order)
      ⟨nofun, rfl, rfl, rfl, fun run => .inl ⟨run, rfl⟩⟩).works (SameTool.trans ?_ h)
    have recorded : (queueRecord .parked 0 none 1 (emptyTool .parked (beginOrder s))).changes
        = (queueRecord .parked 0 none 1 (emptyTool .parked s)).changes :=
      queueRecord_changes_congr (by simp) (by simp) _ _ _ _
    constructor <;> simp [parkTool, emptyTool_line (c := .parked) rfl, recorded]
  · exact works_orderEnds idle h

theorem works_unparkOrder {s t : State} (idle : s.order.state = .idle) (h : SameTool (unparkOrder (beginOrder s)) t) :
    Works s t := by
  unfold unparkOrder at h
  split at h
  · refine works_orderEnds (error := none) (detail := 0) idle (SameTool.trans ?_ h)
    split
    · constructor <;> rfl
    · constructor <;> rfl
  · exact works_orderEnds idle h

theorem sameTool_withCensus (s : State) (c : Census) : SameTool s (s.withCensus c) := by constructor <;> rfl

theorem sameTool_queueRecord {s s' : State} (h : SameTool s s') (now : s'.time.now = s.time.now) (kind : ChangeKind)
    (name : Name) (identity : Option Identity) (detail : Nat) :
    SameTool (queueRecord kind name identity detail s) (queueRecord kind name identity detail s') := by
  have recorded := queueRecord_changes_congr h.changes now kind name identity detail
  constructor <;> simp [h.roster, h.naming, h.service, h.order, h.txList, h.nextTag, h.txDrops, h.foreign, h.errors, recorded]

theorem works_censusRecord {s t : State} {c : Census} (kind : ChangeKind) (detail : Nat)
    (h : SameTool (queueRecord kind 0 none detail (s.withCensus c)) t) : Works s t :=
  .of_run (fun _ => (Move.record kind 0 none detail).run)
    ((sameTool_queueRecord (sameTool_withCensus s c) rfl _ _ _ _).trans h)

theorem works_enterComplete {s t : State} {c : Census} (h : SameTool (enterComplete (s.withCensus c)) t) : Works s t :=
  works_censusRecord .census (s.withCensus c).namedCount (SameTool.trans (by constructor <;> rfl) h)

theorem works_censusOverrun {s t : State} {c : Census} (h : SameTool (censusOverrun (s.withCensus c)) t) : Works s t := by
  unfold censusOverrun at h
  split at h
  case h_1 => exact works_censusRecord _ _ h
  case h_2 => exact works_censusRecord _ _ h
  all_goals exact .of_same ((sameTool_withCensus s c).trans h)

theorem sameTool_offerFrame_withTime (b : TxBody) (owner : Owner) (ref : OwnerRef) (s : State) (x : TimeBase) :
    SameTool (offerFrame b owner ref s) (offerFrame b owner ref (s.withTime x)) := by
  have outcome : offerOutcome b (s.withTime x) = offerOutcome b s := rfl
  unfold offerFrame
  rw [outcome]
  dsimp only
  split <;> constructor <;> rfl

/-- Every effect works on the tool's records so. -/
theorem Effect.works {s t : State} (h : Effect s t) : Works s t := by
  have ended (bytes : List Byte) (u : State) : SameTool u (clockOut s bytes (close u)) :=
    (sameTool_close u).trans (sameTool_clockOut _ _ _)
  cases h with
  | noEvent => exact .of_same (sameTool_refl s)
  | @level p inputs => exact .of_same ((sameTool_withPins s p).trans (sameTool_refreshNotices _))
  | mated inputs lock phase =>
    exact .of_released ((released_matesMet _).of_pins.trans (sameTool_refreshNotices _))
  | @parted p inputs phase =>
    exact .of_same (((sameTool_withPins s p).trans (sameTool_mateParted _)).trans (sameTool_refreshNotices _))
  | lockEngages phase held =>
    exact .of_released ((Released.of_pins (.inr (sameTool_enterCoupled _))).trans (sameTool_refreshNotices _))
  | lockReleases phase coupled =>
    exact .of_same ((((sameTool_withPins s _).trans (sameTool_beginFreeze _)).trans (sameTool_enterHeld _)).trans
      (sameTool_refreshNotices _))
  | supplyDrops on =>
    obtain ⟨u, w, same⟩ := works_parkOvertaking (sameTool_withPins s { s.pins with supplyGood := false }) rfl .supplyFault 2
    exact w.works (same.trans (sameTool_refreshNotices _))
  | makeExpires due making =>
    exact .of_released ((released_coupleByLock _).of_coupling.trans (sameTool_refreshNotices _))
  | breakExpires due =>
    obtain ⟨u, w, same⟩ := works_teardown (sameTool_withCoupling s { s.coupling with brk := none }) rfl
    exact w.works (same.trans (sameTool_refreshNotices _))
  | settles due good => exact .of_same (by constructor <;> simp [syncLine_line])
  | settleFails due =>
    obtain ⟨u, w, same⟩ := works_parkOvertaking (sameTool_withCoupling s { s.coupling with settle := none }) rfl
      .supplyFault 1
    exact w.works (same.trans (sameTool_refreshNotices _))
  | holdLimitExpires due =>
    obtain ⟨u, w, same⟩ := works_parkOvertaking (sameTool_withCoupling s { s.coupling with holdLimit := none }) rfl
      .parked 2
    exact w.works (same.trans (sameTool_refreshNotices _))
  | attemptBegins may => exact Work.attemptBegins.works (sameTool_refreshNotices _)
  | bitError cause inFlight => exact (Work.bitError _ cause).works (sameTool_refreshNotices _)
  | sent inFlight => exact (Work.sent _).works (sameTool_close _)
  | receiveError cause receiving => exact (Work.receiveError _).works (sameTool_refreshNotices _)
  | stuckEnters enabled fault => exact (Work.stuckEnters _).works (sameTool_refreshNotices _)
  | framePasses =>
    refine .of_same ?_
    unfold passFrame
    split
    · split <;> constructor <;> rfl
    all_goals exact sameTool_refl s
  | foreign receiving => exact (Work.runs (.inr rfl) fun _ => Move.foreign.run).works (sameTool_close _)
  | @received f receiving form =>
    by_cases recalls : ∃ reason, f.body = .recall reason
    · obtain ⟨reason, body⟩ := recalls
      have same : dispatch f (goodFrame s) = takeRecall (senderOf f.key) (goodFrame s) := by
        unfold dispatch
        rw [body]
      rw [same]
      exact (Work.recalled _).works (sameTool_close _)
    · rw [not_exists] at recalls
      exact (Work.runs (.inr rfl) fun known => dispatch_moves form recalls known).works (sameTool_close _)
  | claimExpires entry due => exact .of_run (fun known => claimExpiry_moves entry known.roster) (sameTool_close _)
  | silenceExpires entry due =>
    exact .of_run (fun known => silenceExpiry_moves entry (State.isSome_of_toolDue due) known.roster _)
      (sameTool_refreshNotices _)
  | lossExpires entry due =>
    exact .of_run (fun known => lossExpiry_moves entry (State.isSome_of_toolDue due) known.roster) (sameTool_close _)
  | probeWindowEnds n => exact .of_run (fun _ => (Move.asked _ (askedOk_leave n)).run) (sameTool_refreshNotices _)
  | objectionWindowEnds x => exact (Work.objectionWindowEnds x).works (sameTool_refreshNotices _)
  | holdExpires claim => exact .of_run (fun known => holdExpiry_moves claim known) (sameTool_close _)
  | ticketExpires k ticket => exact (Work.ticketExpires k ticket).works (sameTool_refreshNotices _)
  | firstFrameExpires powering => exact works_enterComplete (sameTool_refreshNotices _)
  | quietExpires quiet => exact works_enterComplete (sameTool_refreshNotices _)
  | censusExpires => exact works_censusOverrun (sameTool_refreshNotices _)
  | pingWindowEnds => exact Work.pingWindowEnds.works (sameTool_refreshNotices _)
  | beatMatches armed =>
    exact .of_run (fun _ => (Move.offered .beat .timeBase .none (fun _ => rfl) nofun).run)
      ((sameTool_offerFrame_withTime _ _ _ s _).trans (sameTool_refreshNotices _))
  | orderWritten opcode operand offset bytes idle =>
    exact (Work.orderWritten opcode operand offset bytes idle).works (sameTool_clockOut _ _ _)
  | retired done => exact (Work.retired done).works ((sameTool_refreshNotices _).trans (sameTool_clockOut _ _ _))
  | changeRead queue => exact (Work.changeRead queue).works ((sameTool_refreshNotices _).trans (sameTool_clockOut _ _ _))
  | taken choice => exact (Work.taken choice).works ((sameTool_refreshNotices _).trans (sameTool_clockOut _ _ _))
  | finished serving => exact (Work.finished serving).works ((sameTool_refreshNotices _).trans (sameTool_clockOut _ _ _))
  | maskSet mask => exact (Work.maskSet mask).works ((sameTool_refreshNotices _).trans (sameTool_clockOut _ _ _))
  | orderRejected error idle => exact works_orderEnds idle (ended _ _)
  | orderSetup idle opcode phase => exact works_setupOrder idle (ended _ _)
  | orderPlan idle opcode phase => exact works_planOrder idle (ended _ _)
  | orderClearPlan idle opcode phase => exact works_clearPlanOrder idle (ended _ _)
  | orderGo idle opcode phase => exact works_goOrder idle (ended _ _)
  | orderPark idle opcode phase => exact works_parkOrder idle (ended _ _)
  | orderUnpark idle opcode phase => exact works_unparkOrder idle (ended _ _)
  | orderRecall idle opcode phase => exact (Work.recallStarts idle opcode phase).works (ended _ _)
  | orderPing idle opcode phase => exact (Work.pingStarts idle opcode phase).works (ended _ _)
  | orderForget idle opcode phase => exact (Work.forgets idle opcode phase).works (ended _ _)
  | _ => exact .of_same (by constructor <;> simp)

end Sys2Proof.Machine

/-! Counts within their limits, queues within their capacities (R11, R14, R15, R83, R99, R111, R159, R160). -/

namespace Sys2Proof.Machine

/-- The counts of the line interface are within their limits (R11, R14, R15). -/
def LineCounts (l : Line) : Prop :=
  l.errors ≤ Config.maxErrors ∧ l.txDrops ≤ Config.maxCount16 ∧ l.foreign ≤ Config.maxCount16

/-- The change queue is within its capacity, and the counts of drops within theirs (R159, R160). -/
def ChangesBounded (c : Changes) : Prop :=
  c.queue.length ≤ Config.changeCapacity ∧ c.drops ≤ Config.maxCount8
    ∧ ∀ r ∈ c.queue, r.droppedBefore ≤ Config.maxCount8

theorem countsBounded_iff {s : State} : CountsBounded s ↔
    LineCounts s.line ∧ ChangesBounded s.changes ∧ (∀ e ∈ s.roster.entries, e.Bounded)
      ∧ s.naming.plan.length ≤ Config.planCapacity ∧ s.order.data.length = Config.dataBytes := by
  simp only [CountsBounded, LineCounts, ChangesBounded, Entry.Bounded, and_assoc]

theorem LineCounts.congr {l l' : Line} (h : LineCounts l) (errors : l'.errors = l.errors) (txDrops : l'.txDrops = l.txDrops)
    (foreign : l'.foreign = l.foreign) : LineCounts l' := by
  rwa [LineCounts, errors, txDrops, foreign]

theorem LineCounts.countTxDrop {s : State} (h : LineCounts s.line) : LineCounts (countTxDrop s).line :=
  ⟨h.1, satAdd_le _ _ _, h.2.2⟩

theorem LineCounts.offerFrame {s : State} (h : LineCounts s.line) (b : TxBody) (owner : Owner) (ref : OwnerRef) :
    LineCounts (offerFrame b owner ref s).line := by
  unfold Machine.offerFrame
  dsimp only
  split
  · exact h
  · exact LineCounts.countTxDrop (s := s.withLine _) h
  · exact h
  · exact h.countTxDrop

theorem LineCounts.goodFrame {s : State} (h : LineCounts s.line) : LineCounts (goodFrame s).line := by
  rw [goodFrame_line]
  exact ⟨(Nat.sub_le _ _).trans h.1, h.2⟩

theorem ChangesBounded.queueRecord {s : State} (h : ChangesBounded s.changes) (kind : ChangeKind) (name : Name)
    (identity : Option Identity) (detail : Nat) : ChangesBounded (queueRecord kind name identity detail s).changes := by
  obtain ⟨capacity, drops, records⟩ := h
  by_cases room : s.changes.queue.length < Config.changeCapacity
  · rw [queueRecord_room room]
    refine ⟨by simpa using room, Nat.zero_le _, fun r hr => ?_⟩
    rcases List.mem_append.mp hr with hr | hr
    · exact records r hr
    · obtain rfl := List.mem_singleton.mp hr
      exact drops
  · rw [queueRecord_full room]
    exact ⟨capacity, satAdd_le _ _ _, records⟩

theorem bounded_changeEntry {s : State} (h : ∀ e ∈ s.roster.entries, e.Bounded) {x : Identity} {f : Entry → Entry}
    (bounds : ∀ g : Entry, g.Bounded → (f g).Bounded) : ∀ e ∈ (changeEntry x f s).roster.entries, e.Bounded := by
  intro e he
  rw [changeEntry_entries, List.mem_map] at he
  obtain ⟨g, hg, rfl⟩ := he
  split
  · exact bounds g (h g hg)
  · exact h g hg

theorem bounded_insertEntry {s : State} (h : ∀ e ∈ s.roster.entries, e.Bounded) {e : Entry} (he : e.Bounded) :
    ∀ g ∈ (insertEntry e s).roster.entries, g.Bounded := by
  intro g hg
  rcases (mem_insertBy _ _ _ _).mp hg with rfl | hg
  · exact he
  · exact h g hg

theorem Entry.EntersHeard.bounded {g h : Entry} (enters : g.EntersHeard h) (bounded : g.Bounded) : h.Bounded := by
  rwa [Entry.Bounded, enters.gaps, enters.objections]

theorem Entry.newEntry_bounded : (0 : Nat) ≤ Config.maxCount8 ∧ (0 : Nat) ≤ Config.maxObjections := by decide

theorem CountsBounded.congr {s t : State} (h : CountsBounded s) (line : LineCounts t.line) (changes : ChangesBounded t.changes)
    (entries : ∀ e ∈ t.roster.entries, e.Bounded) (plan : t.naming.plan.length = s.naming.plan.length)
    (data : t.order.data = s.order.data) : CountsBounded t := by
  obtain ⟨_, _, _, planned, length⟩ := countsBounded_iff.mp h
  exact countsBounded_iff.mpr ⟨line, changes, entries, plan ▸ planned, data ▸ length⟩

theorem Move.countsBounded {A H : Prop} {s t : State} (m : Move A H s t) (h : CountsBounded s) : CountsBounded t := by
  obtain ⟨line, changes, entries, _⟩ := countsBounded_iff.mp h
  cases m with
  | record kind name identity detail =>
    exact h.congr (by simpa using line) (changes.queueRecord _ _ _ _) (by simpa using entries) (by simp) (by simp)
  | foreign =>
    exact h.congr ⟨line.1, line.2.1, satAdd_le _ _ _⟩ (by simpa using changes) (by simpa using entries) (by simp) (by simp)
  | offered b owner ref fits other =>
    exact h.congr (line.offerFrame _ _ _) (by simpa using changes) (by simpa using entries) (by simp) (by simp)
  | objected x n reason counter =>
    refine h.congr ?_ (by simpa using changes) (by simpa using entries) (by simp) (by simp)
    unfold offerObjection
    dsimp only
    split
    · exact line.offerFrame _ _ _
    · exact line.offerFrame _ _ _
  | withdrawn x d conflict =>
    exact h.congr (line.congr (by simp) (by simp) (by simp)) (by simpa using changes) (by simpa using entries) (by simp)
      (by simp)
  | asked l kept => exact h.congr line changes entries rfl rfl
  | touched x f bounds shape =>
    exact h.congr (by simpa using line) (by simpa using changes) (bounded_changeEntry entries bounds) (by simp) (by simp)
  | refreshed x holds =>
    exact h.congr (by simpa using line) (by simpa using changes) (bounded_changeEntry entries fun _ => id) (by simp) (by simp)
  | silenced x span named =>
    exact h.congr (by simpa using line) (by simpa using changes) (bounded_changeEntry entries fun _ => id) (by simp) (by simp)
  | lost x n holds =>
    refine h.congr (by simpa using line) (by simpa using changes) ?_ (by simp) (by simp)
    simpa only [serviceLost_frame] using bounded_changeEntry (f := Entry.toLost) entries fun _ => id
  | heard x seeks counting =>
    refine h.congr (by simpa using line) (by simpa using changes) ?_ (by simp) (by simp)
    have kept := bounded_changeEntry (x := x) (f := Entry.toHeard s.claimValue) entries fun _ => id
    simpa only [entryToHeard_entries, dropClaim_frame, dropClaim_claimValue, changeEntry_entries] using kept
  | left x n f enters holds counting =>
    refine h.congr (by simpa using line) (by simpa using changes) ?_ (by simp) (by simp)
    simpa only [serviceLeft_frame, heardReported_frame] using
      bounded_changeEntry (f := f) entries fun g => (enters g).bounded
  | freed e seeks =>
    exact h.congr (by simpa using line) (by simpa using changes) (fun g hg => entries g (List.mem_filter.mp hg).1) (by simp)
      (by simp)
  | freedName e n holds =>
    exact h.congr (by simpa using line) (by simpa using changes) (fun g hg => entries g (List.mem_filter.mp hg).1) (by simp)
      (by simp)
  | created k x path revision free absent counting =>
    refine h.congr (by simpa using line) (by simpa using changes) ?_ (by simp) (by simp)
    simpa only [heardReported_frame] using
      bounded_insertEntry (e := joiningEntry k x path revision s) entries Entry.newEntry_bounded
  | adopted k x n free absent fresh range =>
    exact h.congr (by simpa using line) (by simpa using changes)
      (bounded_insertEntry (e := adoptedEntry k x n s) entries Entry.newEntry_bounded) (by simp) (by simp)
  | accepted x n present heard fresh range room =>
    rw [acceptClaim_eq]
    exact h.congr (by simpa using line) (by simpa using changes)
      (bounded_changeEntry (f := Entry.claiming n s.time.now) entries fun _ => id) (by simp) (by simp)
  | named x n seeks fresh range =>
    rw [nameEntry_eq]
    refine h.congr (by simpa using line) (by simpa using changes) ?_ (by simp) (by simp)
    simpa using bounded_changeEntry (x := x) (f := Entry.named x n (dropClaim x s)) entries fun _ => id
  | _ => exact h.congr (by simpa using line) (by simpa using changes) (by simpa using entries) (by simp) (by simp)

theorem CountsBounded.sameTool {s t : State} (h : CountsBounded s) (same : SameTool s t) : CountsBounded t := by
  obtain ⟨line, changes, entries, _⟩ := countsBounded_iff.mp h
  exact h.congr (line.congr same.errors same.txDrops same.foreign) (same.changes ▸ changes) (same.roster ▸ entries)
    (by rw [same.naming]) (by rw [same.order])

theorem CountsBounded.goodFrame {s : State} (h : CountsBounded s) : CountsBounded (goodFrame s) := by
  obtain ⟨line, changes, entries, _⟩ := countsBounded_iff.mp h
  exact h.congr line.goodFrame (by simpa using changes) (by simpa using entries) (by simp) (by simp)

theorem CountsBounded.releaseFreeze {s : State} (h : CountsBounded s) : CountsBounded (releaseFreeze s) := by
  by_cases frozen : s.time.frozen = true
  · obtain ⟨line, changes, entries, _⟩ := countsBounded_iff.mp h
    obtain ⟨_, roster, naming, _, order⟩ := movedBy_releaseFreeze frozen
    refine h.congr (by simpa using line) (by simpa using changes) ?_ (by rw [naming]) (by rw [order])
    rw [roster]
    intro e he
    obtain ⟨g, hg, rfl⟩ := List.mem_map.mp he
    exact entries g hg
  · rwa [releaseFreeze_of_not_frozen (by simpa using frozen)]

theorem CountsBounded.emptied {s : State} (h : CountsBounded s) {c : CensusState} (off : c.lineActive = false)
    {kind : ChangeKind} {detail : Nat} {o : Order} (data : o.data = s.order.data) :
    CountsBounded ((queueRecord kind 0 none detail (emptyTool c s)).withOrder o) := by
  obtain ⟨line, changes, _⟩ := countsBounded_iff.mp h
  refine h.congr ?_ ?_ (by simp [Roster.reset]) (by simp) data
  · simp only [State.withOrder_line, queueRecord_frame, emptyTool_line off]
    exact ⟨by simp, by simpa using line.2.1, by simpa using line.2.2⟩
  · exact ChangesBounded.queueRecord (by simpa using changes) _ _ _ _

theorem LineCounts.checkFault {s : State} (h : LineCounts s.line) : LineCounts (checkFault s).line :=
  h.congr (by simp) (by simp) (by simp)

theorem LineCounts.countAttempt {s : State} (h : LineCounts s.line) (i : InFlight) : LineCounts (countAttempt i s).line := by
  unfold Machine.countAttempt
  split
  · exact h
  · split
    · exact h
    · have dropped : LineCounts (Machine.countTxDrop (withdraw (fun g => g.tag == i.tag) s)).line :=
        LineCounts.countTxDrop (s := withdraw _ s) h
      exact dropped.congr (by simp) (by simp) (by simp)

theorem CountsBounded.failAttempt {s : State} (h : CountsBounded s) (i : InFlight) (cause : BitErrorCause) :
    CountsBounded (failAttempt i cause s) := by
  obtain ⟨line, changes, entries, _⟩ := countsBounded_iff.mp h
  refine h.congr ?_ (by simpa using changes) (by simpa using entries) (by simp) (by simp)
  rw [failAttempt_eq]
  exact LineCounts.checkFault (LineCounts.countAttempt (s := endInError cause s) ⟨satAdd_le _ _ _, line.2⟩ i)

theorem CountsBounded.endOrder {s : State} (h : CountsBounded s) (error : Option OrderError) (detail : Nat) :
    CountsBounded (endOrder error detail s) := by
  obtain ⟨line, changes, entries, _⟩ := countsBounded_iff.mp h
  exact h.congr line changes entries rfl rfl

theorem CountsBounded.offerFrame {s : State} (h : CountsBounded s) (b : TxBody) (owner : Owner) (ref : OwnerRef) :
    CountsBounded (offerFrame b owner ref s) := by
  obtain ⟨line, changes, entries, _⟩ := countsBounded_iff.mp h
  exact h.congr (line.offerFrame _ _ _) (by simpa using changes) (by simpa using entries) (by simp) (by simp)

theorem CountsBounded.offerPingProbe {s : State} (h : CountsBounded s) (n : Name) : CountsBounded (offerPingProbe n s) := by
  have offered := h.offerFrame (.probe n) .order (.pingProbe n)
  unfold Machine.offerPingProbe endPingOrder
  dsimp only
  split
  · exact offered
  · split
    · exact offered.endOrder _ _
    · exact offered

theorem CountsBounded.takeRecall {s : State} (h : CountsBounded s) (sender : Name) : CountsBounded (takeRecall sender s) := by
  obtain ⟨line, changes, _⟩ := countsBounded_iff.mp h
  have emptied : CountsBounded (endRecalled s (emptyOwners sender s)) := by
    refine h.congr ?_ ?_ (by simp [Roster.reset]) (by simp) (by simp)
    · simp only [endRecalled_frame, emptyOwners_values]
      exact line
    · simp only [endRecalled_frame, emptyOwners_values]
      exact changes.queueRecord _ _ _ _
  rw [takeRecall_eq]
  dsimp only
  split
  · exact emptied.offerPingProbe _
  · exact emptied

theorem CountsBounded.sentReport {s : State} (h : CountsBounded s) (f : TxFrame) : CountsBounded (sentReport f s) := by
  obtain ⟨line, changes, entries, _⟩ := countsBounded_iff.mp h
  unfold Machine.sentReport
  split
  · exact h.congr line changes entries rfl rfl
  · refine CountsBounded.takeRecall ?_ 0
    exact h.congr (by simpa using line) (by simpa using changes) (by simpa using entries) (by simp) (by simp)
  · exact h
  · exact h.congr line changes entries rfl rfl
  · split
    · split
      · exact h.congr line changes entries rfl rfl
      · exact h
    · exact h.congr line changes entries rfl rfl

theorem CountsBounded.completeAttempt {s : State} (h : CountsBounded s) (i : InFlight) :
    CountsBounded (completeAttempt i s) := by
  obtain ⟨line, changes, entries, _⟩ := countsBounded_iff.mp h
  have fewer : LineCounts (endInSuccess s).line := by
    rw [endInSuccess_line]
    exact ⟨(Nat.sub_le _ _).trans line.1, line.2⟩
  have ended : CountsBounded (endInSuccess s) :=
    h.congr fewer (by simpa using changes) (by simpa using entries) (by simp) (by simp)
  rw [completeAttempt_eq]
  split
  · exact ended
  · refine CountsBounded.sentReport ?_ _
    exact ended.congr fewer (by simpa using changes) (by simpa using entries) rfl rfl

theorem length_writeData (area : List Byte) (offset : Nat) (bytes : List Byte) :
    (writeData area offset bytes).length = area.length := by
  simp [writeData]

theorem CountsBounded.moves {s t : State} (h : CountsBounded s)
    (run : ∀ {A H : Prop}, Known A H s → Moves A H s t) : CountsBounded t :=
  (run Known.nothing).keeps (fun m => m.countsBounded) h

theorem CountsBounded.recallOrder {s : State} (h : CountsBounded s) : CountsBounded (recallOrder s) := by
  have offered := h.offerFrame .recall .order .none
  unfold Machine.recallOrder offerRecall endRecallOrder
  dsimp only
  split
  · split
    · exact h.endOrder _ _
    · split
      · exact offered
      · split
        · exact offered.endOrder _ _
        · exact offered
  · exact h.endOrder _ _

theorem CountsBounded.pingOrder {s : State} (h : CountsBounded s) : CountsBounded (pingOrder s) := by
  obtain ⟨line, changes, entries, _⟩ := countsBounded_iff.mp h
  unfold Machine.pingOrder
  dsimp only
  split
  · split
    · refine CountsBounded.offerPingProbe ?_ _
      exact h.congr line changes entries rfl rfl
    · exact h.endOrder _ _
  · exact h.endOrder _ _

theorem Work.countsBounded {s u : State} (w : Work s u) (h : CountsBounded s) : CountsBounded u := by
  obtain ⟨line, changes, entries, planned, length⟩ := countsBounded_iff.mp h
  have began : CountsBounded (beginOrder s) := h.congr line changes entries rfl rfl
  cases w with
  | released => exact h.releaseFreeze
  | emptied c off kind detail rests => exact h.emptied off rests.data
  | attemptBegins =>
    refine h.congr ?_ (by simpa using changes) (by simpa using entries) (by simp) (by simp)
    exact line.congr (by simp) (by simp) (by simp)
  | bitError i cause => exact h.failAttempt i cause
  | sent i => exact h.completeAttempt i
  | receiveError rx =>
    exact h.congr (LineCounts.checkFault (s := s.withLine _) ⟨satAdd_le _ _ _, line.2⟩) (by simpa using changes)
      (by simpa using entries) (by simp) (by simp)
  | stuckEnters rx =>
    exact h.congr (line.congr (by simp) (by simp) (by simp)) (by simpa using changes) (by simpa using entries) (by simp)
      (by simp)
  | runs start run =>
    rcases start with rfl | rfl
    · exact h.moves run
    · exact h.goodFrame.moves run
  | recalled sender => exact h.goodFrame.takeRecall sender
  | objectionWindowEnds x => exact h.congr line changes entries rfl rfl
  | ticketExpires k ticket =>
    refine h.congr ?_ (by simpa using changes) (by simpa using entries) (by simp) (by simp)
    unfold withdrawLate
    split
    · exact LineCounts.countTxDrop (s := withdraw _ _) line
    · exact line
  | pingWindowEnds =>
    exact h.congr (by simpa using line) (by simpa using changes) (by simpa using entries) (by simp) (by simp)
  | orderWritten opcode operand offset bytes idle =>
    exact countsBounded_iff.mpr ⟨line, changes, entries, planned, (length_writeData _ _ _).trans length⟩
  | retired done => exact h.congr line changes entries rfl rfl
  | changeRead queue =>
    obtain ⟨capacity, drops, records⟩ := changes
    rw [queue] at capacity records
    exact h.congr line ⟨(Nat.le_succ _).trans capacity, drops, fun r hr => records r (List.mem_cons_of_mem _ hr)⟩ entries
      rfl rfl
  | taken choice => exact h.congr line changes entries rfl rfl
  | finished serving => exact h.congr line changes entries rfl rfl
  | maskSet mask => exact h.congr line changes entries rfl rfl
  | orderEnds rests idle => exact h.congr line changes entries rfl rests.data
  | planned p room rests idle =>
    exact countsBounded_iff.mpr ⟨line, changes, entries, room, by simpa [rests.data] using length⟩
  | recallStarts idle opcode phase => exact began.recallOrder
  | pingStarts idle opcode phase => exact began.pingOrder
  | forgets idle opcode phase =>
    obtain ⟨t, error, run, eq⟩ := forgetOrder_moves (A := False) (H := False) (s := beginOrder s) False.elim
    rw [eq]
    exact (run.keeps (fun m => m.countsBounded) began).endOrder _ _

/-- Settles O9: every effect, seen as work on the tool's records, keeps the counts. -/
theorem countsStayBounded : Obligations.CountsStayBounded := by
  intro s t hs h
  refine invariant_of_effects (Q := CountsBounded) ?_ (fun _ => id) (fun _ => IsReset.countsBounded) ?_ hs h
  · intro s t same hs
    rw [same]
    exact hs
  · intro s t hs act
    obtain ⟨u, w, same⟩ := act.works
    exact (w.countsBounded hs).sameTool same

end Sys2Proof.Machine

/-! The transmit list (02 section 2.4): its order, its numbers, and the tickets that stand for its OBJECTs. -/

namespace Sys2Proof.Machine

/-! ### What an offer makes of the list (R27 to R29) -/

/-- A frame of the part as it is offered (R26). -/
def offeredFrame (b : TxBody) (owner : Owner) (ref : OwnerRef) (l : Line) : TxFrame :=
  { tag := l.nextTag, body := b, owner, ref, attempts := 0, started := false }

theorem offerOutcome_inserted {b : TxBody} {s : State} (h : offerOutcome b s = .inserted) :
    s.line.txList.length < Config.txCapacity ∧ (b = .beat → s.line.txList.any TxFrame.isBeat = false) := by
  unfold offerOutcome at h
  split at h
  · simp at h
  · next single =>
    split at h
    · next room => exact ⟨room, fun beat => by simpa [beat] using single⟩
    · split at h
      · split at h <;> simp at h
      · simp at h

theorem offerOutcome_displaces {b : TxBody} {s : State} {t : Nat} (h : offerOutcome b s = .displaces t) :
    b.isObject = true ∧ ∃ g ∈ s.line.txList, g.isBeat = true ∧ s.line.flies g = false ∧ g.tag = t := by
  unfold offerOutcome at h
  split at h
  · simp at h
  · split at h
    · simp at h
    · split at h
      · next object =>
        split at h
        · next g found =>
          have test : (g.isBeat && !s.line.flies g) = true :=
            List.find?_some (p := fun f : TxFrame => f.isBeat && !s.line.flies f) found
          simp only [Bool.and_eq_true, Bool.not_eq_true'] at test
          exact ⟨object, g, List.mem_of_find?_eq_some found, test.1, test.2, Offer.displaces.inj h⟩
        · simp at h
      · simp at h

/-- What becomes of the list of l as a frame f is offered. -/
inductive Offered (f : TxFrame) (l : Line) : Line → Prop
  | left {l' : Line} (list : l'.txList = l.txList) (tag : l'.nextTag = l.nextTag) : Offered f l l'
  | entered {l' : Line} (room : l.txList.length < Config.txCapacity)
      (single : f.isBeat = true → l.txList.any TxFrame.isBeat = false)
      (list : l'.txList = insertFrame f l.txList) (tag : l'.nextTag = l.nextTag + 1) : Offered f l l'
  | displaced {l' : Line} {g : TxFrame} (object : f.body.isObject = true) (mem : g ∈ l.txList) (beat : g.isBeat = true)
      (list : l'.txList = insertFrame f (l.txList.filter (fun h => h.tag != g.tag))) (tag : l'.nextTag = l.nextTag + 1) :
      Offered f l l'

theorem offered_offerFrame (b : TxBody) (owner : Owner) (ref : OwnerRef) (s : State) :
    Offered (offeredFrame b owner ref s.line) s.line (offerFrame b owner ref s).line := by
  cases outcome : offerOutcome b s with
  | inserted =>
    obtain ⟨room, single⟩ := offerOutcome_inserted outcome
    rw [offerFrame_inserted outcome]
    exact .entered room (fun beat => single (by simpa [TxFrame.isBeat, offeredFrame] using beat)) rfl rfl
  | displaces t =>
    obtain ⟨object, g, mem, beat, _, rfl⟩ := offerOutcome_displaces outcome
    rw [offerFrame_displaces outcome]
    exact .displaced object mem beat rfl rfl
  | refused => rw [offerFrame_refused outcome]; exact .left rfl rfl
  | dropped => rw [offerFrame_dropped outcome]; exact .left rfl rfl

@[simp] theorem mem_insertFrame {f g : TxFrame} {l : List TxFrame} : g ∈ insertFrame f l ↔ g = f ∨ g ∈ l :=
  mem_insertBy _ _ _ _

@[simp] theorem length_insertFrame (f : TxFrame) (l : List TxFrame) : (insertFrame f l).length = l.length + 1 :=
  length_insertBy _ _ _

theorem perm_insertFrame (f : TxFrame) (l : List TxFrame) : (insertFrame f l).Perm (f :: l) := perm_insertBy _ _ _

/-- How many frames of a list meet a test, once one has entered. -/
theorem length_filter_insertFrame (p : TxFrame → Bool) (f : TxFrame) (l : List TxFrame) :
    ((insertFrame f l).filter p).length = (l.filter p).length + if p f then 1 else 0 := by
  rw [((perm_insertFrame f l).filter p).length_eq, List.filter_cons]
  split <;> simp

theorem any_insertFrame (p : TxFrame → Bool) (f : TxFrame) (l : List TxFrame) :
    (insertFrame f l).any p = (p f || l.any p) := by
  rw [Bool.eq_iff_iff]
  simp [List.any_eq_true]

/-! ### A list in order (R27) -/

/-- The transmit list l, with n the number of the next frame, is in the order of R27 and within its capacity. -/
structure TxOk (l : List TxFrame) (n : Nat) : Prop where
  capacity : l.length ≤ Config.txCapacity
  kinds : l.Pairwise fun f g => f.body.kind.code ≤ g.body.kind.code
  single : (l.filter TxFrame.isBeat).length ≤ 1
  fits : ∀ f ∈ l, f.attempts < Config.maxAttempts ∧ f.tag < n ∧ f.refFits = true
  numbers : (l.map (·.tag)).Nodup

theorem txListOk_iff {s : State} : TxListOk s ↔ TxOk s.line.txList s.line.nextTag :=
  ⟨fun ⟨capacity, kinds, single, fits, numbers⟩ => ⟨capacity, kinds, single, fits, numbers⟩,
    fun ⟨capacity, kinds, single, fits, numbers⟩ => ⟨capacity, kinds, single, fits, numbers⟩⟩

theorem TxListOk.congr {s t : State} (h : TxListOk s) (list : t.line.txList = s.line.txList)
    (tag : t.line.nextTag = s.line.nextTag) : TxListOk t := by
  rwa [TxListOk, list, tag]

theorem txOk_nil (n : Nat) : TxOk [] n := ⟨by decide, .nil, by decide, nofun, .nil⟩

section

variable {l : List TxFrame} {n : Nat}

theorem TxOk.sublist {l' : List TxFrame} (h : TxOk l n) (sub : l'.Sublist l) : TxOk l' n :=
  ⟨sub.length_le.trans h.capacity, h.kinds.sublist sub, (sub.filter _).length_le.trans h.single,
    fun f hf => h.fits f (sub.subset hf), h.numbers.sublist (sub.map _)⟩

theorem TxOk.filter (h : TxOk l n) (p : TxFrame → Bool) : TxOk (l.filter p) n := h.sublist List.filter_sublist

/-- The frames of a list are told apart by their numbers. -/
theorem TxOk.eq_of_tag (h : TxOk l n) {f g : TxFrame} (hf : f ∈ l) (hg : g ∈ l) (same : f.tag = g.tag) : f = g :=
  List.inj_on_of_nodup_map h.numbers hf hg same

/-- A change of frames that keeps their bodies, numbers and references, and their attempts below four. -/
theorem TxOk.map (h : TxOk l n) {c : TxFrame → TxFrame} (body : ∀ f, (c f).body = f.body) (tag : ∀ f, (c f).tag = f.tag)
    (ref : ∀ f, (c f).ref = f.ref) (attempts : ∀ f ∈ l, (c f).attempts < Config.maxAttempts) : TxOk (l.map c) n := by
  have kept : (l.map c).map (·.tag) = l.map (·.tag) := by simp [Function.comp_def, tag]
  have beat (f : TxFrame) : (c f).isBeat = f.isBeat := by simp [TxFrame.isBeat, body]
  refine ⟨by simpa using h.capacity, ?_, ?_, fun f hf => ?_, kept ▸ h.numbers⟩
  · rw [List.pairwise_map]
    exact h.kinds.imp fun {f g} le => by rwa [body, body]
  · rw [List.filter_map, List.length_map]
    simpa [Function.comp_def, beat] using h.single
  · obtain ⟨g, hg, rfl⟩ := List.mem_map.mp hf
    obtain ⟨_, below, fits⟩ := h.fits g hg
    exact ⟨attempts g hg, by rwa [tag], by rwa [TxFrame.refFits, body, ref]⟩

theorem TxOk.insertFrame (h : TxOk l n) {f : TxFrame} (tag : f.tag = n) (attempts : f.attempts = 0)
    (fits : f.refFits = true) (room : l.length < Config.txCapacity) (single : f.isBeat = true → l.any TxFrame.isBeat = false) :
    TxOk (insertFrame f l) (n + 1) := by
  refine ⟨by simpa using room, ?_, ?_, fun g hg => ?_, ?_⟩
  · exact pairwise_insertBy h.kinds (fun _ _ => Nat.le_trans) (fun g _ behind => Nat.le_of_lt (by simpa using behind))
      fun g _ ahead => by simpa using ahead
  · rw [length_filter_insertFrame]
    split
    · next beat =>
      have none : l.filter TxFrame.isBeat = [] := by
        simpa using single beat
      simp [none]
    · exact h.single
  · rcases mem_insertFrame.mp hg with rfl | hg
    · exact ⟨attempts ▸ by decide, tag ▸ Nat.lt_succ_self _, fits⟩
    · obtain ⟨low, below, fits⟩ := h.fits g hg
      exact ⟨low, below.trans (Nat.lt_succ_self _), fits⟩
  · rw [((perm_insertFrame f l).map _).nodup_iff, List.map_cons, List.nodup_cons]
    refine ⟨fun mem => ?_, h.numbers⟩
    obtain ⟨g, hg, same⟩ := List.mem_map.mp mem
    exact absurd (h.fits g hg).2.1 (by simp [same, tag])

theorem TxFrame.not_beat_of_object {f : TxFrame} (object : f.body.isObject = true) : f.isBeat = false := by
  unfold TxBody.isObject at object
  unfold TxFrame.isBeat
  cases body : f.body <;> simp_all [TxBody.kind]

/-- An offer keeps a list in order. -/
theorem TxOk.offered {f : TxFrame} {k k' : Line} (h : TxOk k.txList k.nextTag) (offer : Offered f k k')
    (tag : f.tag = k.nextTag) (attempts : f.attempts = 0) (fits : f.refFits = true) : TxOk k'.txList k'.nextTag := by
  cases offer with
  | left list next => rwa [list, next]
  | entered room single list next =>
    rw [list, next]
    exact h.insertFrame tag attempts fits room single
  | @displaced g object mem beat list next =>
    rw [list, next]
    refine (h.filter _).insertFrame tag attempts fits ?_ fun beat => ?_
    · refine Nat.lt_of_lt_of_le ?_ h.capacity
      exact List.length_filter_lt_length_iff_exists.mpr ⟨g, mem, by simp⟩
    · simp [TxFrame.not_beat_of_object object] at beat

end

theorem TxListOk.offerFrame {s : State} (h : TxListOk s) {b : TxBody} {owner : Owner} {ref : OwnerRef}
    (fits : (offeredFrame b owner ref s.line).refFits = true) : TxListOk (offerFrame b owner ref s) :=
  txListOk_iff.mpr ((txListOk_iff.mp h).offered (offered_offerFrame b owner ref s) rfl rfl fits)

/-! ### Order of arrival (R27) -/

/-- f stands ahead of g by its kind, and by its arrival where they are of one kind. -/
def TxFrame.Ahead (f g : TxFrame) : Prop :=
  f.body.kind.code ≤ g.body.kind.code ∧ (f.body.kind.code = g.body.kind.code → f.tag < g.tag)

/-- The list l stands in order of kind and arrival, with at most one RECALL. -/
structure TxArrived (l : List TxFrame) : Prop where
  single : (l.filter TxFrame.isRecall).length ≤ 1
  ahead : l.Pairwise TxFrame.Ahead

theorem txArrived_iff {s : State} (ok : TxListOk s) : TxArrivalOk s ↔ TxArrived s.line.txList := by
  have kinds := (txListOk_iff.mp ok).kinds
  constructor
  · rintro ⟨single, arrival⟩
    exact ⟨single, kinds.and arrival⟩
  · rintro ⟨single, ahead⟩
    exact ⟨single, ahead.imp And.right⟩

section

variable {l : List TxFrame}

theorem TxArrived.filter (h : TxArrived l) (p : TxFrame → Bool) : TxArrived (l.filter p) :=
  ⟨(List.filter_sublist.filter _).length_le.trans h.single, h.ahead.sublist List.filter_sublist⟩

theorem TxArrived.map (h : TxArrived l) {c : TxFrame → TxFrame} (body : ∀ f, (c f).body = f.body)
    (tag : ∀ f, (c f).tag = f.tag) : TxArrived (l.map c) := by
  have isRecall (f : TxFrame) : (c f).isRecall = f.isRecall := by simp [TxFrame.isRecall, body]
  refine ⟨?_, ?_⟩
  · rw [List.filter_map, List.length_map]
    simpa [Function.comp_def, isRecall] using h.single
  · rw [List.pairwise_map]
    exact h.ahead.imp fun {f g} le => by rwa [TxFrame.Ahead, body, body, tag, tag]

theorem TxArrived.insertFrame (h : TxArrived l) {f : TxFrame} (last : ∀ g ∈ l, g.tag < f.tag)
    (single : f.isRecall = true → l.any TxFrame.isRecall = false) : TxArrived (insertFrame f l) := by
  refine ⟨?_, pairwise_insertBy h.ahead (fun g k fg gk => ⟨fg.1.trans gk.1, fun same => ?_⟩)
    (fun g _ behind => ?_) fun g hg ahead => ⟨by simpa using ahead, fun _ => last g hg⟩⟩
  · rw [length_filter_insertFrame]
    split
    · next recalls =>
      have none : l.filter TxFrame.isRecall = [] := by simpa using single recalls
      simp [none]
    · exact h.single
  · have first : f.body.kind.code = g.body.kind.code := Nat.le_antisymm fg.1 (same ▸ gk.1)
    exact (fg.2 first).trans (gk.2 (first.symm.trans same))
  · have lt : f.body.kind.code < g.body.kind.code := by simpa using behind
    exact ⟨lt.le, fun same => absurd same lt.ne⟩

theorem TxArrived.offered {f : TxFrame} {k k' : Line} (h : TxArrived k.txList) (ok : TxOk k.txList k.nextTag)
    (offer : Offered f k k') (tag : f.tag = k.nextTag)
    (single : f.isRecall = true → k.txList.any TxFrame.isRecall = false) : TxArrived k'.txList := by
  have last : ∀ g ∈ k.txList, g.tag < f.tag := fun g hg => tag ▸ (ok.fits g hg).2.1
  cases offer with
  | left list next => rwa [list]
  | entered room _ list next =>
    rw [list]
    exact h.insertFrame last single
  | displaced object mem beat list next =>
    rw [list]
    refine (h.filter _).insertFrame (fun g hg => last g (List.mem_filter.mp hg).1) fun recalls => ?_
    rw [List.any_eq_false]
    exact fun g hg => List.any_eq_false.mp (single recalls) g (List.mem_filter.mp hg).1

end

/-! ### Tickets (R109, R112) -/

theorem TicketsAgree.congr {s t : State} (h : TicketsAgree s) (tickets : t.naming.tickets = s.naming.tickets)
    (list : t.line.txList = s.line.txList) (tag : t.line.nextTag = s.line.nextTag) : TicketsAgree t := by
  rwa [TicketsAgree, tickets, list, tag]

/-- Frames and tickets that go leave the tickets in agreement. -/
theorem TicketsAgree.subset {s t : State} (h : TicketsAgree s) (tickets : ∀ k ∈ t.naming.tickets, k ∈ s.naming.tickets)
    (list : ∀ f ∈ t.line.txList, ∃ g ∈ s.line.txList, f.tag = g.tag ∧ f.ref = g.ref)
    (tag : t.line.nextTag = s.line.nextTag) : TicketsAgree t := by
  intro k hk
  obtain ⟨below, frames⟩ := h k (tickets k hk)
  refine ⟨tag ▸ below, fun f hf same => ?_⟩
  obtain ⟨g, hg, number, ref⟩ := list f hf
  rw [ref]
  exact frames g hg (number ▸ same)

/-- A frame of the list after an offer is the one offered or one that was there. -/
theorem Offered.mem {f g : TxFrame} {k k' : Line} (offer : Offered f k k') (hg : g ∈ k'.txList) : g = f ∨ g ∈ k.txList := by
  cases offer with
  | left list next => exact .inr (list ▸ hg)
  | entered room single list next => rwa [list, mem_insertFrame] at hg
  | displaced object mem beat list next =>
    rw [list, mem_insertFrame] at hg
    exact hg.imp id fun hg => (List.mem_filter.mp hg).1

theorem Offered.nextTag_le {f : TxFrame} {k k' : Line} (offer : Offered f k k') : k.nextTag ≤ k'.nextTag := by
  cases offer with
  | left list next => exact next.ge
  | entered room single list next => exact next ▸ Nat.le_succ _
  | displaced object mem beat list next => exact next ▸ Nat.le_succ _

/-- A frame that is offered stands for no ticket, for its number is new. -/
theorem TicketsAgree.offerFrame {s : State} (h : TicketsAgree s) (b : TxBody) (owner : Owner) (ref : OwnerRef) :
    TicketsAgree (offerFrame b owner ref s) := by
  have offer := offered_offerFrame b owner ref s
  intro k hk
  obtain ⟨below, frames⟩ := h k (by simpa using hk)
  refine ⟨Nat.lt_of_lt_of_le below offer.nextTag_le, fun f hf same => ?_⟩
  rcases offer.mem hf with rfl | hf
  · exact absurd below (by simp [← same, offeredFrame])
  · exact frames f hf same

end Sys2Proof.Machine

/-! What one event makes of the transmit list, a part at a time (02 sections 2.4 and 2.5). -/

namespace Sys2Proof.Machine

/-- A part of what an event makes of the transmit list of l. Where R holds, a RECALL comes to a list that has none. -/
inductive ListStep (R : Prop) (l : Line) : Line → Prop
  | thinned {k : Line} (sub : k.txList.Sublist l.txList) (next : k.nextTag = l.nextTag) : ListStep R l k
  | marked {k : Line} (c : TxFrame → TxFrame) (body : ∀ f, (c f).body = f.body) (tag : ∀ f, (c f).tag = f.tag)
      (ref : ∀ f, (c f).ref = f.ref) (attempts : ∀ f ∈ l.txList, (c f).attempts < Config.maxAttempts)
      (list : k.txList = l.txList.map c) (next : k.nextTag = l.nextTag) : ListStep R l k
  | offered {k : Line} (f : TxFrame) (tag : f.tag = l.nextTag) (attempts : f.attempts = 0) (fits : f.refFits = true)
      (single : R → f.isRecall = true → l.txList.any TxFrame.isRecall = false) (offer : Offered f l k) : ListStep R l k

/-- What an event makes of the transmit list. -/
def ListSteps (R : Prop) : Line → Line → Prop := Relation.ReflTransGen (ListStep R)

section

variable {R : Prop} {k l m : Line}

theorem ListStep.steps (h : ListStep R l k) : ListSteps R l k := .single h

theorem ListSteps.then (h : ListSteps R l k) (h' : ListStep R k m) : ListSteps R l m := .tail h h'

theorem ListSteps.append (h : ListSteps R l k) (h' : ListSteps R k m) : ListSteps R l m := .trans h h'

/-- The list and the next number stand. -/
theorem listStep_of_eq (list : k.txList = l.txList) (next : k.nextTag = l.nextTag) : ListStep R l k :=
  .thinned (list ▸ .refl _) next

theorem listSteps_of_eq (list : k.txList = l.txList) (next : k.nextTag = l.nextTag) : ListSteps R l k :=
  (listStep_of_eq list next).steps

/-- Of the line block only the list and the next number matter. -/
theorem ListStep.congr {k' l' : Line} (h : ListStep R l k) (list : l'.txList = l.txList) (next : l'.nextTag = l.nextTag)
    (list' : k'.txList = k.txList := by rfl) (next' : k'.nextTag = k.nextTag := by rfl) : ListSteps R l' k' :=
  ((listSteps_of_eq list.symm next.symm).then h).then (listStep_of_eq list' next')

theorem ListStep.txOk (h : ListStep R l k) (ok : TxOk l.txList l.nextTag) : TxOk k.txList k.nextTag := by
  cases h with
  | thinned sub next => rw [next]; exact ok.sublist sub
  | marked c body tag ref attempts list next => rw [list, next]; exact ok.map body tag ref attempts
  | offered f tag attempts fits single offer => exact ok.offered offer tag attempts fits

theorem ListSteps.txOk (h : ListSteps R l k) (ok : TxOk l.txList l.nextTag) : TxOk k.txList k.nextTag := by
  induction h with
  | refl => exact ok
  | tail _ step ih => exact step.txOk ih

theorem TxArrived.sublist {l l' : List TxFrame} (h : TxArrived l) (sub : l'.Sublist l) : TxArrived l' :=
  ⟨(sub.filter _).length_le.trans h.single, h.ahead.sublist sub⟩

/-- With the order of the list the order of arrival is kept, where a RECALL comes to a list that has none. -/
theorem ListSteps.txArrived (h : ListSteps True l k) (ok : TxOk l.txList l.nextTag) (arrived : TxArrived l.txList) :
    TxArrived k.txList := by
  induction h with
  | refl => exact arrived
  | tail steps step ih =>
    cases step with
    | thinned sub next => exact ih.sublist sub
    | marked c body tag ref attempts list next => rw [list]; exact ih.map body tag
    | offered f tag attempts fits single offer =>
      exact ih.offered (ListSteps.txOk steps ok) offer tag (single trivial)

end

/-! ### Parts of the events -/

section

variable {R : Prop} {s t : State}

theorem listStep_withdraw (p : TxFrame → Bool) (s : State) : ListStep R s.line (withdraw p s).line :=
  .thinned List.filter_sublist rfl

theorem listStep_offerFrame {b : TxBody} (owner : Owner) {ref : OwnerRef} (s : State)
    (fits : (offeredFrame b owner ref s.line).refFits = true)
    (single : R → b = .recall → s.line.txList.any TxFrame.isRecall = false) :
    ListStep R s.line (offerFrame b owner ref s).line :=
  .offered (offeredFrame b owner ref s.line) rfl rfl fits
    (fun r recalls => single r (by simpa [TxFrame.isRecall, offeredFrame] using recalls)) (offered_offerFrame b owner ref s)

theorem offerObjection_line (x : Identity) (n : Name) (reason : Reason) (counter : Name) (s : State) :
    (offerObjection x n reason counter s).line =
      (offerFrame (.object x n reason counter) .naming (.claimObjection x (s.after s.cfg.window)) s).line := by
  unfold offerObjection
  dsimp only
  split <;> rfl

theorem Move.lists {A H : Prop} (m : Move A H s t) : ListSteps R s.line t.line := by
  cases m with
  | offered b owner ref fits other =>
    exact (listStep_offerFrame owner s (fits _) fun _ same => absurd same other).steps
  | objected x n reason counter =>
    rw [offerObjection_line]
    exact (listStep_offerFrame .naming s (by simp [offeredFrame, TxFrame.refFits]) nofun).steps
  | withdrawn x d conflict => exact (listStep_withdraw (TxFrame.yieldsTo x d conflict) s).congr rfl rfl
  | asked l kept => exact listSteps_of_eq rfl rfl
  | foreign => exact listSteps_of_eq rfl rfl
  | accepted x n present heard fresh range room =>
    rw [acceptClaim_eq]
    exact listSteps_of_eq (by simp) (by simp)
  | named x n seeks fresh range =>
    rw [nameEntry_eq]
    exact listSteps_of_eq (by simp) (by simp)
  | _ => exact listSteps_of_eq (by simp) (by simp)

theorem Moves.lists {A H : Prop} (h : Moves A H s t) : ListSteps R s.line t.line := by
  induction h with
  | refl => exact .refl
  | tail _ m ih => exact ih.append m.lists

theorem beginAttempt_of_cons {f : TxFrame} {rest : List TxFrame} (h : s.line.txList = f :: rest) :
    (beginAttempt s).line.txList = { f with started := true } :: rest := by
  simp [beginAttempt, h]

theorem beginAttempt_of_nil (h : s.line.txList = []) : beginAttempt s = s := by
  simp [beginAttempt, h]

/-- The frames of a list other than the first have other numbers. -/
theorem TxOk.tag_ne_of_cons {f : TxFrame} {rest : List TxFrame} {n : Nat} (h : TxOk (f :: rest) n) :
    ∀ g ∈ rest, g.tag ≠ f.tag := by
  have numbers := h.numbers
  rw [List.map_cons, List.nodup_cons] at numbers
  exact fun g hg same => numbers.1 (List.mem_map.mpr ⟨g, hg, same⟩)

/-- The frame f with its started mark set, where its number is t (R26). -/
def TxFrame.begun (t : Nat) (f : TxFrame) : TxFrame := { f with started := f.started || f.tag == t }

theorem listStep_beginAttempt (ok : TxListOk s) : ListStep R s.line (beginAttempt s).line := by
  have fits := (txListOk_iff.mp ok).fits
  cases list : s.line.txList with
  | nil => rw [beginAttempt_of_nil list]; exact listStep_of_eq rfl rfl
  | cons f rest =>
    refine .marked (TxFrame.begun f.tag) (fun _ => rfl) (fun _ => rfl) (fun _ => rfl) (fun g hg => (fits g hg).1) ?_ (by simp)
    rw [beginAttempt_of_cons list, list, List.map_cons]
    congr 1
    · simp [TxFrame.begun]
    · have others := (list ▸ txListOk_iff.mp ok).tag_ne_of_cons
      symm
      calc rest.map (TxFrame.begun f.tag)
        _ = rest.map id := List.map_congr_left fun g hg => by simp [TxFrame.begun, beq_false_of_ne (others g hg)]
        _ = rest := List.map_id rest

theorem Line.frame_eq_some {l : Line} {t : Nat} {f : TxFrame} (h : l.frame t = some f) : f ∈ l.txList ∧ f.tag = t :=
  ⟨List.mem_of_find?_eq_some h, by simpa using List.find?_some h⟩

@[simp] theorem dropReport_list (f : TxFrame) (s : State) : (dropReport f s).line = s.line := by
  unfold dropReport
  split
  · rfl
  · rfl
  · rfl
  · simp
  · split <;> simp

theorem listStep_countAttempt (ok : TxListOk s) (i : InFlight) : ListStep R s.line (countAttempt i s).line := by
  have ok := txListOk_iff.mp ok
  unfold countAttempt
  split
  · exact listStep_of_eq rfl rfl
  · next f found =>
    obtain ⟨hf, tag⟩ := Line.frame_eq_some found
    split
    · next low =>
      refine .marked (fun g => if g.tag == i.tag then { g with attempts := g.attempts + 1 } else g) (fun g => ?_) (fun g => ?_)
        (fun g => ?_) (fun g hg => ?_) rfl rfl
      · split <;> rfl
      · split <;> rfl
      · split <;> rfl
      · split
        · next same =>
          have : g = f := ok.eq_of_tag hg hf ((by simpa using same : g.tag = i.tag).trans tag.symm)
          exact this ▸ low
        · exact (ok.fits g hg).1
    · rw [dropReport_list]
      exact .thinned (l := s.line) (by simp [withdraw]) (by simp)

theorem listStep_enterFault (s : State) : ListStep R s.line (enterFault s).line := by
  rw [enterFault_line]
  refine .thinned ?_ rfl
  dsimp only
  split
  · exact List.filter_sublist
  · exact .refl _

theorem listStep_checkFault (s : State) : ListStep R s.line (checkFault s).line := by
  unfold checkFault
  split
  · exact listStep_enterFault s
  · exact listStep_of_eq rfl rfl

theorem lists_failAttempt (ok : TxListOk s) (i : InFlight) (cause : BitErrorCause) :
    ListSteps R s.line (failAttempt i cause s).line := by
  rw [failAttempt_eq]
  have ended : ListSteps R s.line (endInError cause s).line := listSteps_of_eq rfl rfl
  exact (ended.then (listStep_countAttempt (s := endInError cause s) (ok.congr rfl rfl) i)).then (listStep_checkFault _)

theorem offerPingProbe_line (n : Name) (s : State) :
    (offerPingProbe n s).line = (offerFrame (.probe n) .order (.pingProbe n) s).line := by
  unfold offerPingProbe
  dsimp only
  split <;> simp

theorem listStep_offerPingProbe (n : Name) (s : State) : ListStep R s.line (offerPingProbe n s).line := by
  rw [offerPingProbe_line]
  exact listStep_offerFrame .order s (by simp [offeredFrame, TxFrame.refFits]) nofun

theorem lists_takeRecall (sender : Name) (s : State) : ListSteps R s.line (takeRecall sender s).line := by
  have emptied : ListStep R s.line (endRecalled s (emptyOwners sender s)).line :=
    .thinned (by simp) (by simp)
  rw [takeRecall_eq]
  dsimp only
  split
  · exact emptied.steps.then (listStep_offerPingProbe _ _)
  · exact emptied.steps

theorem lists_sentReport (f : TxFrame) (s : State) : ListSteps R s.line (sentReport f s).line := by
  unfold sentReport
  split
  · exact listSteps_of_eq (by simp) (by simp)
  · have ended : ListSteps R s.line (endRecallOrder none 0 s).line := listSteps_of_eq (by simp) (by simp)
    exact ended.append (lists_takeRecall 0 _)
  · exact .refl
  · exact listSteps_of_eq rfl rfl
  · split
    · split
      · exact listSteps_of_eq rfl rfl
      · exact .refl
    · exact listSteps_of_eq rfl rfl

theorem lists_completeAttempt (i : InFlight) (s : State) : ListSteps R s.line (completeAttempt i s).line := by
  have ended : ListSteps R s.line (endInSuccess s).line := listSteps_of_eq (by simp) (by simp)
  rw [completeAttempt_eq]
  split
  · exact ended
  · exact (ended.then (listStep_withdraw _ _)).append (lists_sentReport _ _)

theorem listStep_withdrawLate (k : Nat) (s : State) : ListStep R s.line (withdrawLate k s).line := by
  unfold withdrawLate
  split
  · exact .thinned (by simp [withdraw]) (by simp)
  · exact listStep_of_eq rfl rfl

theorem listStep_offerRecall (single : R → s.line.txList.any TxFrame.isRecall = false) :
    ListStep R s.line (offerRecall s).line := by
  have line : (offerRecall s).line = (offerFrame .recall .order .none s).line := by
    unfold offerRecall
    dsimp only
    split <;> simp
  rw [line]
  exact listStep_offerFrame .order s rfl fun r _ => single r

theorem listStep_recallOrder (single : R → s.line.txList.any TxFrame.isRecall = false) :
    ListStep R s.line (recallOrder s).line := by
  unfold recallOrder
  split
  · split
    · exact listStep_of_eq rfl rfl
    · exact listStep_offerRecall single
  · exact listStep_of_eq rfl rfl

theorem lists_pingOrder (s : State) : ListSteps R s.line (pingOrder s).line := by
  unfold pingOrder
  dsimp only
  split
  · split
    · next e _ =>
      exact (listStep_offerPingProbe _ (s.withOrder
        { s.order with pingIdentity := some e.identity, pingWindow := none })).congr rfl rfl
    · exact .refl
  · exact .refl

/-- An order that is not running has no RECALL in the list (R176). -/
theorem OrderAgrees.not_any_recall_of_idle (h : OrderAgrees s) (idle : s.order.state = .idle) :
    s.line.txList.any TxFrame.isRecall = false := by
  obtain ⟨_, recalls, _⟩ := h
  rw [← recalls]
  simp [State.recallRunning, idle]

theorem Work.lists {u : State} (w : Work s u) (ok : TxListOk s) (order : R → OrderAgrees s) : ListSteps R s.line u.line := by
  cases w with
  | released => exact listSteps_of_eq (by simp) (by simp)
  | emptied c off kind detail rests =>
    refine (ListStep.thinned ?_ ?_).steps
    · simp [emptyTool_line off]
    · simp [emptyTool_line off]
  | attemptBegins => exact (listStep_beginAttempt ok).steps
  | bitError i cause => exact lists_failAttempt ok i cause
  | sent i => exact lists_completeAttempt i s
  | receiveError rx =>
    exact (listStep_checkFault (s.withLine { s.line with
      errors := satAdd Config.maxErrors s.line.errors 1, rx := rx, recessive8 := false })).congr rfl rfl
  | stuckEnters rx =>
    exact (listStep_enterFault (s.withLine { s.line with stuck := true, rx := rx, recessive8 := false })).congr rfl rfl
  | runs start run =>
    have moves := (run Known.nothing).lists (R := R)
    rcases start with rfl | rfl
    · exact moves
    · exact (listSteps_of_eq (by simp) (by simp)).append moves
  | recalled sender =>
    have good : ListSteps R s.line (goodFrame s).line := listSteps_of_eq (by simp) (by simp)
    exact good.append (lists_takeRecall sender _)
  | objectionWindowEnds x => exact listSteps_of_eq rfl rfl
  | ticketExpires k ticket =>
    exact (listStep_withdrawLate k (s.withNaming { s.naming with
      tickets := s.naming.tickets.filter (fun t => t.tag != k) })).congr rfl rfl
  | pingWindowEnds => exact listSteps_of_eq (by simp) (by simp)
  | recallStarts idle opcode phase =>
    exact (listStep_recallOrder (s := beginOrder s) fun r => (order r).not_any_recall_of_idle idle).steps
  | pingStarts idle opcode phase => exact lists_pingOrder (beginOrder s)
  | forgets idle opcode phase => exact listSteps_of_eq (by simp) (by simp)
  | _ => exact listSteps_of_eq rfl rfl

theorem TxArrivalOk.congr {s t : State} (h : TxArrivalOk s) (list : t.line.txList = s.line.txList) : TxArrivalOk t := by
  rwa [TxArrivalOk, list]

theorem TxListOk.sameTool (h : TxListOk s) (same : SameTool s t) : TxListOk t := h.congr same.txList same.nextTag

theorem Work.txListOk {u : State} (w : Work s u) (ok : TxListOk s) : TxListOk u :=
  txListOk_iff.mpr ((w.lists (R := False) ok False.elim).txOk (txListOk_iff.mp ok))

theorem Work.txArrivalOk {u : State} (w : Work s u) (ok : TxListOk s) (order : OrderAgrees s) (arrival : TxArrivalOk s) :
    TxArrivalOk u :=
  (txArrived_iff (w.txListOk ok)).mpr
    ((w.lists ok fun _ => order).txArrived (txListOk_iff.mp ok) ((txArrived_iff ok).mp arrival))

end

end Sys2Proof.Machine

/-! Settles O10: the transmit list and the objection tickets. -/

namespace Sys2Proof.Machine

/-- Tickets k stand for OBJECTs of the list of l against claims of their claimants (R109, R112). -/
def TicketsFit (tickets : List Ticket) (l : Line) : Prop :=
  ∀ k ∈ tickets, k.tag < l.nextTag ∧ ∀ f ∈ l.txList, f.tag = k.tag → ∃ windowEnd, f.ref = .claimObjection k.claimant windowEnd

theorem ticketsAgree_iff {s : State} : TicketsAgree s ↔ TicketsFit s.naming.tickets s.line := .rfl

theorem TicketsFit.step {R : Prop} {tickets : List Ticket} {l k : Line} (h : TicketsFit tickets l) (step : ListStep R l k) :
    TicketsFit tickets k := by
  intro t ht
  obtain ⟨below, frames⟩ := h t ht
  cases step with
  | thinned sub next => exact ⟨next ▸ below, fun f hf => frames f (sub.subset hf)⟩
  | marked c body tag ref attempts list next =>
    refine ⟨next ▸ below, fun f hf same => ?_⟩
    obtain ⟨g, hg, rfl⟩ := List.mem_map.mp (list ▸ hf)
    rw [ref]
    exact frames g hg (tag g ▸ same)
  | offered f tag attempts fits single offer =>
    refine ⟨below.trans_le offer.nextTag_le, fun g hg same => ?_⟩
    rcases offer.mem hg with rfl | hg
    · exact absurd below (by simp [← same, tag])
    · exact frames g hg same

theorem TicketsFit.steps {R : Prop} {tickets : List Ticket} {l k : Line} (h : TicketsFit tickets l)
    (steps : ListSteps R l k) : TicketsFit tickets k := by
  induction steps with
  | refl => exact h
  | tail _ step ih => exact ih.step step

/-- Tickets that go, or whose deadline moves, leave the rest in agreement. -/
theorem TicketsAgree.steps {s t : State} (h : TicketsAgree s) (steps : ListSteps False s.line t.line)
    (tickets : ∀ k ∈ t.naming.tickets, ∃ k' ∈ s.naming.tickets, k'.tag = k.tag ∧ k'.claimant = k.claimant) :
    TicketsAgree t := by
  intro k hk
  obtain ⟨k', hk', tag, claimant⟩ := tickets k hk
  rw [← tag, ← claimant]
  exact (ticketsAgree_iff.mp h).steps steps k' hk'

theorem TicketsAgree.steps_of_eq {s t : State} (h : TicketsAgree s) (steps : ListSteps False s.line t.line)
    (tickets : t.naming.tickets = s.naming.tickets) : TicketsAgree t :=
  h.steps steps fun k hk => ⟨k, tickets ▸ hk, rfl, rfl⟩

theorem TicketsAgree.steps_of_filter {s t : State} (h : TicketsAgree s) (steps : ListSteps False s.line t.line)
    {p : Ticket → Bool} (tickets : t.naming.tickets = s.naming.tickets.filter p) : TicketsAgree t :=
  h.steps steps fun k hk => ⟨k, (List.mem_filter.mp (tickets ▸ hk)).1, rfl, rfl⟩

/-- The OBJECT that a ticket is made for has a number of its own (R112). -/
theorem TicketsAgree.offerObjection {s : State} (h : TicketsAgree s) (ok : TxListOk s) (x : Identity) (n : Name)
    (reason : Reason) (counter : Name) : TicketsAgree (offerObjection x n reason counter s) := by
  have offered : TicketsAgree (Machine.offerFrame (.object x n reason counter) .naming (.claimObjection x (s.after s.cfg.window)) s) :=
    h.offerFrame _ _ _
  unfold Machine.offerObjection
  dsimp only
  split
  · next entered =>
    intro k hk
    rcases List.mem_append.mp hk with old | new
    · exact offered k old
    · obtain rfl := List.mem_singleton.mp new
      have offer := offered_offerFrame (.object x n reason counter) .naming (.claimObjection x (s.after s.cfg.window)) s
      refine ⟨?_, fun f hf same => ?_⟩
      · cases outcome : offerOutcome (.object x n reason counter) s with
        | inserted => simp [offerFrame_inserted outcome]
        | displaces t => simp [offerFrame_displaces outcome]
        | refused => simp [outcome, Offer.entered] at entered
        | dropped => simp [outcome, Offer.entered] at entered
      · rcases offer.mem hf with rfl | hf
        · exact ⟨_, rfl⟩
        · exact absurd same ((txListOk_iff.mp ok).fits f hf).2.1.ne
  · exact offered

theorem Move.ticketsAgree {A H : Prop} {s t : State} (m : Move A H s t) (ok : TxListOk s) (h : TicketsAgree s) :
    TicketsAgree t := by
  have steps : ListSteps False s.line t.line := m.lists
  cases m with
  | objected x n reason counter => exact h.offerObjection ok x n reason counter
  | withdrawn x d conflict => exact h.steps_of_filter steps rfl
  | accepted x n present heard fresh range room =>
    rw [acceptClaim_eq] at steps ⊢
    exact h.steps_of_eq steps rfl
  | named x n seeks fresh range =>
    rw [nameEntry_eq] at steps ⊢
    exact h.steps_of_eq steps (by simp)
  | asked l kept => exact h.steps_of_eq steps rfl
  | _ => exact h.steps_of_eq steps (by simp)

theorem Move.txListOk {A H : Prop} {s t : State} (m : Move A H s t) (ok : TxListOk s) : TxListOk t :=
  txListOk_iff.mpr ((m.lists (R := False)).txOk (txListOk_iff.mp ok))

theorem Moves.txListOk {A H : Prop} {s t : State} (run : Moves A H s t) (ok : TxListOk s) : TxListOk t :=
  run.keeps (fun m => m.txListOk) ok

theorem Moves.ticketsAgree {A H : Prop} {s t : State} (run : Moves A H s t) (ok : TxListOk s) (h : TicketsAgree s) :
    TicketsAgree t :=
  (run.keeps (P := fun s => TxListOk s ∧ TicketsAgree s) (fun m ⟨ok, h⟩ => ⟨m.txListOk ok, m.ticketsAgree ok h⟩)
    ⟨ok, h⟩).2

theorem dropReport_tickets (f : TxFrame) (s : State) :
    ∃ p, (dropReport f s).naming.tickets = s.naming.tickets.filter p := by
  have kept {t : State} (same : t.naming.tickets = s.naming.tickets) : ∃ p, t.naming.tickets = s.naming.tickets.filter p :=
    ⟨fun _ => true, by simpa using same⟩
  unfold dropReport
  split
  · exact ⟨_, rfl⟩
  · exact kept rfl
  · exact kept rfl
  · exact kept (by simp)
  · split <;> exact kept (by simp)

theorem failAttempt_tickets (i : InFlight) (cause : BitErrorCause) (s : State) :
    ∃ p, (failAttempt i cause s).naming.tickets = s.naming.tickets.filter p := by
  have kept : ∃ p, s.naming.tickets = s.naming.tickets.filter p := ⟨fun _ => true, by simp⟩
  have fault (t : State) : (checkFault t).naming = t.naming := by simp
  rw [failAttempt_eq, fault]
  unfold countAttempt
  split
  · exact kept
  · split
    · exact kept
    · exact dropReport_tickets _ _

theorem sentReport_tickets (f : TxFrame) (s : State) :
    (sentReport f s).naming.tickets = [] ∨ (sentReport f s).naming.tickets = s.naming.tickets := by
  unfold sentReport
  split
  · exact .inr (by simp)
  · exact .inl (by simp [takeRecall_values])
  · exact .inr rfl
  · exact .inr rfl
  · split
    · split <;> exact .inr rfl
    · exact .inr rfl

theorem completeAttempt_tickets (i : InFlight) (s : State) :
    (completeAttempt i s).naming.tickets = [] ∨ (completeAttempt i s).naming.tickets = s.naming.tickets := by
  rw [completeAttempt_eq]
  split
  · exact .inr (by simp)
  · simpa [withdraw] using sentReport_tickets _ (withdraw (fun g => g.tag == i.tag) (endInSuccess s))

theorem TicketsAgree.steps_of_empty {s t : State} (h : TicketsAgree s) (steps : ListSteps False s.line t.line)
    (tickets : t.naming.tickets = [] ∨ t.naming.tickets = s.naming.tickets) : TicketsAgree t := by
  rcases tickets with none | same
  · intro k hk
    simp [none] at hk
  · exact h.steps_of_eq steps same

theorem releaseFreeze_tickets (s : State) : ∀ k ∈ (releaseFreeze s).naming.tickets,
    ∃ k' ∈ s.naming.tickets, k'.tag = k.tag ∧ k'.claimant = k.claimant := by
  intro k hk
  by_cases frozen : s.time.frozen = true
  · obtain ⟨_, _, naming, _⟩ := movedBy_releaseFreeze frozen
    rw [naming] at hk
    obtain ⟨k', hk', rfl⟩ := List.mem_map.mp hk
    exact ⟨k', hk', rfl, rfl⟩
  · rw [releaseFreeze_of_not_frozen (by simpa using frozen)] at hk
    exact ⟨k, hk, rfl, rfl⟩

theorem Work.ticketsAgree {s u : State} (w : Work s u) (ok : TxListOk s) (h : TicketsAgree s) : TicketsAgree u := by
  have steps : ListSteps False s.line u.line := w.lists ok False.elim
  cases w with
  | released => exact h.steps steps (releaseFreeze_tickets s)
  | emptied c off kind detail rests => exact h.steps_of_empty steps (.inl (by simp))
  | bitError i cause =>
    obtain ⟨p, tickets⟩ := failAttempt_tickets i cause s
    exact h.steps_of_filter steps tickets
  | sent i => exact h.steps_of_empty steps (completeAttempt_tickets i s)
  | runs start run =>
    have moves := run Known.nothing
    rcases start with rfl | rfl
    · exact moves.ticketsAgree ok h
    · exact moves.ticketsAgree (ok.congr (by simp) (by simp)) (h.congr (by simp) (by simp) (by simp))
  | recalled sender => exact h.steps_of_empty steps (.inl (by simp [takeRecall_values]))
  | ticketExpires k ticket => exact h.steps_of_filter steps (by simp; rfl)
  | _ => exact h.steps_of_eq steps (by simp)

theorem TicketsAgree.sameTool {s t : State} (h : TicketsAgree s) (same : SameTool s t) : TicketsAgree t :=
  h.congr (by rw [same.naming]) same.txList same.nextTag

/-- An invariant P of the tool's records that holds at reset and that every work keeps is kept by every step; Q adds
premises. -/
theorem invariant_of_works {Q P : State → Prop} (blocks : ∀ s t, SameBlocks s t → Q s → Q t) (now : ∀ s, Q s → P s)
    (reset : ∀ s, IsReset s → P s) (same : ∀ s t, SameTool s t → P s → P t) (work : ∀ s u, Q s → Work s u → P u)
    {s t : State} (hs : Q s) (h : step s = .next t) : P t :=
  invariant_of_effects blocks now reset (fun s t hs act =>
    let ⟨u, w, agree⟩ := act.works
    same u t agree (work s u hs w)) hs h

/-- Settles O10: the list is changed a part at a time, and its order is that of the numbers of its frames. -/
theorem transmitListStaysOrdered : Obligations.TransmitListStaysOrdered := by
  refine ⟨fun s t ok h => ?_, fun s t ok order arrival h => ?_, fun s t ok tickets h => ?_⟩
  · exact invariant_of_works (fun _ _ same hs => same ▸ hs) (fun _ => id) (fun _ => IsReset.txListOk)
      (fun _ _ same ok => ok.sameTool same) (fun _ _ ok w => w.txListOk ok) ok h
  · exact invariant_of_works (Q := fun s => TxListOk s ∧ OrderAgrees s ∧ TxArrivalOk s) (fun _ _ same hs => same ▸ hs)
      (fun _ hs => hs.2.2) (fun _ => IsReset.txArrivalOk) (fun _ _ same h => h.congr same.txList)
      (fun _ _ hs w => w.txArrivalOk hs.1 hs.2.1 hs.2.2) ⟨ok, order, arrival⟩ h
  · exact invariant_of_works (Q := fun s => TxListOk s ∧ TicketsAgree s) (fun _ _ same hs => same ▸ hs)
      (fun _ hs => hs.2) (fun _ => IsReset.ticketsAgree) (fun _ _ same h => h.sameTool same)
      (fun _ _ hs w => w.ticketsAgree hs.1 hs.2) ⟨ok, tickets⟩ h

end Sys2Proof.Machine

/-! Settles O17: the running order and what it awaits (10 section 10.4). -/

namespace Sys2Proof.Machine

/-- OrderAgrees, but that a running PING has its PROBE in the list or its window armed (R172, R176). -/
structure OrderStands (s : State) : Prop where
  phase : s.order.state = .running → s.order.phase = .run ∧ (s.recallRunning = true ∨ s.pingRunning = true)
  recalls : s.recallRunning = s.line.txList.any TxFrame.isRecall
  rests : s.pingRunning = false → s.order.pingWindow = none ∧ s.order.pingIdentity = none
  setup : s.order.phase = .run → s.order.setup.isSome = true

/-- A running PING has its PROBE in the list or its window armed (R177). -/
def PingAwaits (s : State) : Prop :=
  s.pingRunning = true → s.order.pingWindow.isSome = true ∨ s.line.txList.any TxFrame.isPingProbe = true

theorem orderAgrees_iff {s : State} : OrderAgrees s ↔ OrderStands s ∧ PingAwaits s :=
  ⟨fun ⟨phase, recalls, awaits, rests, setup⟩ => ⟨⟨phase, recalls, rests, setup⟩, awaits⟩,
    fun ⟨⟨phase, recalls, rests, setup⟩, awaits⟩ => ⟨phase, recalls, awaits, rests, setup⟩⟩

section

variable {s t : State}

theorem OrderStands.congr (h : OrderStands s) (order : t.order = s.order)
    (recalls : t.line.txList.any TxFrame.isRecall = s.line.txList.any TxFrame.isRecall) : OrderStands t :=
  ⟨by simpa [State.recallRunning, State.pingRunning, order] using h.phase, by simpa [State.recallRunning, order, recalls] using h.recalls,
    by simpa [State.pingRunning, order] using h.rests, order ▸ h.setup⟩

theorem OrderAgrees.congr (h : OrderAgrees s) (order : t.order = s.order)
    (recalls : t.line.txList.any TxFrame.isRecall = s.line.txList.any TxFrame.isRecall)
    (probes : t.line.txList.any TxFrame.isPingProbe = s.line.txList.any TxFrame.isPingProbe) : OrderAgrees t := by
  obtain ⟨stands, awaits⟩ := orderAgrees_iff.mp h
  refine orderAgrees_iff.mpr ⟨stands.congr order recalls, ?_⟩
  simpa [PingAwaits, State.pingRunning, order, probes] using awaits

theorem OrderAgrees.of_list (h : OrderAgrees s) (order : t.order = s.order) (list : t.line.txList = s.line.txList) :
    OrderAgrees t := h.congr order (by rw [list]) (by rw [list])

theorem OrderAgrees.sameTool (h : OrderAgrees s) (same : SameTool s t) : OrderAgrees t :=
  h.of_list same.order same.txList

theorem State.not_recallRunning_of_rest (h : s.order.state ≠ .running) : s.recallRunning = false := by
  simp [State.recallRunning, h]

theorem State.not_pingRunning_of_rest (h : s.order.state ≠ .running) : s.pingRunning = false := by
  simp [State.pingRunning, h]

theorem State.not_pingRunning_of_recallRunning (h : s.recallRunning = true) : s.pingRunning = false := by
  simp only [State.recallRunning, Bool.and_eq_true, beq_iff_eq] at h
  simp [State.pingRunning, h.2, recallOpcode, pingOpcode]

/-- An order that rests awaits nothing. -/
theorem orderAgrees_of_rests (rests : OrderRests s.order t.order) (setup : s.order.phase = .run → s.order.setup.isSome = true)
    (list : t.line.txList.any TxFrame.isRecall = false) : OrderAgrees t := by
  refine orderAgrees_iff.mpr ⟨⟨fun running => absurd running rests.state, ?_, fun _ => ⟨rests.pingWindow, rests.pingIdentity⟩,
    fun run => ?_⟩, fun running => ?_⟩
  · rw [State.not_recallRunning_of_rest rests.state, list]
  · rcases rests.setup run with ⟨phase, same⟩ | some
    · exact same ▸ setup phase
    · exact some
  · simp [State.not_pingRunning_of_rest rests.state] at running

/-! ### Frames that are no RECALL and no PROBE of a PING -/

/-- A frame that fits its reference is no RECALL where the reference is one. -/
theorem TxFrame.isRecall_of_refFits {f : TxFrame} (fits : f.refFits = true) (ref : f.ref ≠ .none) : f.isRecall = false := by
  unfold TxFrame.refFits at fits
  unfold TxFrame.isRecall
  by_cases body : f.body = .recall
  · cases ref' : f.ref <;> simp_all
  · exact beq_false_of_ne body

theorem TxFrame.isPingProbe_of_body {f : TxFrame} (fits : f.refFits = true) (body : ∀ n, f.body ≠ .probe n) :
    f.isPingProbe = false := by
  unfold TxFrame.refFits at fits
  unfold TxFrame.isPingProbe
  cases ref : f.ref with
  | pingProbe m =>
    cases frame : f.body with
    | probe n => exact absurd frame (body n)
    | _ => simp [frame, ref] at fits
  | _ => rfl

theorem TxFrame.not_recall_of_beat {f : TxFrame} (beat : f.isBeat = true) : f.isRecall = false := by
  simp only [TxFrame.isBeat, beq_iff_eq] at beat
  simp [TxFrame.isRecall, beat]

theorem TxFrame.not_pingProbe_of_beat {f : TxFrame} (fits : f.refFits = true) (beat : f.isBeat = true) :
    f.isPingProbe = false :=
  TxFrame.isPingProbe_of_body fits (by
    simp only [TxFrame.isBeat, beq_iff_eq] at beat
    simp [beat])

/-- Frames that fail a test leave a list without a difference to it. -/
theorem any_filter_of_failing {l : List TxFrame} {p q : TxFrame → Bool} (h : ∀ f ∈ l, q f = false → p f = false) :
    (l.filter q).any p = l.any p := by
  rw [Bool.eq_iff_iff, List.any_eq_true, List.any_eq_true]
  constructor
  · rintro ⟨f, hf, pf⟩
    exact ⟨f, (List.mem_filter.mp hf).1, pf⟩
  · rintro ⟨f, hf, pf⟩
    refine ⟨f, List.mem_filter.mpr ⟨hf, ?_⟩, pf⟩
    by_contra out
    simp [h f hf (by simpa using out)] at pf

/-- What an offer makes of a test of the frames that no BEAT meets: the frame may have come to it. -/
theorem Offered.any {f : TxFrame} {k l : Line} (offer : Offered f l k) (ok : TxOk l.txList l.nextTag) {p : TxFrame → Bool}
    (beats : ∀ g ∈ l.txList, g.isBeat = true → p g = false) :
    k.txList.any p = l.txList.any p ∨ k.txList.any p = (p f || l.txList.any p) := by
  cases offer with
  | left list next => exact .inl (by rw [list])
  | entered room single list next => exact .inr (by rw [list, any_insertFrame])
  | displaced object mem beat list next =>
    refine .inr ?_
    rw [list, any_insertFrame, any_filter_of_failing]
    intro h hh same
    have own := ok.eq_of_tag hh mem (by simpa using same)
    exact beats h hh (own ▸ beat)

theorem TxListOk.refFits (ok : TxListOk s) {f : TxFrame} (hf : f ∈ s.line.txList) : f.refFits = true :=
  ((txListOk_iff.mp ok).fits f hf).2.2

theorem TxListOk.pingProbe_fails (ok : TxListOk s) : ∀ g ∈ s.line.txList, g.isBeat = true → g.isPingProbe = false :=
  fun _ hg => TxFrame.not_pingProbe_of_beat (ok.refFits hg)

/-- A frame that does not meet a test is offered. -/
theorem any_offerFrame (ok : TxListOk s) {p : TxFrame → Bool} (beats : ∀ g ∈ s.line.txList, g.isBeat = true → p g = false)
    {b : TxBody} {owner : Owner} {ref : OwnerRef} (fails : p (offeredFrame b owner ref s.line) = false) :
    (offerFrame b owner ref s).line.txList.any p = s.line.txList.any p := by
  rcases (offered_offerFrame b owner ref s).any (txListOk_iff.mp ok) beats with same | came
  · exact same
  · rw [came, fails, Bool.false_or]

theorem any_recall_offerFrame (ok : TxListOk s) {b : TxBody} (owner : Owner) (ref : OwnerRef) (other : b ≠ .recall) :
    (offerFrame b owner ref s).line.txList.any TxFrame.isRecall = s.line.txList.any TxFrame.isRecall :=
  any_offerFrame ok (fun _ _ => TxFrame.not_recall_of_beat) (by simp [TxFrame.isRecall, offeredFrame, other])

/-- The PROBE of a PING that is in the list stays there at an offer. -/
theorem any_pingProbe_offerFrame (ok : TxListOk s) (b : TxBody) (owner : Owner) (ref : OwnerRef)
    (h : s.line.txList.any TxFrame.isPingProbe = true) :
    (offerFrame b owner ref s).line.txList.any TxFrame.isPingProbe = true := by
  rcases (offered_offerFrame b owner ref s).any (txListOk_iff.mp ok) ok.pingProbe_fails with same | came
  · rw [same, h]
  · rw [came, h, Bool.or_true]

theorem OrderStands.offerFrame (h : OrderStands s) (ok : TxListOk s) {b : TxBody} (owner : Owner) (ref : OwnerRef)
    (other : b ≠ .recall) : OrderStands (offerFrame b owner ref s) :=
  h.congr (by simp) (any_recall_offerFrame ok owner ref other)

theorem OrderAgrees.offerFrame (h : OrderAgrees s) (ok : TxListOk s) {b : TxBody} (owner : Owner) (ref : OwnerRef)
    (other : b ≠ .recall) : OrderAgrees (offerFrame b owner ref s) := by
  obtain ⟨stands, awaits⟩ := orderAgrees_iff.mp h
  refine orderAgrees_iff.mpr ⟨stands.offerFrame ok owner ref other, fun running => ?_⟩
  rcases awaits (by simpa [State.pingRunning] using running) with window | probe
  · exact .inl (by simpa using window)
  · exact .inr (any_pingProbe_offerFrame ok b owner ref probe)

/-- Frames with a reference that stands for no PING leave the list. -/
theorem OrderAgrees.filter (h : OrderAgrees s) (order : t.order = s.order) {q : TxFrame → Bool}
    (list : t.line.txList = s.line.txList.filter q)
    (out : ∀ f ∈ s.line.txList, q f = false → f.isRecall = false ∧ f.isPingProbe = false) : OrderAgrees t := by
  refine h.congr order ?_ ?_
  · rw [list, any_filter_of_failing fun f hf no => (out f hf no).1]
  · rw [list, any_filter_of_failing fun f hf no => (out f hf no).2]

theorem TxFrame.yieldsTo_ref {x : Identity} {d : Name} {conflict : Bool} {f : TxFrame} (h : f.yieldsTo x d conflict = true) :
    f.ref ≠ .none ∧ f.isPingProbe = false := by
  unfold TxFrame.yieldsTo at h
  unfold TxFrame.isPingProbe
  cases ref : f.ref <;> simp_all

/-- An order that ends awaits nothing, where no RECALL is left in the list. -/
theorem OrderAgrees.endOrder (setup : s.order.phase = .run → s.order.setup.isSome = true)
    (list : s.line.txList.any TxFrame.isRecall = false) (error : Option OrderError) (detail : Nat) :
    OrderAgrees (endOrder error detail s) :=
  orderAgrees_of_rests (s := s) ⟨nofun, rfl, rfl, rfl, fun run => .inl ⟨run, rfl⟩⟩ setup list

theorem OrderStands.not_any_recall (h : OrderStands s) (running : s.pingRunning = true) :
    s.line.txList.any TxFrame.isRecall = false := by
  rw [← h.recalls]
  by_contra recallRunning
  simp [State.not_pingRunning_of_recallRunning (by simpa using recallRunning)] at running

/-- A running PING ends (R177). -/
theorem OrderStands.endPing (h : OrderStands s) (running : s.pingRunning = true) (error : Option OrderError) (detail : Nat) :
    OrderAgrees (endOrder error detail s) :=
  .endOrder h.setup (h.not_any_recall running) error detail

theorem OrderStands.endPingOrder (h : OrderStands s) (error : Option OrderError) (detail : Nat) :
    OrderAgrees (endPingOrder error detail s) := by
  unfold Machine.endPingOrder
  split
  · next running => exact h.endPing running error detail
  · next resting => exact orderAgrees_iff.mpr ⟨h, fun running => absurd running resting⟩

end

/-! ### Moves -/

theorem Move.orderAgrees {A H : Prop} {s t : State} (m : Move A H s t) (ok : TxListOk s) (h : OrderAgrees s) :
    OrderAgrees t := by
  cases m with
  | offered b owner ref fits other => exact h.offerFrame ok owner ref other
  | objected x n reason counter =>
    refine OrderAgrees.of_list (h.offerFrame ok .naming (.claimObjection x (s.after s.cfg.window)) ?_) (by simp)
      (by rw [offerObjection_line])
    exact nofun
  | withdrawn x d conflict =>
    refine h.filter (by simp) (q := fun f => !f.yieldsTo x d conflict) rfl fun f hf yields => ?_
    obtain ⟨ref, probe⟩ := TxFrame.yieldsTo_ref (by simpa using yields)
    exact ⟨TxFrame.isRecall_of_refFits (ok.refFits hf) ref, probe⟩
  | pingEnds error detail running => exact (orderAgrees_iff.mp h).1.endPing running error detail
  | accepted x n present heard fresh range room =>
    rw [acceptClaim_eq]
    exact h.of_list (by simp) (by simp)
  | named x n seeks fresh range =>
    rw [nameEntry_eq]
    exact h.of_list (by simp) (by simp)
  | asked l kept => exact h.of_list rfl rfl
  | foreign => exact h.of_list rfl rfl
  | _ => exact h.of_list (by simp) (by simp)

theorem Moves.orderAgrees {A H : Prop} {s t : State} (run : Moves A H s t) (ok : TxListOk s) (h : OrderAgrees s) :
    OrderAgrees t :=
  (run.keeps (P := fun s => TxListOk s ∧ OrderAgrees s) (fun m ⟨ok, h⟩ => ⟨m.txListOk ok, m.orderAgrees ok h⟩) ⟨ok, h⟩).2

/-! ### Frames that end (R32) -/

section

variable {s t : State}

/-- A list with a single RECALL has none once it is gone. -/
theorem TxArrivalOk.not_any_recall (arrival : TxArrivalOk s) {f : TxFrame} (hf : f ∈ s.line.txList)
    (recalls : f.isRecall = true) : (s.line.txList.filter (fun g => !(g.tag == f.tag))).any TxFrame.isRecall = false := by
  rw [List.any_eq_false]
  intro g hg isRecall
  obtain ⟨hg, other⟩ := List.mem_filter.mp hg
  obtain ⟨single, _⟩ := arrival
  have mem {h : TxFrame} (hh : h ∈ s.line.txList) (recalls : h.isRecall = true) : h ∈ s.line.txList.filter TxFrame.isRecall :=
    List.mem_filter.mpr ⟨hh, recalls⟩
  obtain ⟨a, list⟩ := List.length_eq_one_iff.mp (Nat.le_antisymm single (List.length_pos_of_mem (mem hf recalls)))
  have same : g = f := by
    have gone := mem hg isRecall
    have kept := mem hf recalls
    rw [list, List.mem_singleton] at gone kept
    exact gone.trans kept.symm
  simp [same] at other

/-- A frame that is no RECALL and no PROBE of a PING leaves the list. -/
theorem OrderAgrees.withdrawn (h : OrderAgrees s) (ok : TxListOk s) {f : TxFrame} (hf : f ∈ s.line.txList)
    (recalls : f.isRecall = false) (probe : f.isPingProbe = false) (order : t.order = s.order)
    (list : t.line.txList = s.line.txList.filter (fun g => !(g.tag == f.tag))) : OrderAgrees t := by
  refine h.filter order list fun g hg out => ?_
  have same := (txListOk_iff.mp ok).eq_of_tag hg hf (by simpa using out)
  exact same ▸ ⟨recalls, probe⟩

/-- A running RECALL ends as its frame leaves the list (R176). -/
theorem OrderStands.endRecallOrder (h : OrderStands s) (recalls : s.recallRunning = true) (order : t.order = s.order)
    (list : t.line.txList.any TxFrame.isRecall = false) (error : Option OrderError) (detail : Nat) :
    OrderAgrees (endRecallOrder error detail t) := by
  have running : t.recallRunning = true := by simpa [State.recallRunning, order] using recalls
  rw [Machine.endRecallOrder, if_pos running]
  exact .endOrder (order ▸ h.setup) list error detail

theorem OrderStands.recallRunning_of_mem (h : OrderStands s) {f : TxFrame} (hf : f ∈ s.line.txList)
    (recalls : f.isRecall = true) : s.recallRunning = true :=
  h.recalls.trans (List.any_eq_true.mpr ⟨f, hf, recalls⟩)

/-- The PROBE of a PING leaves the list. -/
theorem OrderStands.withdrawn (h : OrderStands s) (ok : TxListOk s) {f : TxFrame} (hf : f ∈ s.line.txList)
    (recalls : f.isRecall = false) (order : t.order = s.order)
    (list : t.line.txList = s.line.txList.filter (fun g => !(g.tag == f.tag))) : OrderStands t := by
  refine h.congr order ?_
  rw [list, any_filter_of_failing]
  intro g hg out
  have same := (txListOk_iff.mp ok).eq_of_tag hg hf (by simpa using out)
  exact same ▸ recalls

theorem TxFrame.isPingProbe_of_ref {f : TxFrame} (h : ∀ n, f.ref ≠ .pingProbe n) : f.isPingProbe = false := by
  unfold TxFrame.isPingProbe
  split
  · next n ref => exact absurd ref (h n)
  · rfl

/-- A frame f is dropped, and its owner is told (R32). -/
theorem OrderAgrees.dropReport (h : OrderAgrees s) (ok : TxListOk s) (arrival : TxArrivalOk s) {f : TxFrame}
    (hf : f ∈ s.line.txList) (order : t.order = s.order)
    (list : t.line.txList = s.line.txList.filter (fun g => !(g.tag == f.tag))) : OrderAgrees (dropReport f t) := by
  have stands := (orderAgrees_iff.mp h).1
  have left (recalls : f.isRecall = false) (probe : f.isPingProbe = false) : OrderAgrees t :=
    h.withdrawn ok hf recalls probe order list
  have notRecall (ref : f.ref ≠ .none) : f.isRecall = false := TxFrame.isRecall_of_refFits (ok.refFits hf) ref
  unfold Machine.dropReport
  split
  · next ref => exact (left (notRecall (by simp [ref])) (TxFrame.isPingProbe_of_ref (by simp [ref]))).of_list rfl rfl
  · next ref => exact left (notRecall (by simp [ref])) (TxFrame.isPingProbe_of_ref (by simp [ref]))
  · next ref => exact (left (notRecall (by simp [ref])) (TxFrame.isPingProbe_of_ref (by simp [ref]))).of_list rfl rfl
  · next ref => exact (stands.withdrawn ok hf (notRecall (by simp [ref])) order list).endPingOrder _ _
  · next ref =>
    split
    · next recalls =>
      exact stands.endRecallOrder (stands.recallRunning_of_mem hf recalls) order
        (list ▸ arrival.not_any_recall hf recalls) _ _
    · next other => exact left (by simpa using other) (TxFrame.isPingProbe_of_ref (by simp [ref]))

/-- LINE_FAULT ends a running RECALL (R176). -/
theorem OrderAgrees.enterFault (h : OrderAgrees s) : OrderAgrees (enterFault s) := by
  have stands := (orderAgrees_iff.mp h).1
  unfold Machine.enterFault
  dsimp only
  split
  · next running =>
    exact stands.endRecallOrder running (by simp) (by simp [withdraw]) _ _
  · exact h.of_list (by simp) (by simp)

theorem OrderAgrees.checkFault (h : OrderAgrees s) : OrderAgrees (checkFault s) := by
  unfold Machine.checkFault
  split
  · exact h.enterFault
  · exact h

/-- The frames of the list are changed but for their bodies and references. -/
theorem OrderAgrees.marked (h : OrderAgrees s) {c : TxFrame → TxFrame} (body : ∀ f, (c f).body = f.body)
    (ref : ∀ f, (c f).ref = f.ref) (order : t.order = s.order) (list : t.line.txList = s.line.txList.map c) :
    OrderAgrees t := by
  refine h.congr order ?_ ?_
  · rw [list, List.any_map]
    exact congrArg _ (funext fun f => by simp [TxFrame.isRecall, body])
  · rw [list, List.any_map]
    exact congrArg _ (funext fun f => by simp [TxFrame.isPingProbe, ref])

theorem OrderAgrees.countAttempt (h : OrderAgrees s) (ok : TxListOk s) (arrival : TxArrivalOk s) (i : InFlight) :
    OrderAgrees (countAttempt i s) := by
  unfold Machine.countAttempt
  split
  · exact h
  · next f found =>
    obtain ⟨hf, tag⟩ := Line.frame_eq_some found
    split
    · refine h.marked (c := fun g => if g.tag == i.tag then { g with attempts := g.attempts + 1 } else g) (fun g => ?_)
        (fun g => ?_) rfl rfl
      · split <;> rfl
      · split <;> rfl
    · exact h.dropReport ok arrival hf (by simp) (by simp [withdraw, tag])

theorem OrderAgrees.failAttempt (h : OrderAgrees s) (ok : TxListOk s) (arrival : TxArrivalOk s) (i : InFlight)
    (cause : BitErrorCause) : OrderAgrees (failAttempt i cause s) := by
  have ended : OrderAgrees (endInError cause s) := h.of_list (by simp) (by simp)
  rw [failAttempt_eq]
  exact (ended.countAttempt (ok.congr (by simp) (by simp)) (arrival.congr (by simp)) i).checkFault

theorem OrderAgrees.beginAttempt (h : OrderAgrees s) : OrderAgrees (beginAttempt s) := by
  cases list : s.line.txList with
  | nil => rwa [beginAttempt_of_nil list]
  | cons f rest =>
    refine h.congr (by simp) ?_ ?_
    · simp [beginAttempt_of_cons list, list, TxFrame.isRecall]
    · simp [beginAttempt_of_cons list, list, TxFrame.isPingProbe]

/-! ### The PROBE of a PING, and the recall -/

theorem any_pingProbe_of_entered {n : Name} (h : (offerOutcome (.probe n) s).entered = true) :
    (offerFrame (.probe n) .order (.pingProbe n) s).line.txList.any TxFrame.isPingProbe = true := by
  cases outcome : offerOutcome (.probe n) s with
  | inserted => simp [offerFrame_inserted outcome, any_insertFrame, TxFrame.isPingProbe]
  | displaces t => simp [offerFrame_displaces outcome, any_insertFrame, TxFrame.isPingProbe]
  | refused => simp [outcome, Offer.entered] at h
  | dropped => simp [outcome, Offer.entered] at h

/-- A running PING offers its PROBE, or ends (R177). -/
theorem OrderStands.offerPingProbe (h : OrderStands s) (ok : TxListOk s) (n : Name) : OrderAgrees (offerPingProbe n s) := by
  have offered : OrderStands (Machine.offerFrame (.probe n) .order (.pingProbe n) s) := h.offerFrame ok _ _ nofun
  unfold Machine.offerPingProbe
  dsimp only
  split
  · next entered => exact orderAgrees_iff.mpr ⟨offered, fun _ => .inr (any_pingProbe_of_entered entered)⟩
  · exact offered.endPingOrder _ _

theorem any_recall_beats (l : List TxFrame) : (l.filter TxFrame.isBeat).any TxFrame.isRecall = false := by
  rw [List.any_eq_false]
  intro f hf
  simp [TxFrame.not_recall_of_beat (List.mem_filter.mp hf).2]

theorem OrderAgrees.takeRecall (h : OrderAgrees s) (ok : TxListOk s) (sender : Name) : OrderAgrees (takeRecall sender s) := by
  obtain ⟨stands, awaits⟩ := orderAgrees_iff.mp h
  have none : (emptyOwners sender s).line.txList.any TxFrame.isRecall = false := by
    simp only [emptyOwners_values]
    exact any_recall_beats _
  have okEmptied : TxListOk (endRecalled s (emptyOwners sender s)) :=
    txListOk_iff.mpr (by simpa using (txListOk_iff.mp ok).filter TxFrame.isBeat)
  rw [takeRecall_eq]
  dsimp only
  by_cases recalls : s.line.txList.any TxFrame.isRecall = true
  · have ended : OrderAgrees (endRecalled s (emptyOwners sender s)) := by
      rw [endRecalled, if_pos recalls]
      exact stands.endRecallOrder (stands.recalls.trans recalls) (by simp) none _ _
    split
    · exact (orderAgrees_iff.mp ended).1.offerPingProbe okEmptied _
    · exact ended
  · rw [endRecalled, if_neg recalls] at okEmptied ⊢
    have kept : OrderStands (emptyOwners sender s) := stands.congr (by simp) (none.trans (Bool.eq_false_iff.mpr recalls).symm)
    split
    · exact kept.offerPingProbe okEmptied _
    · next resting =>
      refine orderAgrees_iff.mpr ⟨kept, fun running => ?_⟩
      have running' : s.pingRunning = true := by simpa [State.pingRunning] using running
      rcases awaits running' with window | probe
      · exact .inl (by simpa using window)
      · simp [probe, running] at resting

/-- A frame f has been sent, and its owner applies its effect (R12, R32). -/
theorem OrderAgrees.sentReport (h : OrderAgrees s) (ok : TxListOk s) (arrival : TxArrivalOk s) {f : TxFrame}
    (hf : f ∈ s.line.txList) (order : t.order = s.order) (next : t.line.nextTag = s.line.nextTag)
    (list : t.line.txList = s.line.txList.filter (fun g => !(g.tag == f.tag))) : OrderAgrees (sentReport f t) := by
  have stands := (orderAgrees_iff.mp h).1
  have fits := ok.refFits hf
  have left (recalls : f.isRecall = false) (probe : f.isPingProbe = false) : OrderAgrees t :=
    h.withdrawn ok hf recalls probe order list
  have okLeft : TxListOk t := txListOk_iff.mpr (by
    rw [list, next]
    exact (txListOk_iff.mp ok).filter _)
  unfold Machine.sentReport
  split
  · next body =>
    refine (left ?_ (TxFrame.isPingProbe_of_body fits (by simp [body]))).of_list (by simp) (by simp)
    simp [TxFrame.isRecall, body]
  · next body =>
    have recalls : f.isRecall = true := by simp [TxFrame.isRecall, body]
    have ended := stands.endRecallOrder (stands.recallRunning_of_mem hf recalls) order
      (list ▸ arrival.not_any_recall hf recalls) none 0
    exact ended.takeRecall (okLeft.congr (by simp) (by simp)) 0
  · next body =>
    exact left (by simp [TxFrame.isRecall, body]) (TxFrame.isPingProbe_of_body fits (by simp [body]))
  · next body =>
    refine (left ?_ (TxFrame.isPingProbe_of_body fits (by simp [body]))).of_list rfl rfl
    simp [TxFrame.isRecall, body]
  · next body =>
    have recalls : f.isRecall = false := by simp [TxFrame.isRecall, body]
    have rest : OrderStands t := stands.withdrawn ok hf recalls order list
    split
    · split
      · next running =>
        refine orderAgrees_iff.mpr ⟨⟨rest.phase, rest.recalls, fun idle => ?_, rest.setup⟩, fun _ => .inl rfl⟩
        exact absurd running (by simpa [State.pingRunning] using idle)
      · next resting => exact orderAgrees_iff.mpr ⟨rest, fun running => absurd running resting⟩
    · next ref => exact (left recalls (TxFrame.isPingProbe_of_ref ref)).of_list rfl rfl

theorem OrderAgrees.completeAttempt (h : OrderAgrees s) (ok : TxListOk s) (arrival : TxArrivalOk s) (i : InFlight) :
    OrderAgrees (completeAttempt i s) := by
  have ended : OrderAgrees (endInSuccess s) := h.of_list (by simp) (by simp)
  have okEnded : TxListOk (endInSuccess s) := ok.congr (by simp) (by simp)
  rw [completeAttempt_eq]
  split
  · exact ended
  · next f found =>
    obtain ⟨hf, tag⟩ := Line.frame_eq_some found
    exact ended.sentReport okEnded (arrival.congr (by simp)) hf rfl rfl (by simp [withdraw, tag])

/-! ### Orders -/

theorem any_recall_of_entered (h : (offerOutcome .recall s).entered = true) :
    (offerFrame .recall .order .none s).line.txList.any TxFrame.isRecall = true := by
  cases outcome : offerOutcome .recall s with
  | inserted => simp [offerFrame_inserted outcome, any_insertFrame, TxFrame.isRecall]
  | displaces t => simp [offerFrame_displaces outcome, any_insertFrame, TxFrame.isRecall]
  | refused => simp [outcome, Offer.entered] at h
  | dropped => simp [outcome, Offer.entered] at h

theorem offerFrame_list_of_not_entered {b : TxBody} {owner : Owner} {ref : OwnerRef}
    (h : (offerOutcome b s).entered = false) : (offerFrame b owner ref s).line.txList = s.line.txList := by
  cases outcome : offerOutcome b s with
  | inserted => simp [outcome, Offer.entered] at h
  | displaces t => simp [outcome, Offer.entered] at h
  | refused => rw [offerFrame_refused outcome]
  | dropped => simp [offerFrame_dropped outcome]

/-- A RECALL stays running once its frame is in the list (R176). -/
theorem OrderAgrees.recallOrder (h : OrderAgrees s) (idle : s.order.state = .idle) (opcode : s.order.opcode = 0x12)
    (phase : s.order.phase = .run) : OrderAgrees (recallOrder (beginOrder s)) := by
  have stands := (orderAgrees_iff.mp h).1
  have none : (beginOrder s).line.txList.any TxFrame.isRecall = false := h.not_any_recall_of_idle idle
  have ended (error : Option OrderError) (detail : Nat) : OrderAgrees (Machine.endOrder error detail (beginOrder s)) :=
    .endOrder (s := beginOrder s) stands.setup none error detail
  unfold Machine.recallOrder
  split
  · split
    · exact ended _ _
    · unfold offerRecall
      dsimp only
      have running : (Machine.offerFrame .recall .order .none (beginOrder s)).recallRunning = true := by
        simp [State.recallRunning, beginOrder, opcode, recallOpcode]
      have noPing := State.not_pingRunning_of_recallRunning running
      split
      · next entered =>
        obtain ⟨window, identity⟩ := stands.rests (State.not_pingRunning_of_rest (by simp [idle]))
        refine orderAgrees_iff.mpr ⟨⟨fun _ => ⟨?_, .inl running⟩, running.trans (any_recall_of_entered entered).symm,
          fun _ => ?_, fun _ => ?_⟩, fun ping => absurd ping (by simp [noPing])⟩
        · simpa using phase
        · exact ⟨by simpa [beginOrder] using window, by simpa [beginOrder] using identity⟩
        · simpa [beginOrder] using stands.setup phase
      · next out =>
        rw [endRecallOrder, if_pos running]
        refine .endOrder (fun _ => by simpa [beginOrder] using stands.setup phase) ?_ _ _
        rw [offerFrame_list_of_not_entered (by simpa using out), none]
  · exact ended _ _

/-- A PING stays running once its PROBE is in the list (R177). -/
theorem OrderAgrees.pingOrder (h : OrderAgrees s) (ok : TxListOk s) (idle : s.order.state = .idle)
    (opcode : s.order.opcode = 0x13) (phase : s.order.phase = .run) : OrderAgrees (pingOrder (beginOrder s)) := by
  have stands := (orderAgrees_iff.mp h).1
  have none : (beginOrder s).line.txList.any TxFrame.isRecall = false := h.not_any_recall_of_idle idle
  have ended (error : Option OrderError) (detail : Nat) : OrderAgrees (Machine.endOrder error detail (beginOrder s)) :=
    .endOrder (s := beginOrder s) stands.setup none error detail
  unfold Machine.pingOrder
  dsimp only
  split
  · split
    · next e _ =>
      let u := (beginOrder s).withOrder { (beginOrder s).order with pingIdentity := some e.identity, pingWindow := .none }
      have running : u.pingRunning = true := by simp [u, State.pingRunning, beginOrder, opcode, pingOpcode]
      have begun : OrderStands u := by
        refine ⟨fun _ => ⟨phase, .inr running⟩, ?_, fun resting => absurd running (by simp [resting]), stands.setup⟩
        rw [show u.line = (beginOrder s).line from rfl, none]
        simp [u, State.recallRunning, beginOrder, opcode, recallOpcode]
      exact begun.offerPingProbe (ok.congr rfl rfl) _
    · exact ended _ _
  · exact ended _ _

theorem orderRests_forgetOrder (s : State) : OrderRests s.order (forgetOrder s).order := by
  unfold forgetOrder
  dsimp only
  split
  · split
    · split
      · exact ⟨nofun, rfl, rfl, by simp, fun run => .inl ⟨by simpa using run, by simp⟩⟩
      · exact orderRests_of_ended nofun
    · exact orderRests_of_ended nofun
  · exact orderRests_of_ended nofun

theorem releaseFreeze_order (s : State) : (releaseFreeze s).order.state = s.order.state
    ∧ (releaseFreeze s).order.pingIdentity = s.order.pingIdentity
    ∧ (releaseFreeze s).order.pingWindow.isSome = s.order.pingWindow.isSome := by
  by_cases frozen : s.time.frozen = true
  · obtain ⟨_, _, _, _, order⟩ := movedBy_releaseFreeze frozen
    simp [order]
  · simp [releaseFreeze_of_not_frozen (by simpa using frozen)]

theorem OrderAgrees.releaseFreeze (h : OrderAgrees s) : OrderAgrees (releaseFreeze s) := by
  obtain ⟨state, identity, window⟩ := releaseFreeze_order s
  have none : (Machine.releaseFreeze s).order.pingWindow = .none ↔ s.order.pingWindow = .none := by
    rw [← Option.not_isSome_iff_eq_none, window, Option.not_isSome_iff_eq_none]
  simpa [OrderAgrees, State.recallRunning, State.pingRunning, state, identity, window, none] using h

theorem OrderAgrees.withdrawLate (h : OrderAgrees s) (ok : TxListOk s) (tickets : TicketsAgree s) {k : Nat}
    (ticket : ∃ b ∈ s.naming.tickets, b.tag = k) (order : t.order = s.order) (list : t.line.txList = s.line.txList) :
    OrderAgrees (withdrawLate k t) := by
  obtain ⟨b, hb, rfl⟩ := ticket
  unfold Machine.withdrawLate
  split
  · refine h.filter (q := fun f => !(f.tag == b.tag)) (by simpa using order) (by simp [withdraw, list]) fun f hf out => ?_
    obtain ⟨windowEnd, ref⟩ := (tickets b hb).2 f hf (by simpa using out)
    exact ⟨TxFrame.isRecall_of_refFits (ok.refFits hf) (by simp [ref]), TxFrame.isPingProbe_of_ref (by simp [ref])⟩
  · exact h.of_list order list

theorem Work.orderAgrees {u : State} (w : Work s u) (ok : TxListOk s) (arrival : TxArrivalOk s) (tickets : TicketsAgree s)
    (h : OrderAgrees s) : OrderAgrees u := by
  have stands := (orderAgrees_iff.mp h).1
  have ended {o : Order} {u : State} (rests : OrderRests s.order o) (order : u.order = o) (list : u.line = s.line)
      (idle : s.order.state = .idle) : OrderAgrees u :=
    orderAgrees_of_rests (order ▸ rests) stands.setup (list ▸ h.not_any_recall_of_idle idle)
  have good : OrderAgrees (goodFrame s) := h.of_list (by simp) (by simp)
  have okGood : TxListOk (goodFrame s) := ok.congr (by simp) (by simp)
  cases w with
  | released => exact h.releaseFreeze
  | emptied c off kind detail rests => exact orderAgrees_of_rests rests stands.setup (by simp [emptyTool_line off])
  | attemptBegins => exact h.beginAttempt
  | bitError i cause => exact h.failAttempt ok arrival i cause
  | sent i => exact h.completeAttempt ok arrival i
  | receiveError rx => exact OrderAgrees.checkFault (h.of_list rfl rfl)
  | stuckEnters rx => exact OrderAgrees.enterFault (h.of_list rfl rfl)
  | runs start run =>
    have moves := run Known.nothing
    rcases start with rfl | rfl
    · exact moves.orderAgrees ok h
    · exact moves.orderAgrees okGood good
  | recalled sender => exact good.takeRecall okGood sender
  | ticketExpires k ticket => exact h.withdrawLate ok tickets ticket rfl rfl
  | pingWindowEnds =>
    unfold endPingOrder
    split
    · next running =>
      exact stands.endPing running _ _ |>.of_list rfl rfl
    · next resting =>
      have rest : s.pingRunning = false := by simpa [State.pingRunning] using resting
      refine orderAgrees_iff.mpr ⟨⟨stands.phase, stands.recalls, fun _ => ⟨rfl, (stands.rests rest).2⟩, stands.setup⟩,
        fun running => absurd running resting⟩
  | orderWritten opcode operand offset bytes idle =>
    obtain ⟨window, identity⟩ := stands.rests (State.not_pingRunning_of_rest (by simp [idle]))
    refine orderAgrees_iff.mpr ⟨⟨fun running => ?_, ?_, fun _ => ⟨window, identity⟩, stands.setup⟩, fun running => ?_⟩
    · simp [idle] at running
    · rw [State.withOrder_line, h.not_any_recall_of_idle idle]
      simp [State.recallRunning, idle]
    · simp [State.pingRunning, idle] at running
  | retired done =>
    obtain ⟨window, identity⟩ := stands.rests (State.not_pingRunning_of_rest (by simp [done]))
    refine orderAgrees_iff.mpr ⟨⟨nofun, ?_, fun _ => ⟨window, identity⟩, stands.setup⟩, nofun⟩
    rw [State.withOrder_line, ← stands.recalls, State.not_recallRunning_of_rest (s := s) (by simp [done])]
    rfl
  | orderEnds rests idle => exact ended rests rfl rfl idle
  | planned p room rests idle => exact ended rests rfl rfl idle
  | recallStarts idle opcode phase => exact h.recallOrder idle opcode phase
  | pingStarts idle opcode phase => exact h.pingOrder ok idle opcode phase
  | forgets idle opcode phase =>
    exact orderAgrees_of_rests (orderRests_forgetOrder (beginOrder s)) stands.setup
      (by simpa using h.not_any_recall_of_idle idle)
  | _ => exact h.of_list rfl rfl

end

/-- Settles O17: an order runs while its frame, or the window of its PROBE, stands. -/
theorem runningOrderStaysAwaited : Obligations.RunningOrderStaysAwaited := by
  intro s t ok arrival tickets order h
  exact invariant_of_works (Q := fun s => TxListOk s ∧ TxArrivalOk s ∧ TicketsAgree s ∧ OrderAgrees s)
    (fun _ _ same hs => same ▸ hs) (fun _ hs => hs.2.2.2) (fun _ => IsReset.orderAgrees) (fun _ _ same h => h.sameTool same)
    (fun _ _ ⟨ok, arrival, tickets, order⟩ w => w.orderAgrees ok arrival tickets order) ⟨ok, arrival, tickets, order⟩ h

end Sys2Proof.Machine

/-! Settles O12: every step keeps the claims in step with the roster; and what every step keeps of the roster as a table and of
the asked set, parts of O11. -/

namespace Sys2Proof.Machine

section

variable {s t : State}

/-! ### A release of the freeze (R46) -/

/-- An entry with its deadlines moved later by d (R46). -/
def Entry.delayed (d : Time) (e : Entry) : Entry :=
  { e with claimDl := e.claimDl.map (· + d), silenceDl := e.silenceDl.map (· + d), lossDl := e.lossDl.map (· + d) }

/-- A member of the asked set with its window moved later by d (R46). -/
def Asked.delayed (d : Time) (a : Asked) : Asked := { a with window := a.window.map (· + d) }

/-- A pending claim with its deadlines moved later by d (R46). -/
def PendingClaim.delayed (d : Time) (c : PendingClaim) : PendingClaim :=
  { c with windowEnd := if c.windowEnded then c.windowEnd else c.windowEnd + d, hold := c.hold + d }

theorem Entry.touched_delayed (d : Time) (e : Entry) : e.Touched (e.delayed d) := by
  constructor <;> simp [Entry.delayed]

/-- A release leaves the roster, the asked set and the claims, but that their deadlines may move. -/
theorem releaseFreeze_moved (s : State) : ∃ d : Time,
    (releaseFreeze s).roster.entries = s.roster.entries.map (Entry.delayed d)
      ∧ (releaseFreeze s).roster.asked = s.roster.asked.map (Asked.delayed d)
      ∧ ∃ shift : PendingClaim → PendingClaim, (∀ c, (shift c).claimant = c.claimant ∧ (shift c).name = c.name)
        ∧ (releaseFreeze s).naming.claims = s.naming.claims.map shift := by
  by_cases frozen : s.time.frozen = true
  · obtain ⟨_, roster, naming, _⟩ := movedBy_releaseFreeze frozen
    rw [roster, naming]
    exact ⟨s.time.now - s.time.freezeStart, rfl, rfl, PendingClaim.delayed (s.time.now - s.time.freezeStart),
      fun _ => ⟨rfl, rfl⟩, rfl⟩
  · have still : Entry.delayed 0#32 = id := funext fun e => by simp [Entry.delayed]
    have stays : Asked.delayed 0#32 = id := funext fun a => by simp [Asked.delayed]
    rw [releaseFreeze_of_not_frozen (by simpa using frozen)]
    exact ⟨0#32, by rw [still, List.map_id], by rw [stays, List.map_id], id, fun _ => ⟨rfl, rfl⟩, by simp⟩

/-! ### The roster stays a table (R72, R73) -/

theorem rosterOk_of_empty (h : s.roster.entries = []) : RosterOk s := by
  simp [RosterOk, h]

/-- A change of every entry that keeps slot, identity, state, name and which deadlines are armed. -/
theorem RosterOk.touchEach (ok : RosterOk s) {f : Entry → Entry} (shape : ∀ g : Entry, g.Touched (f g))
    (entries : t.roster.entries = s.roster.entries.map f) : RosterOk t := by
  obtain ⟨apart, fits⟩ := rosterOk_iff.mp ok
  refine rosterOk_iff.mpr ⟨?_, fun e he => ?_⟩
  · rw [entries, List.pairwise_map]
    refine apart.imp fun {a b} ab => ⟨?_, ?_, ?_⟩
    · rw [(shape a).slot, (shape b).slot]; exact ab.slot
    · rw [(shape a).identity, (shape b).identity]; exact ab.identity
    · rw [(shape a).name, (shape b).name]; exact ab.name
  · obtain ⟨g, hg, rfl⟩ := List.mem_map.mp (entries ▸ he)
    obtain ⟨capacity, fit⟩ := fits g hg
    exact ⟨(shape g).slot ▸ capacity, (shape g).fits fit⟩

theorem RosterOk.releaseFreeze (ok : RosterOk s) : RosterOk (releaseFreeze s) := by
  obtain ⟨d, entries, _⟩ := releaseFreeze_moved s
  exact ok.touchEach (Entry.touched_delayed d) entries

theorem RosterOk.sameTool (ok : RosterOk s) (same : SameTool s t) : RosterOk t := ok.congr (by rw [same.roster])

/-- What a frame sent leaves of the tables: a RECALL empties them (R37), any other keeps the entries, the requests and the names
in service, and of the claims marks at most those objected to (R32). -/
inductive Sent (s : State) (t : State) : Prop
  | emptied (roster : t.roster = Roster.reset) (claims : t.naming.claims = [])
      (service : t.service = { s.service with requests := [], inService := [] })
  | kept (entries : t.roster.entries = s.roster.entries) (service : t.service = s.service)
      (mark : PendingClaim → PendingClaim) (same : ∀ c, (mark c).claimant = c.claimant ∧ (mark c).name = c.name)
      (claims : t.naming.claims = s.naming.claims.map mark)

theorem Sent.of_same (entries : t.roster.entries = s.roster.entries) (service : t.service = s.service)
    (claims : t.naming.claims = s.naming.claims) : Sent s t :=
  .kept entries service id (fun _ => ⟨rfl, rfl⟩) (by simpa using claims)

theorem sent_sentReport (f : TxFrame) (s : State) : Sent s (sentReport f s) := by
  unfold sentReport
  split
  · refine .kept (by simp) (by simp) (fun c => if c.claimant == _ then { c with objectSent := true } else c) (fun c => ?_) rfl
    split <;> exact ⟨rfl, rfl⟩
  · exact .emptied (by simp [takeRecall_values]) (by simp [takeRecall_values]) (by simp [takeRecall_values])
  · exact .of_same rfl rfl rfl
  · exact .of_same rfl rfl rfl
  · split
    · split <;> exact .of_same rfl rfl rfl
    · exact .of_same rfl rfl rfl

theorem sent_completeAttempt (i : InFlight) (s : State) : Sent s (completeAttempt i s) := by
  rw [completeAttempt_eq]
  split
  · exact .of_same (by simp) (by simp) (by simp)
  · next f _ =>
    cases sent_sentReport f (withdraw (fun g => g.tag == i.tag) (endInSuccess s)) with
    | emptied roster claims service => exact .emptied roster claims (by simpa using service)
    | kept entries service mark same claims =>
      exact .kept (by simpa using entries) (by simpa using service) mark same (by simpa using claims)

theorem RosterOk.sent (ok : RosterOk s) (h : Sent s t) : RosterOk t := by
  cases h with
  | emptied roster claims service => exact rosterOk_of_empty (by rw [roster]; rfl)
  | kept entries service mark same claims => exact ok.congr entries

theorem Work.rosterOk {u : State} (w : Work s u) (ok : RosterOk s) : RosterOk u := by
  cases w with
  | released => exact ok.releaseFreeze
  | emptied c off kind detail rests => exact rosterOk_of_empty (by simp [Roster.reset])
  | sent i => exact ok.sent (sent_completeAttempt i s)
  | runs start run =>
    have known {r : State} (ok : RosterOk r) : Known True False r := ⟨fun _ => ok, False.elim⟩
    rcases start with rfl | rfl
    · exact (run (known ok)).rosterOk (fun _ => ok) trivial
    · have good : RosterOk (goodFrame s) := ok.congr (by simp)
      exact (run (known good)).rosterOk (fun _ => good) trivial
  | recalled sender => exact rosterOk_of_empty (by simp [takeRecall_values, Roster.reset])
  | forgets idle opcode phase =>
    have begun : RosterOk (beginOrder s) := ok.congr rfl
    obtain ⟨t, error, run, eq⟩ := forgetOrder_moves (A := True) (H := False) (s := beginOrder s) fun _ => begun
    exact eq ▸ (run.rosterOk (fun _ => begun) trivial).congr rfl
  | _ => exact ok.congr (by simp)

/-! ### The claims (R88, R103) -/

theorem claimsInStep_of_empty (entries : s.roster.entries = []) (claims : s.naming.claims = []) : ClaimsInStep s := by
  simp [ClaimsInStep, entries, claims]

/-- Entries and claims that keep what ties them keep in step. -/
theorem ClaimsInStep.mapped (h : ClaimsInStep s) {f : Entry → Entry} (shape : ∀ g : Entry, g.Touched (f g))
    (entries : t.roster.entries = s.roster.entries.map f) {c : PendingClaim → PendingClaim}
    (same : ∀ d, (c d).claimant = d.claimant ∧ (c d).name = d.name) (claims : t.naming.claims = s.naming.claims.map c) :
    ClaimsInStep t := by
  obtain ⟨room, distinct, claimed, claiming⟩ := h
  rw [ClaimsInStep, claims, entries]
  refine ⟨by simpa using room, ?_, fun d hd => ?_, fun e he state => ?_⟩
  · simpa [Function.comp_def, fun d => (same d).1] using distinct
  · obtain ⟨b, hb, rfl⟩ := List.mem_map.mp hd
    obtain ⟨g, hg, identity, name⟩ := claimed b hb
    refine ⟨f g, List.mem_map_of_mem hg, ?_, ?_⟩
    · rw [(shape g).identity, (same b).1, identity]
    · rw [Entry.claimedName_congr (shape g).state (shape g).name, (same b).2, name]
  · obtain ⟨g, hg, rfl⟩ := List.mem_map.mp he
    obtain ⟨d, hd, claimant⟩ := claiming g hg ((shape g).state ▸ state)
    exact ⟨c d, List.mem_map_of_mem hd, by rw [(same d).1, (shape g).identity, claimant]⟩

theorem Entry.touched_refl (e : Entry) : e.Touched e := by constructor <;> rfl

/-- Claims that keep what ties them to their entries. -/
theorem ClaimsInStep.marked (h : ClaimsInStep s) (entries : t.roster.entries = s.roster.entries)
    {c : PendingClaim → PendingClaim} (same : ∀ d, (c d).claimant = d.claimant ∧ (c d).name = d.name)
    (claims : t.naming.claims = s.naming.claims.map c) : ClaimsInStep t :=
  h.mapped (f := id) Entry.touched_refl (by simpa using entries) same claims

theorem ClaimsInStep.sent (h : ClaimsInStep s) (sent : Sent s t) : ClaimsInStep t := by
  cases sent with
  | emptied roster claims service => exact claimsInStep_of_empty (by rw [roster]; rfl) claims
  | kept entries service mark same claims => exact h.marked entries same claims

theorem ClaimsInStep.sameTool (h : ClaimsInStep s) (same : SameTool s t) : ClaimsInStep t :=
  h.congr (by rw [same.roster]) (by rw [same.naming])

theorem Moves.claimsInStep {H : Prop} (run : Moves True H s t) (h : ClaimsInStep s) : ClaimsInStep t :=
  run.keeps (fun m => m.claimsInStep) h

theorem Work.claimsInStep {u : State} (w : Work s u) (ok : RosterOk s) (h : ClaimsInStep s) : ClaimsInStep u := by
  cases w with
  | released =>
    obtain ⟨d, entries, _, shift, same, claims⟩ := releaseFreeze_moved s
    exact h.mapped (Entry.touched_delayed d) entries same claims
  | emptied c off kind detail rests => exact claimsInStep_of_empty (by simp [Roster.reset]) (by simp)
  | sent i => exact h.sent (sent_completeAttempt i s)
  | runs start run =>
    have known {r : State} (ok : RosterOk r) : Known True False r := ⟨fun _ => ok, False.elim⟩
    rcases start with rfl | rfl
    · exact (run (known ok)).claimsInStep h
    · exact (run (known (ok.congr (by simp)))).claimsInStep (h.congr (by simp) (by simp))
  | recalled sender =>
    exact claimsInStep_of_empty (by simp [takeRecall_values, Roster.reset]) (by simp [takeRecall_values])
  | objectionWindowEnds x =>
    refine h.marked rfl (c := fun d => if d.claimant == x then { d with windowEnded := true } else d) (fun d => ?_) rfl
    split <;> exact ⟨rfl, rfl⟩
  | forgets idle opcode phase =>
    have begun : RosterOk (beginOrder s) := ok.congr rfl
    obtain ⟨t, error, run, eq⟩ := forgetOrder_moves (A := True) (H := False) (s := beginOrder s) fun _ => begun
    exact eq ▸ (run.claimsInStep (h.congr rfl rfl)).congr rfl rfl
  | _ => exact h.congr (by simp) (by simp)

/-! ### The asked set (R86) -/

theorem askedOk_of_empty (h : s.roster.asked = []) : AskedOk s := by
  simp [AskedOk, h]

/-- A change of members that keeps their names, and a window with OPEN. -/
theorem AskedOk.mapped (ok : AskedOk s) {c : Asked → Asked} (name : ∀ a, (c a).name = a.name)
    (window : ∀ a, a.window.isSome = (a.probe == .opened) → (c a).window.isSome = ((c a).probe == .opened))
    (asked : t.roster.asked = s.roster.asked.map c) : AskedOk t := by
  obtain ⟨names, members⟩ := ok
  rw [AskedOk, asked]
  refine ⟨by simpa [Function.comp_def, name] using names, fun a ha => ?_⟩
  obtain ⟨b, hb, rfl⟩ := List.mem_map.mp ha
  exact ⟨by rw [name]; exact (members b hb).1, window b (members b hb).2⟩

theorem AskedOk.dropReport (ok : AskedOk s) (f : TxFrame) : AskedOk (dropReport f s) := by
  unfold Machine.dropReport
  split
  · exact ok.congr rfl
  · exact ok
  · refine ok.mapped (c := fun a => if a.tag == some f.tag then { a with probe := .unsent, window := none, tag := none }
      else a) (fun a => ?_) (fun a fits => ?_) rfl
    · split <;> rfl
    · split
      · rfl
      · exact fits
  · exact ok.congr (by simp)
  · split
    · exact ok.congr (by simp)
    · exact ok

theorem AskedOk.failAttempt (ok : AskedOk s) (i : InFlight) (cause : BitErrorCause) : AskedOk (failAttempt i cause s) := by
  rw [failAttempt_eq]
  refine AskedOk.congr (s := countAttempt i (endInError cause s)) ?_ (by simp)
  unfold countAttempt
  split
  · exact ok.congr (by simp)
  · split
    · exact ok.congr (by simp)
    · exact AskedOk.dropReport (ok.congr (by simp)) _

theorem AskedOk.sentReport (ok : AskedOk s) (f : TxFrame) : AskedOk (sentReport f s) := by
  unfold Machine.sentReport
  split
  · exact ok.congr (by simp)
  · exact askedOk_of_empty (by simp [takeRecall_values, Roster.reset])
  · exact ok
  · exact ok.congr rfl
  · split
    · split
      · exact ok.congr rfl
      · exact ok
    · refine ok.mapped (c := fun a => if a.tag == some f.tag then
        { a with probe := .opened, window := some (s.toolAfter Config.probeWindow) } else a) (fun a => ?_)
        (fun a fits => ?_) rfl
      · split <;> rfl
      · split
        · rfl
        · exact fits

theorem AskedOk.completeAttempt (ok : AskedOk s) (i : InFlight) : AskedOk (completeAttempt i s) := by
  rw [completeAttempt_eq]
  split
  · exact ok.congr (by simp)
  · exact AskedOk.sentReport (ok.congr (by simp)) _

theorem Move.askedOk {A H : Prop} (m : Move A H s t) (ok : AskedOk s) : AskedOk t := by
  cases m with
  | asked l kept => exact kept ok
  | accepted x n present heard fresh range room => rw [acceptClaim_eq]; exact ok.congr (by simp)
  | named x n seeks fresh range => rw [nameEntry_eq]; exact ok.congr (by simp)
  | _ => exact ok.congr (by simp)

theorem Work.askedOk {u : State} (w : Work s u) (ok : AskedOk s) : AskedOk u := by
  cases w with
  | released =>
    obtain ⟨d, _, asked, _⟩ := releaseFreeze_moved s
    exact ok.mapped (c := Asked.delayed d) (fun _ => rfl) (fun _ fits => by simpa [Asked.delayed] using fits) asked
  | emptied c off kind detail rests => exact askedOk_of_empty (by simp [Roster.reset])
  | bitError i cause => exact ok.failAttempt i cause
  | sent i => exact ok.completeAttempt i
  | runs start run =>
    have moves := run Known.nothing
    rcases start with rfl | rfl
    · exact moves.keeps (fun m => m.askedOk) ok
    · exact moves.keeps (fun m => m.askedOk) (ok.congr (by simp))
  | recalled sender => exact askedOk_of_empty (by simp [takeRecall_values, Roster.reset])
  | _ => exact ok.congr (by simp)

end

/-- Settles O12: a claim comes, ends and is emptied together with its CLAIMING entry. -/
theorem claimsStayInStep : Obligations.ClaimsStayInStep := by
  intro s t ok hs h
  exact invariant_of_works (Q := fun s => RosterOk s ∧ ClaimsInStep s) (fun _ _ same hs => same ▸ hs) (fun _ hs => hs.2)
    (fun _ => IsReset.claimsInStep) (fun _ _ same h => h.sameTool same) (fun _ _ hs w => w.claimsInStep hs.1 hs.2)
    ⟨ok, hs⟩ h

end Sys2Proof.Machine

/-! Settles O16: the requests and the names in service have their holders (08). -/

namespace Sys2Proof.Machine

section

variable {s t : State}

/-- n is held by an entry that may ask for service: one NAMED or SILENT (R144, R154). -/
def State.Calls (s : State) (n : Name) : Prop :=
  ∃ e ∈ s.roster.entries, e.name = some n ∧ (e.state = .named ∨ e.state = .silent)

/-- n is held (R73). -/
def State.Holds (s : State) (n : Name) : Prop := ∃ e ∈ s.roster.entries, e.heldName = some n

theorem State.Calls.holds {n : Name} (h : s.Calls n) : s.Holds n := by
  obtain ⟨e, he, name, state⟩ := h
  exact ⟨e, he, Entry.heldName_eq_some_iff.mpr ⟨name, by tauto⟩⟩

theorem RosterOk.range_of_holds (ok : RosterOk s) {n : Name} (h : s.Holds n) : 1 ≤ n ∧ n ≤ Config.lastName := by
  obtain ⟨e, he, held⟩ := h
  obtain ⟨holds, name⟩ := Entry.holds_of_heldName held
  obtain ⟨m, hm, range⟩ := (ok.fits he).exists_name_of_holds holds
  obtain rfl := Option.some.inj (name.symm.trans hm)
  simpa [inRange] using range

/-- The parts of ServiceAgrees that speak of the service unit alone: the order of the sets, the mask and the bottom name. -/
structure Service.Ordered (v : Service) : Prop where
  requests : (v.requests.map (·.name)).Pairwise (· < ·)
  serving : v.inService.Pairwise (· < ·)
  mask0 : v.mask.getLsbD 0 = false
  mask63 : v.mask.getLsbD 63 = false
  bottom : 1 ≤ v.bottom ∧ v.bottom ≤ Config.lastName

theorem serviceAgrees_iff : ServiceAgrees s ↔
    s.service.Ordered ∧ (∀ r ∈ s.service.requests, s.Calls r.name) ∧ ∀ n ∈ s.service.inService, s.Holds n :=
  ⟨fun ⟨requests, serving, calls, holds, mask0, mask63, bottom⟩ => ⟨⟨requests, serving, mask0, mask63, bottom⟩, calls, holds⟩,
    fun ⟨⟨requests, serving, mask0, mask63, bottom⟩, calls, holds⟩ =>
      ⟨requests, serving, calls, holds, mask0, mask63, bottom⟩⟩

/-- Requests and names in service that go, and holders of the others that stay. -/
theorem ServiceAgrees.thinned (h : ServiceAgrees s) (requests : t.service.requests.Sublist s.service.requests)
    (serving : t.service.inService.Sublist s.service.inService) (mask : t.service.mask = s.service.mask)
    (bottom : t.service.bottom = s.service.bottom) (calls : ∀ r ∈ t.service.requests, s.Calls r.name → t.Calls r.name)
    (holds : ∀ n ∈ t.service.inService, s.Holds n → t.Holds n) : ServiceAgrees t := by
  obtain ⟨ordered, called, held⟩ := serviceAgrees_iff.mp h
  refine serviceAgrees_iff.mpr ⟨⟨ordered.requests.sublist (requests.map _), ordered.serving.sublist serving, ?_, ?_, ?_⟩,
    fun r hr => calls r hr (called r (requests.subset hr)), fun n hn => holds n hn (held n (serving.subset hn))⟩
  · rw [mask]; exact ordered.mask0
  · rw [mask]; exact ordered.mask63
  · rw [bottom]; exact ordered.bottom

/-- The service unit stands, and so do the holders. -/
theorem ServiceAgrees.carried (h : ServiceAgrees s) (service : t.service = s.service)
    (calls : ∀ n, s.Calls n → t.Calls n) (holds : ∀ n, s.Holds n → t.Holds n) : ServiceAgrees t :=
  h.thinned (by rw [service]) (by rw [service]) (by rw [service]) (by rw [service])
    (fun r _ => calls r.name) fun n _ => holds n

theorem ServiceAgrees.congr (h : ServiceAgrees s) (service : t.service = s.service)
    (entries : t.roster.entries = s.roster.entries) : ServiceAgrees t :=
  h.carried service (fun n => by simp [State.Calls, entries]) fun n => by simp [State.Holds, entries]

/-- The entries of x are changed, and those that call or hold a name go on doing so. -/
theorem ServiceAgrees.changeEntry (h : ServiceAgrees s) {x : Identity} {f : Entry → Entry} (service : t.service = s.service)
    (entries : t.roster.entries = (changeEntry x f s).roster.entries)
    (calls : s.EachOf x fun g => g.state = .named ∨ g.state = .silent →
      (f g).name = g.name ∧ ((f g).state = .named ∨ (f g).state = .silent))
    (holds : s.EachOf x fun g => ∀ n, g.heldName = some n → (f g).heldName = some n) : ServiceAgrees t := by
  have image (g : Entry) (hg : g ∈ s.roster.entries) : (if g.identity == x then f g else g) ∈ t.roster.entries := by
    rw [entries, changeEntry_entries]
    exact List.mem_map_of_mem hg
  refine h.carried service (fun n ⟨g, hg, name, state⟩ => ⟨_, image g hg, ?_⟩) fun n ⟨g, hg, held⟩ => ⟨_, image g hg, ?_⟩
  · by_cases hgx : g.identity = x
    · obtain ⟨name', state'⟩ := calls g hg hgx state
      simpa [hgx, name'] using ⟨name, state'⟩
    · simpa [hgx] using ⟨name, state⟩
  · by_cases hgx : g.identity = x
    · simpa [hgx] using holds g hg hgx n held
    · simpa [hgx] using held

/-- The entries of x, which hold no name, may be changed or go. -/
theorem ServiceAgrees.others (h : ServiceAgrees s) {x : Identity} (service : t.service = s.service)
    (seeks : s.EachOf x fun g => g.heldName = none)
    (stay : ∀ e ∈ s.roster.entries, e.identity ≠ x → e ∈ t.roster.entries) : ServiceAgrees t := by
  have other {e : Entry} (he : e ∈ s.roster.entries) {n : Name} (held : e.heldName = some n) : e.identity ≠ x :=
    fun hex => by simp [seeks e he hex] at held
  refine h.carried service (fun n ⟨e, he, name, state⟩ => ⟨e, stay e he ?_, name, state⟩)
    fun n ⟨e, he, held⟩ => ⟨e, stay e he (other he held), held⟩
  exact other he (Entry.heldName_eq_some_iff.mpr ⟨name, by tauto⟩)

/-- The entries of x, which hold n, may be changed or go, where n leaves the requests and the names in service. -/
theorem ServiceAgrees.left (h : ServiceAgrees s) {x : Identity} {n : Name}
    (service : t.service = (s.service.dropRequest n).finish n) (own : s.EachOf x fun g => g.heldName = some n)
    (stay : ∀ e ∈ s.roster.entries, e.identity ≠ x → e ∈ t.roster.entries) : ServiceAgrees t := by
  have other {m : Name} (ne : m ≠ n) {e : Entry} (he : e ∈ s.roster.entries) (held : e.heldName = some m) :
      e.identity ≠ x := fun hex => ne (Option.some.inj (held.symm.trans (own e he hex)))
  refine h.thinned ?_ ?_ ?_ ?_ (fun r hr ⟨e, he, name, state⟩ => ⟨e, stay e he ?_, name, state⟩)
    fun m hm ⟨e, he, held⟩ => ⟨e, stay e he (other ?_ he held), held⟩
  · rw [service]; exact List.filter_sublist
  · rw [service]; exact List.filter_sublist
  · rw [service]; rfl
  · rw [service]; rfl
  · rw [service] at hr
    exact other (m := r.name) (by simpa using (List.mem_filter.mp hr).2) he
      (Entry.heldName_eq_some_iff.mpr ⟨name, by tauto⟩)
  · rw [service] at hm
    simpa using (List.mem_filter.mp hm).2

theorem Service.Ordered.call {v : Service} (h : v.Ordered) (n : Name) (cause : Byte) : (v.call n cause).Ordered := by
  unfold Service.call
  split
  · have names : (v.requests.map (fun r => if r.name == n then { r with cause, overrun := true } else r)).map (·.name)
        = v.requests.map (·.name) := by
      rw [List.map_map]
      exact List.map_congr_left fun r _ => by
        dsimp only [Function.comp]
        split <;> rfl
    exact ⟨by simpa only [names] using h.requests, h.serving, h.mask0, h.mask63, h.bottom⟩
  · next absent =>
    refine ⟨?_, h.serving, h.mask0, h.mask63, h.bottom⟩
    have fresh : ∀ r ∈ v.requests, r.name ≠ n := by simpa using absent
    have sorted := List.pairwise_map.mp h.requests
    refine List.pairwise_map.mpr (pairwise_insertBy sorted (fun _ _ => Nat.lt_trans) (fun r _ behind => ?_) fun r hr ahead => ?_)
    · simpa using behind
    · exact lt_of_le_of_ne (by simpa using ahead) (fresh r hr)

theorem ServiceAgrees.call (h : ServiceAgrees s) {n : Name} (calls : s.Calls n) (cause : Byte) :
    ServiceAgrees (s.withService (s.service.call n cause)) := by
  obtain ⟨ordered, called, held⟩ := serviceAgrees_iff.mp h
  refine serviceAgrees_iff.mpr ⟨ordered.call n cause, fun r hr => ?_, fun m hm => ?_⟩
  · simp only [State.withService_service] at hr
    unfold Service.call at hr
    split at hr
    · obtain ⟨q, hq, rfl⟩ := List.mem_map.mp hr
      have name : (if q.name == n then { q with cause, overrun := true } else q : Request).name = q.name := by split <;> rfl
      rw [name]
      exact called q hq
    · rcases (mem_insertBy _ _ _ _).mp hr with rfl | hr
      · exact calls
      · exact called r hr
  · simp only [State.withService_service] at hm
    unfold Service.call at hm
    split at hm
    · exact held m hm
    · exact held m hm

theorem Entry.Touched.heldName {g h : Entry} (t : g.Touched h) : h.heldName = g.heldName := by
  rw [Entry.heldName, Entry.holds, t.state, t.name, Entry.heldName, Entry.holds]

theorem mem_changeEntry_of_other {x : Identity} {f : Entry → Entry} {e : Entry} (he : e ∈ s.roster.entries)
    (other : e.identity ≠ x) : e ∈ (Machine.changeEntry x f s).roster.entries := by
  rw [changeEntry_entries]
  exact List.mem_map.mpr ⟨e, he, by simp [other]⟩

/-- The entries of x, which hold n, become LOST: n leaves the requests and stays in service (R154). -/
theorem ServiceAgrees.lost (h : ServiceAgrees s) {x : Identity} {n : Name}
    (own : s.EachOf x fun g => g.heldName = some n) : ServiceAgrees (serviceLost n (Machine.changeEntry x Entry.toLost s)) := by
  refine h.thinned ?_ ?_ ?_ ?_ (fun r hr ⟨e, he, name, state⟩ => ⟨e, ?_, name, state⟩) fun m hm ⟨e, he, held⟩ => ?_
  · simp [serviceLost, Service.dropRequest]
  · simp [serviceLost, Service.dropRequest]
  · simp [serviceLost, Service.dropRequest]
  · simp [serviceLost, Service.dropRequest]
  · have other : r.name ≠ n := by
      simp only [serviceLost, State.withService_service, changeEntry_frame] at hr
      simpa using (List.mem_filter.mp hr).2
    have held : e.heldName = some r.name := Entry.heldName_eq_some_iff.mpr ⟨name, by tauto⟩
    refine mem_changeEntry_of_other he fun hex => other ?_
    exact Option.some.inj (held.symm.trans (own e he hex))
  · by_cases hex : e.identity = x
    · obtain ⟨_, name⟩ := Entry.holds_of_heldName held
      refine ⟨e.toLost, ?_, Entry.heldName_eq_some_iff.mpr ⟨name, .inr (.inr rfl)⟩⟩
      simpa using ⟨e, he, by simp [hex]⟩
    · exact ⟨e, mem_changeEntry_of_other he hex, held⟩

theorem Move.serviceAgrees {H : Prop} (m : Move True H s t) (ok : RosterOk s) (inStep : ClaimsInStep s)
    (h : ServiceAgrees s) : ServiceAgrees t := by
  cases m with
  | called n cause served => exact h.call (served trivial) cause
  | touched x f bounds shape =>
    refine h.changeEntry (by simp) rfl (fun g hg hgx state => ?_) fun g hg hgx n held => ?_
    · have touch := shape trivial g hg hgx
      exact ⟨touch.name, by rwa [touch.state]⟩
    · exact (shape trivial g hg hgx).heldName.trans held
  | refreshed x holds =>
    refine h.changeEntry (by simp) rfl (fun g hg hgx state => ⟨rfl, .inl rfl⟩) fun g hg hgx n held => ?_
    exact Entry.heldName_eq_some_iff.mpr ⟨(Entry.holds_of_heldName held).2, .inl rfl⟩
  | silenced x span named =>
    refine h.changeEntry (by simp) rfl (fun g hg hgx state => ⟨rfl, .inr rfl⟩) fun g hg hgx n held => ?_
    exact Entry.heldName_eq_some_iff.mpr ⟨(Entry.holds_of_heldName held).2, .inr (.inl rfl)⟩
  | lost x n holds => exact h.lost (holds trivial)
  | heard x seeks counting =>
    exact h.others (x := x) (by simp) (seeks trivial inStep) fun e he other => by
      simpa using ⟨e, he, by simp [other]⟩
  | left x n f enters holds counting =>
    exact h.left (x := x) (by simp [serviceLeft]) (holds trivial) fun e he other => by
      simpa using mem_changeEntry_of_other (f := f) he other
  | freed e seeks =>
    exact h.others (x := e.identity) (by simp) (seeks trivial) fun g hg other => by simpa using ⟨hg, other⟩
  | freedName e n holds =>
    exact h.left (x := e.identity) (by simp [serviceLeft]) (holds trivial) fun g hg other => by simpa using ⟨hg, other⟩
  | created k x path revision free absent counting =>
    refine h.others (x := x) (by simp) (fun g hg hgx => absurd hgx (State.not_mem_of_entryOf_eq_none absent g hg))
      fun g hg _ => ?_
    simp [hg]
  | adopted k x n free absent fresh range =>
    refine h.others (x := x) (by simp) (fun g hg hgx => absurd hgx (State.not_mem_of_entryOf_eq_none absent g hg))
      fun g hg _ => ?_
    simp [hg]
  | accepted x n present heard fresh range room =>
    rw [acceptClaim_eq]
    refine h.others (x := x) (by simp) (fun g hg hgx => ?_) fun g hg other => ?_
    · simp [Entry.heldName, Entry.holds, heard trivial g hg hgx]
    · simpa using mem_changeEntry_of_other (f := Entry.claiming n s.time.now) hg other
  | named x n seeks fresh range =>
    rw [nameEntry_eq]
    refine h.others (x := x) (by simp) (fun g hg hgx => ?_) fun g hg other => ?_
    · exact (ok.fits hg).heldName_eq_none_iff.mpr (seeks trivial g hg hgx)
    · simpa using mem_changeEntry_of_other (f := Entry.named x n (dropClaim x s)) hg other
  | asked l kept => exact h.congr rfl rfl
  | _ => exact h.congr (by simp) (by simp)

theorem Moves.serviceAgrees {H : Prop} (run : Moves True H s t) (ok : RosterOk s) (inStep : ClaimsInStep s)
    (h : ServiceAgrees s) : ServiceAgrees t :=
  (run.keeps (P := fun s => RosterOk s ∧ ClaimsInStep s ∧ ServiceAgrees s)
    (fun m ⟨ok, inStep, h⟩ => ⟨m.rosterOk ok, m.claimsInStep inStep, m.serviceAgrees ok inStep h⟩) ⟨ok, inStep, h⟩).2.2

/-- Emptied sets agree with every roster (R156). -/
theorem ServiceAgrees.emptied (h : ServiceAgrees s) (service : t.service = { s.service with requests := [], inService := [] }) :
    ServiceAgrees t :=
  h.thinned (by simp [service]) (by simp [service]) (by simp [service]) (by simp [service]) (by simp [service])
    (by simp [service])

theorem Service.Ordered.serve {v : Service} (h : v.Ordered) (n : Name) : (v.serve n).Ordered := by
  unfold Service.serve
  split
  · exact h
  · next absent =>
    refine ⟨h.requests, pairwise_insertBy h.serving (fun _ _ => Nat.lt_trans) (fun m _ behind => ?_) (fun m hm ahead => ?_),
      h.mask0, h.mask63, h.bottom⟩
    · simpa using behind
    · refine lt_of_le_of_ne (by simpa using ahead) fun same => absent ?_
      simpa [← same] using hm

theorem Service.mem_serve {v : Service} {n m : Name} (h : m ∈ (v.serve n).inService) : m = n ∨ m ∈ v.inService := by
  unfold Service.serve at h
  split at h
  · exact .inr h
  · exact (mem_insertBy _ _ _ _).mp h

/-- A TAKE hands out a name that is called, and so is held (R147, R149). -/
theorem ServiceAgrees.taken (h : ServiceAgrees s) (ok : RosterOk s) {n : Name} (choice : s.takeChoice = some n) :
    ServiceAgrees (s.withService (s.service.taken s.cfg n)) := by
  obtain ⟨ordered, called, held⟩ := serviceAgrees_iff.mp h
  obtain ⟨r, hr, rfl⟩ : ∃ r ∈ s.service.requests, r.name = n :=
    (State.mem_openRequests_iff.mp (highest_spec (State.takeChoice_eq_some_iff.mp choice).1).1).1
  have holds := (called r hr).holds
  have dropped : (s.service.dropRequest r.name).Ordered :=
    ⟨ordered.requests.sublist (List.filter_sublist.map _), ordered.serving, ordered.mask0, ordered.mask63, ordered.bottom⟩
  have stillCalled : ∀ q ∈ (s.service.dropRequest r.name).requests, s.Calls q.name := fun q hq =>
    called q (List.mem_filter.mp hq).1
  unfold Service.taken
  dsimp only
  split
  · split
    · exact serviceAgrees_iff.mpr ⟨⟨dropped.requests, dropped.serving, dropped.mask0, dropped.mask63,
        ok.range_of_holds holds⟩, stillCalled, held⟩
    · exact serviceAgrees_iff.mpr ⟨dropped, stillCalled, held⟩
  · refine serviceAgrees_iff.mpr ⟨dropped.serve _, fun q hq => ?_, fun m hm => ?_⟩
    · refine stillCalled q ?_
      simp only [State.withService_service, Service.serve] at hq
      split at hq <;> exact hq
    · rcases Service.mem_serve hm with rfl | hm
      · exact holds
      · exact held m hm

/-- A DONE ends a name in service, which is held (R151 to R153). -/
theorem ServiceAgrees.finished (h : ServiceAgrees s) (ok : RosterOk s) {n : Name} (serving : n ∈ s.service.inService) :
    ServiceAgrees (s.withService (s.service.doneWith s.cfg n)) := by
  obtain ⟨ordered, called, held⟩ := serviceAgrees_iff.mp h
  have fewer : (s.service.finish n).inService.Pairwise (· < ·) := ordered.serving.sublist List.filter_sublist
  have stillHeld : ∀ m ∈ (s.service.finish n).inService, s.Holds m := fun m hm => held m (List.mem_filter.mp hm).1
  unfold Service.doneWith
  dsimp only
  split
  · exact serviceAgrees_iff.mpr ⟨⟨ordered.requests, fewer, ordered.mask0, ordered.mask63,
      ok.range_of_holds (held n serving)⟩, called, stillHeld⟩
  · exact serviceAgrees_iff.mpr ⟨⟨ordered.requests, fewer, ordered.mask0, ordered.mask63, ordered.bottom⟩, called, stillHeld⟩

theorem ServiceAgrees.releaseFreeze (h : ServiceAgrees s) : ServiceAgrees (releaseFreeze s) := by
  obtain ⟨d, entries, _⟩ := releaseFreeze_moved s
  have image {e : Entry} (he : e ∈ s.roster.entries) : e.delayed d ∈ (Machine.releaseFreeze s).roster.entries :=
    entries ▸ List.mem_map_of_mem he
  exact h.carried (by simp) (fun n ⟨e, he, name, state⟩ => ⟨_, image he, name, state⟩)
    fun n ⟨e, he, held⟩ => ⟨_, image he, (Entry.touched_delayed d e).heldName.trans held⟩

theorem Work.serviceAgrees {u : State} (w : Work s u) (ok : RosterOk s) (inStep : ClaimsInStep s) (h : ServiceAgrees s) :
    ServiceAgrees u := by
  cases w with
  | released => exact h.releaseFreeze
  | emptied c off kind detail rests => exact h.emptied (by simp)
  | sent i =>
    cases sent_completeAttempt i s with
    | emptied roster claims service => exact h.emptied service
    | kept entries service mark same claims => exact h.congr service entries
  | runs start run =>
    have known {r : State} (ok : RosterOk r) : Known True False r := ⟨fun _ => ok, False.elim⟩
    rcases start with rfl | rfl
    · exact (run (known ok)).serviceAgrees ok inStep h
    · have good : RosterOk (goodFrame s) := ok.congr (by simp)
      exact (run (known good)).serviceAgrees good (inStep.congr (by simp) (by simp)) (h.congr (by simp) (by simp))
  | recalled sender => exact h.emptied (by simp [takeRecall_values])
  | taken choice => exact h.taken ok choice
  | finished serving => exact h.finished ok serving
  | maskSet mask =>
    obtain ⟨ordered, called, held⟩ := serviceAgrees_iff.mp h
    refine serviceAgrees_iff.mpr ⟨⟨ordered.requests, ordered.serving, ?_, ?_, ordered.bottom⟩, called, held⟩
    · simp [maskOf]
    · simp [maskOf]
  | forgets idle opcode phase =>
    have begun : RosterOk (beginOrder s) := ok.congr rfl
    obtain ⟨t, error, run, eq⟩ := forgetOrder_moves (A := True) (H := False) (s := beginOrder s) fun _ => begun
    exact eq ▸ (run.serviceAgrees begun (inStep.congr rfl rfl) (h.congr rfl rfl)).congr rfl rfl
  | _ => exact h.congr (by simp) (by simp)

end

/-- Settles O16: a name leaves the requests, and service, together with its holder. -/
theorem serviceStaysWithHolders : Obligations.ServiceStaysWithHolders := by
  intro s t ok inStep hs h
  exact invariant_of_works (Q := fun s => RosterOk s ∧ ClaimsInStep s ∧ ServiceAgrees s) (fun _ _ same hs => same ▸ hs)
    (fun _ hs => hs.2.2) (fun _ => IsReset.serviceAgrees)
    (fun _ _ same h => h.congr same.service (by rw [same.roster]))
    (fun _ _ ⟨ok, inStep, hs⟩ w => w.serviceAgrees ok inStep hs) ⟨ok, inStep, hs⟩ h

end Sys2Proof.Machine

/-! Settles O15: the census goes with the roster (07). -/

namespace Sys2Proof.Machine

section

variable {s t : State}

/-- Between events the quiet condition may be met before the census takes note of it: outside GATHERING and OVERDUE it holds
(R129; log 13). -/
def CensusLags (s : State) : Prop := s.census.state ≠ .gathering → s.census.state ≠ .overdue → s.QuietHolds

theorem censusAgrees_iff : CensusAgrees s ↔ (s.QuietHolds ↔ s.census.state ≠ .gathering ∧ s.census.state ≠ .overdue) := by
  rw [CensusAgrees, ← quietCondition_iff, Bool.eq_iff_iff]
  simp

theorem CensusAgrees.lags (h : CensusAgrees s) : CensusLags s :=
  fun gathering overdue => (censusAgrees_iff.mp h).mpr ⟨gathering, overdue⟩

/-- The close of an event tests the quiet condition (R129). -/
theorem censusAgrees_close (h : CensusLags s) : CensusAgrees (close s) := by
  have kept : (close s).QuietHolds ↔ s.QuietHolds := by simp [State.QuietHolds]
  rw [censusAgrees_iff, kept]
  have state : (close s).census.state = (testQuiet s).census.state := rfl
  rw [state]
  unfold testQuiet
  split
  case h_1 gathering =>
    by_cases quiet : s.quietCondition = true
    · simpa [quiet, enterQuiet] using quietCondition_iff.mp quiet
    · simpa [quiet, gathering] using fun holds => quiet (quietCondition_iff.mpr holds)
  case h_2 overdue =>
    by_cases quiet : s.quietCondition = true
    · simpa [quiet, enterQuiet] using quietCondition_iff.mp quiet
    · simpa [quiet, overdue] using fun holds => quiet (quietCondition_iff.mpr holds)
  all_goals
    next state =>
    have outside : s.census.state ≠ .gathering ∧ s.census.state ≠ .overdue := by simp [state]
    exact ⟨fun _ => outside, fun _ => h outside.1 outside.2⟩

theorem CensusLags.congr (h : CensusLags s) (state : t.census.state = s.census.state) (quiet : s.QuietHolds → t.QuietHolds) :
    CensusLags t := by
  rw [CensusLags, state]
  exact fun gathering overdue => quiet (h gathering overdue)

theorem CensusLags.of_same (h : CensusLags s) (state : t.census.state = s.census.state)
    (entries : t.roster.entries = s.roster.entries) (claims : t.naming.claims = s.naming.claims) : CensusLags t :=
  h.congr state (by simp [State.QuietHolds, entries, claims])

theorem CensusAgrees.congr (h : CensusAgrees s) (state : t.census.state = s.census.state)
    (entries : t.roster.entries = s.roster.entries) (claims : t.naming.claims = s.naming.claims) : CensusAgrees t := by
  have quiet : t.QuietHolds ↔ s.QuietHolds := by simp [State.QuietHolds, entries, claims]
  rw [censusAgrees_iff, quiet, state]
  exact censusAgrees_iff.mp h

/-- The census is in GATHERING or OVERDUE. -/
theorem censusLags_of_seeking (h : s.census.state = .gathering ∨ s.census.state = .overdue) : CensusLags s :=
  fun gathering overdue => absurd h (by simp [gathering, overdue])

/-- An entry to HEARD takes a census that counts tools to GATHERING or OVERDUE (R131, R133). -/
theorem censusLags_heardReported (h : s.Counting) : CensusLags (heardReported s) := by
  apply censusLags_of_seeking
  unfold heardReported
  rcases h with h | h | h | h
  · simp [h]
  · cases ret : s.census.returnState <;> simp [h, ret]
  · simp [h]
  · simp [h]

theorem CensusLags.adoptionReported (h : CensusLags s) : CensusLags (adoptionReported s) := by
  unfold Machine.adoptionReported
  split
  case h_1 complete => exact fun _ _ => h (by simp [complete]) (by simp [complete])
  case h_2 quiet => exact fun _ _ => h (by simp [quiet]) (by simp [quiet])
  all_goals exact h

/-- A change of x's entry that leaves it seeking no name. -/
theorem State.QuietHolds.changeEntry {x : Identity} {f : Entry → Entry} (h : s.QuietHolds) (entries : t.roster.entries =
    (changeEntry x f s).roster.entries) (claims : s.naming.claims = [] → t.naming.claims = [])
    (rests : s.EachOf x fun g => (f g).state = g.state ∨ ((f g).state ≠ .heard ∧ (f g).state ≠ .claiming)) : t.QuietHolds := by
  obtain ⟨seekers, none⟩ := h
  refine ⟨fun e he => ?_, claims none⟩
  rw [entries, changeEntry_entries] at he
  obtain ⟨g, hg, rfl⟩ := List.mem_map.mp he
  by_cases hgx : g.identity = x
  · rcases rests g hg hgx with same | rest
    · simpa [hgx, same] using seekers g hg
    · simpa [hgx] using rest
  · simpa [hgx] using seekers g hg

theorem State.QuietHolds.insertEntry {e : Entry} (h : s.QuietHolds) (entries : t.roster.entries =
    (insertEntry e s).roster.entries) (claims : t.naming.claims = s.naming.claims)
    (rests : e.state ≠ .heard ∧ e.state ≠ .claiming) : t.QuietHolds := by
  obtain ⟨seekers, none⟩ := h
  refine ⟨fun g hg => ?_, claims.trans none⟩
  rw [entries, insertEntry_entries, mem_insertBy] at hg
  rcases hg with rfl | hg
  · exact rests
  · exact seekers g hg

/-- Where an entry seeks a name the census is in GATHERING or OVERDUE. -/
theorem CensusLags.seeking (h : CensusLags s) {e : Entry} (he : e ∈ s.roster.entries) (heard : e.state = .heard) :
    s.census.state = .gathering ∨ s.census.state = .overdue := by
  by_contra outside
  rw [not_or] at outside
  exact ((h outside.1 outside.2).1 e he).1 heard

theorem Move.censusLags (m : Move True True s t) (h : CensusLags s) : CensusLags t := by
  cases m with
  | adoptionTold => exact h.adoptionReported
  | touched x f bounds shape =>
    exact h.congr (by simp) fun quiet =>
      quiet.changeEntry rfl (by simp) fun g hg hgx => .inl (shape trivial g hg hgx).state
  | refreshed x holds =>
    exact h.congr (by simp) fun quiet => quiet.changeEntry rfl (by simp) fun _ _ _ => .inr ⟨nofun, nofun⟩
  | silenced x span named =>
    exact h.congr (by simp) fun quiet => quiet.changeEntry rfl (by simp) fun _ _ _ => .inr ⟨nofun, nofun⟩
  | lost x n holds =>
    exact h.congr (by simp) fun quiet =>
      quiet.changeEntry (x := x) (f := Entry.toLost) (by simp) (by simp) fun _ _ _ => .inr ⟨nofun, nofun⟩
  | heard x seeks counting => exact censusLags_heardReported ((counting trivial).congr (by simp))
  | left x n f enters holds counting =>
    exact (censusLags_heardReported ((counting trivial).congr (t := changeEntry x f s) (by simp))).of_same (by simp) (by simp)
      (by simp)
  | freed e seeks =>
    refine h.congr (by simp) fun ⟨seekers, noClaim⟩ => ⟨fun g hg => seekers g (List.mem_filter.mp hg).1, ?_⟩
    simp [noClaim]
  | freedName e n holds =>
    refine h.congr (by simp) fun ⟨seekers, noClaim⟩ => ⟨fun g hg => seekers g (List.mem_filter.mp hg).1, ?_⟩
    simp [noClaim]
  | created k x path revision free absent counting =>
    exact censusLags_heardReported ((counting trivial).congr (by simp))
  | adopted k x n free absent fresh range =>
    exact h.congr (by simp) fun quiet =>
      quiet.insertEntry (e := adoptedEntry k x n s) (by simp) (by simp [insertEntry, State.withEntries]) ⟨nofun, nofun⟩
  | accepted x n present heard fresh range room =>
    obtain ⟨g, hg, hgx⟩ := present
    have seeking := h.seeking hg (heard trivial g hg hgx)
    rw [acceptClaim_eq]
    exact censusLags_of_seeking (by simpa using seeking)
  | named x n seeks fresh range =>
    rw [nameEntry_eq]
    exact h.congr (by simp) fun quiet =>
      quiet.changeEntry (x := x) (f := Entry.named x n (dropClaim x s)) (by simp) (fun none => by simp [none])
        fun _ _ _ => .inr ⟨nofun, nofun⟩
  | withdrawn x d conflict => exact h.of_same (by simp) (by simp) (by simp)
  | asked l kept => exact h.of_same rfl rfl rfl
  | _ => exact h.of_same (by simp) (by simp) (by simp)

theorem Moves.censusLags (run : Moves True True s t) (h : CensusLags s) : CensusLags t :=
  run.keeps (fun m => m.censusLags) h

/-! ### Events -/

theorem censusLags_of_empty (entries : s.roster.entries = []) (claims : s.naming.claims = []) : CensusLags s :=
  fun _ _ => ⟨by simp [entries], claims⟩

theorem CensusLags.sentReport (h : CensusLags s) (f : TxFrame) : CensusLags (sentReport f s) := by
  unfold Machine.sentReport
  split
  · exact h.congr (by simp) fun ⟨seekers, noClaim⟩ => ⟨by simpa using seekers, by simp [objectSentFor, noClaim]⟩
  · exact censusLags_of_empty (by simp [takeRecall_values, Roster.reset]) (by simp [takeRecall_values])
  · exact h
  · exact h
  · split
    · split <;> exact h
    · exact h

theorem CensusLags.completeAttempt (h : CensusLags s) (i : InFlight) : CensusLags (completeAttempt i s) := by
  have ended : CensusLags (endInSuccess s) := h.of_same (by simp) (by simp) (by simp)
  rw [completeAttempt_eq]
  split
  · exact ended
  · exact CensusLags.sentReport (ended.of_same (by simp) (by simp) (by simp)) _

theorem CensusLags.goodFrame (h : CensusLags s) : CensusLags (goodFrame s) := by
  by_cases powering : s.census.state = .powering
  · apply censusLags_of_seeking
    simp [Machine.goodFrame, firstGoodFrame, powering]
  · refine h.of_same ?_ (by simp) (by simp)
    simp [Machine.goodFrame, firstGoodFrame, powering]

/-- A good frame finds the census line-active and leaves it counting tools (R127). -/
theorem counting_goodFrame (active : s.census.state.lineActive = true) : (goodFrame s).Counting := by
  by_cases powering : s.census.state = .powering
  · simp [goodFrame, firstGoodFrame, powering, State.Counting]
  · have kept : (goodFrame s).census.state = s.census.state := by simp [goodFrame, firstGoodFrame, powering]
    rw [State.Counting, kept]
    cases state : s.census.state <;> simp_all [CensusState.lineActive]

theorem CensusAgrees.releaseFreeze (h : CensusAgrees s) : CensusAgrees (releaseFreeze s) := by
  by_cases frozen : s.time.frozen = true
  · obtain ⟨_, roster, naming, census, _⟩ := movedBy_releaseFreeze frozen
    have quiet : (Machine.releaseFreeze s).QuietHolds ↔ s.QuietHolds := by simp [State.QuietHolds, roster, naming]
    rw [censusAgrees_iff, quiet, census]
    exact censusAgrees_iff.mp h
  · rwa [releaseFreeze_of_not_frozen (by simpa using frozen)]

/-- A change of the coupling, which may release a freeze. -/
theorem CensusAgrees.released (h : CensusAgrees s) (released : Released s t) (state : t.census.state = s.census.state) :
    CensusAgrees t := by
  rcases released with same | same
  · exact h.congr state (by rw [same.roster]) (by rw [same.naming])
  · exact h.releaseFreeze.congr (by simpa using state) (by rw [same.roster]) (by rw [same.naming])

/-- A park or a teardown leaves no entry and no claim, and no census that gathers (R136, R137). -/
theorem censusAgrees_of_toolEmpty (empty : ToolEmpty s) (off : s.census.state.lineActive = false) : CensusAgrees s := by
  obtain ⟨roster, claims, _⟩ := empty
  have quiet : s.QuietHolds := ⟨by simp [roster, Roster.reset], claims⟩
  refine censusAgrees_iff.mpr ⟨fun _ => ?_, fun _ => quiet⟩
  cases state : s.census.state <;> simp_all [CensusState.lineActive]

theorem CensusAgrees.censusOverrun (h : CensusAgrees s) : CensusAgrees (censusOverrun s) := by
  unfold Machine.censusOverrun
  split
  case h_1 gathering =>
    have loud : ¬ s.QuietHolds := fun quiet => ((censusAgrees_iff.mp h).mp quiet).1 gathering
    refine censusAgrees_iff.mpr ⟨fun quiet => absurd (by simpa [State.QuietHolds] using quiet) loud, fun outside => ?_⟩
    simp at outside
  case h_2 quiet => exact h.congr (by simp) (by simp) (by simp)
  all_goals exact h

/-- COMPLETE comes from POWERING or QUIET, with no entry that seeks a name (R128, R132). -/
theorem CensusAgrees.enterComplete (h : CensusAgrees s) (outside : s.census.state ≠ .gathering ∧ s.census.state ≠ .overdue) :
    CensusAgrees (enterComplete s) := by
  obtain ⟨seekers, none⟩ := (censusAgrees_iff.mp h).mpr outside
  refine censusAgrees_iff.mpr ⟨fun _ => ?_, fun _ => ⟨?_, ?_⟩⟩
  · simp [Machine.enterComplete, setCensusFlag]
  · simpa using seekers
  · simpa using none

theorem CensusAgrees.clockOut {before : State} {bytes : List Byte} (h : CensusAgrees s) :
    CensusAgrees (clockOut before bytes s) := h

theorem CensusLags.withOrder (h : CensusLags s) (o : Order) : CensusLags (s.withOrder o) := h

theorem censusLags_dispatch {f : RxFrame} (ok : RosterOk s) (h : CensusLags s) (active : s.census.state.lineActive = true)
    (form : formOk s.ownIdentity f = true) : CensusLags (dispatch f (goodFrame s)) := by
  by_cases recalls : ∃ reason, f.body = .recall reason
  · obtain ⟨reason, body⟩ := recalls
    have same : dispatch f (goodFrame s) = takeRecall (senderOf f.key) (goodFrame s) := by
      unfold dispatch
      rw [body]
    rw [same]
    exact censusLags_of_empty (by simp [takeRecall_values, Roster.reset]) (by simp [takeRecall_values])
  · rw [not_exists] at recalls
    have known : Known True True (goodFrame s) := ⟨fun _ => ok.congr (by simp), fun _ => counting_goodFrame active⟩
    exact (dispatch_moves form recalls known).censusLags h.goodFrame

theorem CensusLags.parkOrder (h : CensusLags s) : CensusLags (parkOrder s) := by
  unfold Machine.parkOrder
  split
  · exact censusLags_of_empty (by simp [parkTool, Roster.reset]) (by simp [parkTool])
  · exact h

theorem CensusAgrees.refreshNotices (h : CensusAgrees s) : CensusAgrees (refreshNotices s) := h

theorem parkOvertaking_lineActive (kind : ChangeKind) (detail : Nat) (s : State) :
    (parkOvertaking kind detail s).census.state.lineActive = false := by
  simp [parkOvertaking, parkTool, CensusState.lineActive]

theorem teardown_lineActive (s : State) : (teardown s).census.state.lineActive = false := by
  simp [teardown, CensusState.lineActive]

theorem CensusAgrees.parked (kind : ChangeKind) (detail : Nat) (s : State) :
    CensusAgrees (Machine.refreshNotices (parkOvertaking kind detail s)) :=
  CensusAgrees.refreshNotices
    (censusAgrees_of_toolEmpty (toolEmpty_parkOvertaking kind detail s) (parkOvertaking_lineActive kind detail s))

theorem CensusAgrees.torn (s : State) : CensusAgrees (Machine.refreshNotices (teardown s)) :=
  CensusAgrees.refreshNotices (censusAgrees_of_toolEmpty (toolEmpty_teardown s) (teardown_lineActive s))

/-- The change of an entry of a table that seeks no name, before or after (R125). -/
theorem CensusAgrees.changeEntry (h : CensusAgrees s) {x : Identity} {f : Entry → Entry}
    (before : s.EachOf x fun g => g.state ≠ .heard ∧ g.state ≠ .claiming)
    (after : s.EachOf x fun g => (f g).state ≠ .heard ∧ (f g).state ≠ .claiming) : CensusAgrees (changeEntry x f s) := by
  have quiet : (Machine.changeEntry x f s).QuietHolds ↔ s.QuietHolds := by
    refine ⟨fun ⟨seekers, noClaim⟩ => ⟨fun e he => ?_, by simpa using noClaim⟩, fun quiet => quiet.changeEntry rfl (by simp)
      fun g hg hgx => .inr (after g hg hgx)⟩
    by_cases hex : e.identity = x
    · exact before e he hex
    · exact seekers e (mem_changeEntry_of_other he hex)
  rw [censusAgrees_iff, quiet, show (Machine.changeEntry x f s).census = s.census by simp]
  exact censusAgrees_iff.mp h

/-- A pending claim keeps the census in GATHERING or OVERDUE. -/
theorem CensusAgrees.counting_of_claim (h : CensusAgrees s) {x : Identity} {c : PendingClaim} (claim : s.claimOf x = some c) :
    s.Counting := by
  have loud : ¬ s.QuietHolds := by
    rintro ⟨_, noClaim⟩
    simp [State.claimOf, noClaim] at claim
  by_contra idle
  refine loud (h.lags ?_ ?_)
  · exact fun gathering => idle (.inl gathering)
  · exact fun overdue => idle (.inr (.inr (.inr overdue)))

theorem Effect.censusAgrees (line : LineAgrees s) (supply : SupplyAgrees s) (ok : RosterOk s)
    (h : CensusAgrees s) (act : Effect s t) : CensusAgrees t := by
  have lags := h.lags
  have begun : CensusLags (beginOrder s) := lags
  cases act with
  | mated inputs lock phase =>
    exact h.released ((released_matesMet _).of_pins.trans (sameTool_refreshNotices _)) (by simp)
  | lockEngages phase held =>
    exact h.released ((Released.of_pins (.inr (sameTool_enterCoupled _))).trans (sameTool_refreshNotices _)) (by simp)
  | makeExpires due making =>
    exact h.released ((released_coupleByLock _).of_coupling.trans (sameTool_refreshNotices _)) (by simp)
  | supplyDrops on => exact .parked _ _ _
  | breakExpires due => exact .torn _
  | settleFails due => exact .parked _ _ _
  | holdLimitExpires due => exact .parked _ _ _
  | settles due good =>
    have off : s.census.state.lineActive = false := by
      obtain ⟨active, _⟩ := id supply
      rw [active, supply.ramping_of_settle due]
      rfl
    obtain ⟨roster, claims, _⟩ := supply.toolEmpty off
    refine CensusAgrees.refreshNotices (censusAgrees_iff.mpr ⟨fun _ => ?_, fun _ => ⟨?_, ?_⟩⟩)
    · simp [enterPowering]
    · simp [roster, Roster.reset]
    · simp [claims]
  | sent inFlight => exact censusAgrees_close (lags.completeAttempt _)
  | foreign receiving => exact censusAgrees_close (lags.goodFrame.of_same rfl rfl rfl)
  | received receiving form =>
    exact censusAgrees_close (censusLags_dispatch ok lags (line.lineActive_of_receiving receiving) form)
  | claimExpires entry due => exact censusAgrees_close ((claimExpiry_moves entry fun _ => ok).censusLags lags)
  | @silenceExpires slot e entry due =>
    have named : s.EachOf e.identity fun g => g.state = .named := ok.eachOf (State.mem_of_entryAt entry)
      ((ok.fits (State.mem_of_entryAt entry)).silenceDl_iff.mp (State.isSome_of_toolDue due))
    have silent := h.changeEntry (x := e.identity) (f := Entry.toSilent (s.cfg.loss * ms s.cfg.silence))
      (fun g hg hgx => by simp [named g hg hgx]) fun _ _ _ => ⟨nofun, nofun⟩
    exact CensusAgrees.refreshNotices (silent.congr (by simp) (by simp) (by simp))
  | lossExpires entry due =>
    exact censusAgrees_close ((lossExpiry_moves entry (State.isSome_of_toolDue due) fun _ => ok).censusLags lags)
  | objectionWindowEnds x =>
    refine CensusAgrees.refreshNotices (censusAgrees_iff.mpr ?_)
    simpa [State.QuietHolds] using censusAgrees_iff.mp h
  | holdExpires claim =>
    exact censusAgrees_close
      ((holdExpiry_moves claim ⟨fun _ => ok, fun _ => h.counting_of_claim claim⟩).censusLags lags)
  | firstFrameExpires powering =>
    exact (CensusAgrees.enterComplete (h.congr rfl rfl rfl) (by simp [powering])).refreshNotices
  | quietExpires quiet =>
    exact (CensusAgrees.enterComplete (h.congr rfl rfl rfl) (by simp [quiet])).refreshNotices
  | censusExpires =>
    have cleared : CensusAgrees (s.withCensus { s.census with deadline := none }) := h.congr rfl rfl rfl
    exact cleared.censusOverrun.refreshNotices
  | orderRejected error idle => exact (censusAgrees_close (begun.withOrder _)).clockOut
  | orderSetup idle opcode phase => exact (censusAgrees_close (begun.of_same (by simp) (by simp) (by simp))).clockOut
  | orderPlan idle opcode phase => exact (censusAgrees_close (begun.of_same (by simp) (by simp) (by simp))).clockOut
  | orderClearPlan idle opcode phase => exact (censusAgrees_close (begun.of_same (by simp) (by simp) (by simp))).clockOut
  | orderGo idle opcode phase => exact (censusAgrees_close (begun.of_same (by simp) (by simp) (by simp))).clockOut
  | orderPark idle opcode phase => exact (censusAgrees_close begun.parkOrder).clockOut
  | orderUnpark idle opcode phase => exact (censusAgrees_close (begun.of_same (by simp) (by simp) (by simp))).clockOut
  | orderRecall idle opcode phase => exact (censusAgrees_close (begun.of_same (by simp) (by simp) (by simp))).clockOut
  | orderPing idle opcode phase => exact (censusAgrees_close (begun.of_same (by simp) (by simp) (by simp))).clockOut
  | orderForget idle opcode phase =>
    obtain ⟨u, error, run, eq⟩ := forgetOrder_moves (A := True) (H := True) (s := beginOrder s) fun _ => ok
    exact (censusAgrees_close (eq ▸ (run.censusLags begun).withOrder _)).clockOut
  | _ => exact h.congr (by simp) (by simp) (by simp)

end

/-- Settles O15: an event that may bring or end a seeker tests the quiet condition at its close. -/
theorem censusStaysWithRoster : Obligations.CensusStaysWithRoster := by
  intro s t line supply ok _ hs h
  exact invariant_of_effects (Q := fun s => LineAgrees s ∧ SupplyAgrees s ∧ RosterOk s ∧ CensusAgrees s)
    (fun _ _ same hs => same ▸ hs) (fun _ hs => hs.2.2.2) (fun _ => IsReset.censusAgrees)
    (fun _ _ ⟨line, supply, ok, hs⟩ act => act.censusAgrees line supply ok hs) ⟨line, supply, ok, hs⟩ h

end Sys2Proof.Machine

/-! The stages as a forest (05 section 5.6): every entry is behind the bridges of one chain, and its level counts them. -/

namespace Sys2Proof.Machine

/-- No entry is behind itself (R91). -/
def State.Acyclic (s : State) : Prop := ∀ e ∈ s.roster.entries, s.isBehind e e.identity = false

/-- A chain of bridges leads up from e to b. -/
def State.Under (s : State) : Entry → Entry → Prop := Relation.ReflTransGen fun e b => s.bridgeAbove e = some b

/-- How many bridges an entry is behind. -/
def State.level (s : State) (e : Entry) : Nat := (s.bridgesAbove e).length

section

variable {s : State} {e b c : Entry}

theorem State.bridgeAbove_eq_some_iff (ok : RosterOk s) :
    s.bridgeAbove e = some b ↔ e.path ≠ 0 ∧ b ∈ s.roster.entries ∧ b.heldName = some e.path := by
  rw [State.bridgeAbove, Option.ite_none_left_eq_some, State.holder_eq_some_iff ok]
  simp

theorem State.chainAbove_succ_of_some (h : s.bridgeAbove e = some b) (d : Nat) :
    s.chainAbove (d + 1) e = b :: s.chainAbove d b := by
  simp [State.chainAbove, h]

theorem State.chainAbove_of_none (h : s.bridgeAbove e = none) (d : Nat) : s.chainAbove d e = [] := by
  cases d <;> simp [State.chainAbove, h]

theorem State.mem_chainAbove_succ {d : Nat} (h : b ∈ s.chainAbove d e) : b ∈ s.chainAbove (d + 1) e := by
  induction d generalizing e with
  | zero => simp [State.chainAbove] at h
  | succ d ih =>
    cases above : s.bridgeAbove e with
    | none => simp [State.chainAbove_of_none above] at h
    | some c =>
      rw [State.chainAbove_succ_of_some above, List.mem_cons] at h ⊢
      exact h.imp_right ih

theorem State.mem_chainAbove_mono {d d' : Nat} (le : d ≤ d') (h : b ∈ s.chainAbove d e) : b ∈ s.chainAbove d' e := by
  induction le with
  | refl => exact h
  | step _ ih => exact State.mem_chainAbove_succ ih

theorem State.isBehind_iff {x : Identity} : s.isBehind e x = true ↔ ∃ b ∈ s.bridgesAbove e, b.identity = x := by
  simp [State.isBehind]

/-- A chain names no bridge twice (log 17). -/
theorem State.Acyclic.nodup_chain (acyclic : s.Acyclic) {d : Nat} (capacity : d ≤ Config.rosterCapacity)
    (he : e ∈ s.roster.entries) : (e :: s.chainAbove d e).Nodup := by
  induction d generalizing e with
  | zero => simp [State.chainAbove]
  | succ d ih =>
    have fresh : e ∉ s.chainAbove (d + 1) e := fun mem => by
      have behind := State.isBehind_iff.mpr ⟨e, State.mem_chainAbove_mono capacity mem, rfl⟩
      simp [acyclic e he] at behind
    cases above : s.bridgeAbove e with
    | none => simp [State.chainAbove_of_none above]
    | some c =>
      rw [State.chainAbove_succ_of_some above] at fresh ⊢
      exact List.nodup_cons.mpr ⟨fresh, ih (Nat.le_of_succ_le capacity) (State.mem_entries_of_bridgeAbove above)⟩

theorem RosterOk.length_le (ok : RosterOk s) : s.roster.entries.length ≤ Config.rosterCapacity := by
  obtain ⟨apart, fits⟩ := rosterOk_iff.mp ok
  have slots : (s.roster.entries.map (·.slot)).Nodup :=
    List.pairwise_map.mpr (apart.imp fun ab => (Nat.ne_of_lt ab.slot))
  have within : s.roster.entries.map (·.slot) ⊆ List.range Config.rosterCapacity := by
    intro k hk
    obtain ⟨g, hg, rfl⟩ := List.mem_map.mp hk
    exact List.mem_range.mpr (fits g hg).1
  simpa using (slots.subperm within).length_le

theorem RosterOk.nodup_entries (ok : RosterOk s) : s.roster.entries.Nodup :=
  (rosterOk_iff.mp ok).1.imp fun ab same => ab.identity (congrArg Entry.identity same)

/-- A chain is shorter than the roster's capacity. -/
theorem State.Acyclic.level_lt (acyclic : s.Acyclic) (ok : RosterOk s) (he : e ∈ s.roster.entries) :
    s.level e < Config.rosterCapacity := by
  have within : e :: s.bridgesAbove e ⊆ s.roster.entries := by
    intro g hg
    rcases List.mem_cons.mp hg with rfl | hg
    · exact he
    · exact State.mem_entries_of_mem_bridgesAbove hg
  exact ((acyclic.nodup_chain (Nat.le_refl _) he).subperm within).length_le.trans ok.length_le

theorem State.chainAbove_stable {d : Nat} (h : (s.chainAbove (d + 1) e).length ≤ d) :
    s.chainAbove (d + 1) e = s.chainAbove d e := by
  induction d generalizing e with
  | zero => simpa [State.chainAbove] using h
  | succ d ih =>
    cases above : s.bridgeAbove e with
    | none => simp [State.chainAbove_of_none above]
    | some c =>
      rw [State.chainAbove_succ_of_some above] at h ⊢
      rw [State.chainAbove_succ_of_some above, ih (by simpa using h)]

/-- The bridges above an entry are the one it is directly behind and those above that one. -/
theorem State.Acyclic.bridgesAbove_of_some (acyclic : s.Acyclic) (ok : RosterOk s) (above : s.bridgeAbove e = some b) :
    s.bridgesAbove e = b :: s.bridgesAbove b := by
  have short : (s.bridgesAbove b).length ≤ 47 :=
    Nat.le_of_lt_succ (acyclic.level_lt ok (State.mem_entries_of_bridgeAbove above))
  have stable : s.chainAbove 48 b = s.chainAbove 47 b := State.chainAbove_stable short
  exact (State.chainAbove_succ_of_some above 47).trans (congrArg _ stable.symm)

theorem State.bridgesAbove_of_none (above : s.bridgeAbove e = none) : s.bridgesAbove e = [] :=
  State.chainAbove_of_none above _

theorem State.Acyclic.level_of_some (acyclic : s.Acyclic) (ok : RosterOk s) (above : s.bridgeAbove e = some b) :
    s.level e = s.level b + 1 := by
  simp [State.level, acyclic.bridgesAbove_of_some ok above]

theorem State.Under.level_le (acyclic : s.Acyclic) (ok : RosterOk s) (h : s.Under e b) : s.level b ≤ s.level e := by
  induction h with
  | refl => exact Nat.le_refl _
  | tail _ above ih => exact (Nat.le_succ _).trans ((acyclic.level_of_some ok above).ge.trans ih)

/-- Of the bridges above an entry each has a level of its own. -/
theorem State.Under.eq_of_level (acyclic : s.Acyclic) (ok : RosterOk s) (h : s.Under e b) (h' : s.Under e c)
    (level : s.level b = s.level c) : b = c := by
  induction h using Relation.ReflTransGen.head_induction_on with
  | refl =>
    rcases h'.cases_head with rfl | ⟨d, above, further⟩
    · rfl
    · have lower := State.Under.level_le acyclic ok further
      have := acyclic.level_of_some ok above
      omega
  | @head a d above further ih =>
    rcases h'.cases_head with rfl | ⟨d', above', further'⟩
    · have lower := State.Under.level_le acyclic ok further
      have := acyclic.level_of_some ok above
      omega
    · obtain rfl := Option.some.inj (above.symm.trans above')
      exact ih further'

theorem State.Acyclic.mem_bridgesAbove_iff (acyclic : s.Acyclic) (ok : RosterOk s) :
    b ∈ s.bridgesAbove e ↔ ∃ d, s.bridgeAbove e = some d ∧ s.Under d b := by
  constructor
  · suffices h : ∀ n e, s.level e = n → b ∈ s.bridgesAbove e → ∃ d, s.bridgeAbove e = some d ∧ s.Under d b from
      h _ e rfl
    intro n
    induction n with
    | zero =>
      intro e level mem
      simp [List.length_eq_zero_iff.mp level] at mem
    | succ n ih =>
      intro e level mem
      cases above : s.bridgeAbove e with
      | none => simp [State.bridgesAbove_of_none above] at mem
      | some d =>
        refine ⟨d, rfl, ?_⟩
        rw [acyclic.bridgesAbove_of_some ok above] at mem
        rcases List.mem_cons.mp mem with rfl | mem
        · exact .refl
        · obtain ⟨d', above', further⟩ := ih d (by have := acyclic.level_of_some ok above; omega) mem
          exact .head above' further
  · rintro ⟨d, above, further⟩
    induction further using Relation.ReflTransGen.head_induction_on generalizing e with
    | refl => simp [acyclic.bridgesAbove_of_some ok above]
    | head step _ ih =>
      rw [acyclic.bridgesAbove_of_some ok above]
      exact List.mem_cons_of_mem _ (ih step)

/-- An entry is behind a bridge where it is directly behind it, or behind one that is (R91). -/
theorem State.Acyclic.isBehind_iff (acyclic : s.Acyclic) (ok : RosterOk s) (hb : b ∈ s.roster.entries) :
    s.isBehind e b.identity = true ↔ ∃ d, s.bridgeAbove e = some d ∧ s.Under d b := by
  rw [← acyclic.mem_bridgesAbove_iff ok, State.mem_bridgesAbove_iff ok]
  simp [hb]

theorem State.Under.mem (h : s.Under e b) (he : e ∈ s.roster.entries) : b ∈ s.roster.entries := by
  induction h with
  | refl => exact he
  | tail _ above _ => exact State.mem_entries_of_bridgeAbove above

theorem State.Acyclic.isBehind_of_under (acyclic : s.Acyclic) (ok : RosterOk s) (he : e ∈ s.roster.entries)
    (h : s.Under e b) : e = b ∨ s.isBehind e b.identity = true := by
  rcases h.cases_head with rfl | ⟨d, above, further⟩
  · exact .inl rfl
  · exact .inr ((acyclic.isBehind_iff ok (State.Under.mem h he)).mpr ⟨d, above, further⟩)

/-- Numbers that fall from each entry to the bridge it is directly behind leave no entry behind itself. -/
theorem State.acyclic_of_rank {r : Identity → Nat}
    (falls : ∀ e ∈ s.roster.entries, ∀ b, s.bridgeAbove e = some b → r b.identity < r e.identity) : s.Acyclic := by
  have lower : ∀ d, ∀ e ∈ s.roster.entries, ∀ b ∈ s.chainAbove d e, r b.identity < r e.identity := by
    intro d
    induction d with
    | zero => simp [State.chainAbove]
    | succ d ih =>
      intro e he b hb
      cases above : s.bridgeAbove e with
      | none => simp [State.chainAbove_of_none above] at hb
      | some c =>
        have step := falls e he c above
        rw [State.chainAbove_succ_of_some above, List.mem_cons] at hb
        rcases hb with rfl | hb
        · exact step
        · exact (ih c (State.mem_entries_of_bridgeAbove above) b hb).trans step
  intro e he
  by_contra behind
  obtain ⟨b, hb, same⟩ := State.isBehind_iff.mp (Bool.not_eq_false _ ▸ behind)
  exact absurd (lower _ e he b hb) (by simp [same])

/-- Every nonzero path is the name of a bridge of the roster, and an entry behind a LOST bridge is LOST (R91). -/
def State.PathsOk (s : State) : Prop :=
  ∀ e ∈ s.roster.entries, e.path ≠ 0 → ∃ b ∈ s.roster.entries, b.heldName = some e.path ∧ isBridge b.identity = true
    ∧ (b.state = .lost → e.state = .lost)

theorem stagesOk_iff : StagesOk s ↔ s.PathsOk ∧ s.Acyclic :=
  ⟨fun h => ⟨fun e he => (h e he).1, fun e he => (h e he).2⟩, fun ⟨paths, acyclic⟩ e he => ⟨paths e he, acyclic e he⟩⟩

theorem StagesOk.acyclic (h : StagesOk s) : s.Acyclic := (stagesOk_iff.mp h).2

/-- An entry with a path is directly behind a bridge. -/
theorem StagesOk.exists_above (h : StagesOk s) (ok : RosterOk s) (he : e ∈ s.roster.entries) (path : e.path ≠ 0) :
    ∃ b ∈ s.roster.entries, s.bridgeAbove e = some b ∧ b.heldName = some e.path ∧ isBridge b.identity = true
      ∧ (b.state = .lost → e.state = .lost) := by
  obtain ⟨b, hb, held, bridge, lost⟩ := (h e he).1 path
  exact ⟨b, hb, (State.bridgeAbove_eq_some_iff ok).mpr ⟨path, hb, held⟩, held, bridge, lost⟩

end

end Sys2Proof.Machine

/-! Walks through a stage (R91, R92): the order in which the entries behind a bridge are taken, and that a walk which changes
them as it goes takes them in the order of the state it began in. -/

namespace Sys2Proof.Machine

/-- A walk through the entries behind the name n: each directly behind it is visited, in slot order, and where it leads on the
entries behind its own name follow before the next. -/
def walk (visit : Entry → State → State) (into : Entry → Option Name) : Nat → Name → State → State
  | 0, _, s => s
  | d + 1, n, s => (s.directlyBehind n).foldl
      (fun t e => match into e with
        | some m => walk visit into d m (visit e t)
        | none => visit e t) s

/-- The entries that a walk through the entries behind n visits, in order. -/
def State.stageOrder (s : State) (into : Entry → Option Name) : Nat → Name → List Entry
  | 0, _ => []
  | d + 1, n => (s.directlyBehind n).flatMap fun e => e :: (into e).elim [] (s.stageOrder into d)

/-- The names that a walk through the entries behind n comes to. -/
def State.stageNames (s : State) (into : Entry → Option Name) : Nat → Name → List Name
  | 0, n => [n]
  | d + 1, n => n :: (s.directlyBehind n).flatMap fun e => (into e).elim [] (s.stageNames into d)

/-- An entry leads a walk on to no name but the one it holds. -/
def State.Leads (s : State) (into : Entry → Option Name) : Prop :=
  ∀ e ∈ s.roster.entries, ∀ m, into e = some m → e.heldName = some m

section

variable {s : State} {into : Entry → Option Name} {b e g : Entry} {n m k : Name} {d : Nat}

theorem State.self_mem_stageNames : n ∈ s.stageNames into d n := by
  cases d <;> simp [State.stageNames]

/-- A member of an optional part. -/
theorem Option.mem_elim_nil {α β : Type} {o : Option α} {f : α → List β} {x : β} :
    x ∈ o.elim [] f ↔ ∃ a, o = some a ∧ x ∈ f a := by
  cases o <;> simp

theorem State.mem_stageNames_succ : k ∈ s.stageNames into (d + 1) n ↔
    k = n ∨ ∃ e ∈ s.directlyBehind n, ∃ m, into e = some m ∧ k ∈ s.stageNames into d m := by
  simp [State.stageNames, Option.mem_elim_nil]

theorem State.mem_stageOrder_succ : g ∈ s.stageOrder into (d + 1) n ↔
    ∃ e ∈ s.directlyBehind n, g = e ∨ ∃ m, into e = some m ∧ g ∈ s.stageOrder into d m := by
  simp [State.stageOrder, Option.mem_elim_nil]

/-- What is directly behind a name is directly behind its holder. -/
theorem RosterOk.bridgeAbove_of_directlyBehind (ok : RosterOk s) (hb : b ∈ s.roster.entries) (held : b.heldName = some n)
    (he : e ∈ s.directlyBehind n) : s.bridgeAbove e = some b := by
  obtain ⟨_, path, nonzero⟩ := State.mem_directlyBehind.mp he
  exact (State.bridgeAbove_eq_some_iff ok).mpr ⟨path ▸ nonzero, hb, path ▸ held⟩

theorem State.exists_holder_of_mem_stageNames (ok : RosterOk s) (leads : s.Leads into) (hb : b ∈ s.roster.entries)
    (held : b.heldName = some n) (hk : k ∈ s.stageNames into d n) :
    ∃ c ∈ s.roster.entries, c.heldName = some k ∧ s.Under c b := by
  induction d generalizing n b with
  | zero =>
    obtain rfl : k = n := by simpa [State.stageNames] using hk
    exact ⟨b, hb, held, .refl⟩
  | succ d ih =>
    rcases State.mem_stageNames_succ.mp hk with rfl | ⟨e, he, m, leads', hk⟩
    · exact ⟨b, hb, held, .refl⟩
    · have mem := (State.mem_directlyBehind.mp he).1
      obtain ⟨c, hc, heldc, under⟩ := ih mem (leads e mem m leads') hk
      exact ⟨c, hc, heldc, under.tail (ok.bridgeAbove_of_directlyBehind hb held he)⟩

theorem State.exists_above_of_mem_stageOrder (ok : RosterOk s) (leads : s.Leads into) (hb : b ∈ s.roster.entries)
    (held : b.heldName = some n) (hg : g ∈ s.stageOrder into d n) :
    g ∈ s.roster.entries ∧ g.path ∈ s.stageNames into d n ∧ ∃ c, s.bridgeAbove g = some c ∧ s.Under c b := by
  induction d generalizing n b with
  | zero => simp [State.stageOrder] at hg
  | succ d ih =>
    obtain ⟨e, he, hg⟩ := State.mem_stageOrder_succ.mp hg
    obtain ⟨mem, path, _⟩ := State.mem_directlyBehind.mp he
    have above := ok.bridgeAbove_of_directlyBehind hb held he
    rcases hg with rfl | ⟨m, into', hg⟩
    · exact ⟨mem, path ▸ State.self_mem_stageNames, b, above, .refl⟩
    · obtain ⟨memg, pathg, c, abovec, under⟩ := ih mem (leads e mem m into') hg
      exact ⟨memg, State.mem_stageNames_succ.mpr (.inr ⟨e, he, m, into', pathg⟩), c, abovec, under.tail above⟩

/-- An entry of the walk is under the entry directly behind n whose part of the walk it is in. -/
theorem State.under_of_mem_block (ok : RosterOk s) (leads : s.Leads into) (he : e ∈ s.roster.entries)
    (hg : g ∈ e :: (into e).elim [] (s.stageOrder into d)) : s.Under g e := by
  rcases List.mem_cons.mp hg with rfl | hg
  · exact .refl
  · obtain ⟨m, into', hg⟩ := Option.mem_elim_nil.mp hg
    obtain ⟨_, _, c, above, under⟩ := State.exists_above_of_mem_stageOrder ok leads he (leads e he m into') hg
    exact .head above under

theorem RosterOk.directlyBehind_slots (ok : RosterOk s) (n : Name) :
    (s.directlyBehind n).Pairwise fun e f => e.slot < f.slot :=
  ((rosterOk_iff.mp ok).1.imp fun ab => ab.slot).sublist List.filter_sublist

section

variable (ok : RosterOk s) (acyclic : s.Acyclic) (leads : s.Leads into)

include ok acyclic

theorem State.Acyclic.not_under_above (above : s.bridgeAbove e = some b) : ¬ s.Under b e := by
  intro under
  have lower := State.Under.level_le acyclic ok under
  have := acyclic.level_of_some ok above
  omega

/-- Two entries directly behind one bridge are not under a common entry, unless they are one. -/
theorem State.Acyclic.eq_of_under_siblings {f : Entry} (abovee : s.bridgeAbove e = some b) (abovef : s.bridgeAbove f = some b)
    (undere : s.Under g e) (underf : s.Under g f) : e = f :=
  undere.eq_of_level acyclic ok underf ((acyclic.level_of_some ok abovee).trans (acyclic.level_of_some ok abovef).symm)

include leads

/-- A walk comes to no name twice. -/
theorem State.nodup_stageNames (hb : b ∈ s.roster.entries) (held : b.heldName = some n) : (s.stageNames into d n).Nodup := by
  induction d generalizing n b with
  | zero => simp [State.stageNames]
  | succ d ih =>
    have part {e : Entry} (he : e ∈ s.directlyBehind n) {k : Name} (hk : k ∈ (into e).elim [] (s.stageNames into d)) :
        ∃ c ∈ s.roster.entries, c.heldName = some k ∧ s.Under c e := by
      obtain ⟨m, into', hk⟩ := Option.mem_elim_nil.mp hk
      have mem := (State.mem_directlyBehind.mp he).1
      exact State.exists_holder_of_mem_stageNames ok leads mem (leads e mem m into') hk
    refine List.nodup_cons.mpr ⟨fun hn => ?_, List.nodup_flatMap.mpr ⟨fun e he => ?_, ?_⟩⟩
    · obtain ⟨e, he, hk⟩ := List.mem_flatMap.mp hn
      obtain ⟨c, hc, heldc, under⟩ := part he hk
      obtain rfl := ok.eq_of_heldName hc hb heldc held
      exact acyclic.not_under_above ok (ok.bridgeAbove_of_directlyBehind hb held he) under
    · cases into' : into e with
      | none => simp
      | some m =>
        have mem := (State.mem_directlyBehind.mp he).1
        exact ih mem (leads e mem m into')
    · refine (ok.directlyBehind_slots n).imp_of_mem fun {e f} he hf slots k hke hkf => ?_
      obtain ⟨c, hc, heldc, undere⟩ := part he hke
      obtain ⟨c', hc', heldc', underf⟩ := part hf hkf
      obtain rfl := ok.eq_of_heldName hc hc' heldc heldc'
      have := acyclic.eq_of_under_siblings ok (ok.bridgeAbove_of_directlyBehind hb held he)
        (ok.bridgeAbove_of_directlyBehind hb held hf) undere underf
      exact absurd slots (this ▸ lt_irrefl _)

end

end

end Sys2Proof.Machine

/-! The order of a walk through a stage (R91, R92), and the walk as a visit of each entry in that order. -/

namespace Sys2Proof.Machine

/-- The part of a walk that belongs to an entry directly behind: itself, and what it leads on to. -/
def State.stageBlock (s : State) (into : Entry → Option Name) (d : Nat) (e : Entry) : List Entry :=
  e :: (into e).elim [] (s.stageOrder into d)

/-- The names that an entry directly behind leads a walk on to. -/
def State.blockNames (s : State) (into : Entry → Option Name) (d : Nat) (e : Entry) : List Name :=
  (into e).elim [] (s.stageNames into d)

section

variable {s : State} {into : Entry → Option Name} {b e f g h : Entry} {n m k : Name} {d : Nat}

theorem State.stageOrder_succ : s.stageOrder into (d + 1) n = (s.directlyBehind n).flatMap (s.stageBlock into d) := rfl

theorem State.stageNames_succ : s.stageNames into (d + 1) n = n :: (s.directlyBehind n).flatMap (s.blockNames into d) := rfl

theorem State.path_of_mem_block (ok : RosterOk s) (leads : s.Leads into) (he : e ∈ s.roster.entries)
    (hg : g ∈ s.stageBlock into d e) : g = e ∨ g.path ∈ s.blockNames into d e := by
  refine (List.mem_cons.mp hg).imp_right fun hg => ?_
  obtain ⟨m, into', hg⟩ := Option.mem_elim_nil.mp hg
  exact Option.mem_elim_nil.mpr
    ⟨m, into', (State.exists_above_of_mem_stageOrder ok leads he (leads e he m into') hg).2.1⟩

theorem State.mem_of_mem_block (ok : RosterOk s) (leads : s.Leads into) (he : e ∈ s.roster.entries)
    (hg : g ∈ s.stageBlock into d e) : g ∈ s.roster.entries := by
  rcases List.mem_cons.mp hg with rfl | hg
  · exact he
  · obtain ⟨m, into', hg⟩ := Option.mem_elim_nil.mp hg
    exact (State.exists_above_of_mem_stageOrder ok leads he (leads e he m into') hg).1

/-- What stands ahead in a walk is not behind what follows, and siblings follow in slot order. -/
def State.Precedes (s : State) (g h : Entry) : Prop :=
  s.isBehind g h.identity = false ∧ (g.path = h.path → g.slot < h.slot)

section

variable (ok : RosterOk s) (acyclic : s.Acyclic) (leads : s.Leads into)

include ok acyclic

theorem State.Acyclic.not_isBehind (hh : h ∈ s.roster.entries) (apart : ¬ s.Under g h) :
    s.isBehind g h.identity = false := by
  by_contra behind
  obtain ⟨c, above, under⟩ := (acyclic.isBehind_iff ok hh).mp (Bool.not_eq_false _ ▸ behind)
  exact apart (.head above under)

include leads

/-- Entries of the parts of different siblings are not under one another. -/
theorem State.not_under_of_blocks (hb : b ∈ s.roster.entries) (held : b.heldName = some n) (he : e ∈ s.directlyBehind n)
    (hf : f ∈ s.directlyBehind n) (differ : e ≠ f) (hg : g ∈ s.stageBlock into d e) (hh : h ∈ s.stageBlock into d f) :
    ¬ s.Under g h := by
  intro under
  have undere := State.under_of_mem_block ok leads (State.mem_directlyBehind.mp he).1 hg
  have underf := State.under_of_mem_block ok leads (State.mem_directlyBehind.mp hf).1 hh
  exact differ (acyclic.eq_of_under_siblings ok (ok.bridgeAbove_of_directlyBehind hb held he)
    (ok.bridgeAbove_of_directlyBehind hb held hf) undere (under.trans underf))

/-- What an entry leads on to is under it, and it is not under that. -/
theorem State.not_under_of_sub (he : e ∈ s.roster.entries) (into' : into e = some m) (hg : g ∈ s.stageOrder into d m) :
    ¬ s.Under e g := by
  obtain ⟨_, _, c, above, under⟩ := State.exists_above_of_mem_stageOrder ok leads he (leads e he m into') hg
  exact fun back => acyclic.not_under_above ok above (under.trans back)

theorem State.precedes_stageOrder (hb : b ∈ s.roster.entries) (held : b.heldName = some n) :
    (s.stageOrder into d n).Pairwise s.Precedes := by
  induction d generalizing n b with
  | zero => simp [State.stageOrder]
  | succ d ih =>
    have names := State.nodup_stageNames (d := d + 1) ok acyclic leads hb held
    rw [State.stageNames_succ, List.nodup_cons] at names
    obtain ⟨fresh, distinct⟩ := names
    have deeper {e : Entry} (he : e ∈ s.directlyBehind n) {p : Name} (hp : p ∈ s.blockNames into d e) : p ≠ n := by
      rintro rfl
      exact fresh (List.mem_flatMap.mpr ⟨e, he, hp⟩)
    rw [State.stageOrder_succ]
    refine List.pairwise_flatMap.mpr ⟨fun e he => ?_, ?_⟩
    · obtain ⟨mem, path, _⟩ := State.mem_directlyBehind.mp he
      refine List.pairwise_cons.mpr ⟨fun g hg => ?_, ?_⟩
      · obtain ⟨m, into', hg⟩ := Option.mem_elim_nil.mp hg
        obtain ⟨memg, pathg, _⟩ := State.exists_above_of_mem_stageOrder ok leads mem (leads e mem m into') hg
        refine ⟨acyclic.not_isBehind ok memg (State.not_under_of_sub ok acyclic leads mem into' hg), fun same => ?_⟩
        exact absurd (same.symm.trans path) (deeper he (Option.mem_elim_nil.mpr ⟨m, into', pathg⟩))
      · cases into' : into e with
        | none => simp
        | some m => exact ih mem (leads e mem m into')
    · have slots := ok.directlyBehind_slots (s := s) n
      have apart := (List.nodup_flatMap.mp distinct).2
      refine (slots.and apart).imp_of_mem fun {e f} he hf both g hg h hh => ?_
      obtain ⟨slot, disjoint⟩ := both
      have meme := State.mem_directlyBehind.mp he
      have memf := State.mem_directlyBehind.mp hf
      have differ : e ≠ f := fun same => absurd slot (same ▸ lt_irrefl _)
      refine ⟨acyclic.not_isBehind ok (State.mem_of_mem_block ok leads memf.1 hh)
        (State.not_under_of_blocks ok acyclic leads hb held he hf differ hg hh), fun same => ?_⟩
      rcases State.path_of_mem_block ok leads meme.1 hg with rfl | pathg
      · rcases State.path_of_mem_block ok leads memf.1 hh with rfl | pathh
        · exact slot
        · exact absurd (same.symm.trans meme.2.1) (deeper hf pathh)
      · rcases State.path_of_mem_block ok leads memf.1 hh with rfl | pathh
        · exact absurd (same.trans memf.2.1) (deeper he pathg)
        · exact absurd pathh (disjoint (same ▸ pathg))

theorem State.nodup_stageOrder (hb : b ∈ s.roster.entries) (held : b.heldName = some n) :
    (s.stageOrder into d n).Nodup :=
  (State.precedes_stageOrder ok acyclic leads hb held).imp fun precedes same =>
    absurd (precedes.2 (congrArg _ same)) (same ▸ lt_irrefl _)

/-- Between an entry and one behind it a walk visits only entries behind it. -/
theorem State.contiguous_stageOrder (hb : b ∈ s.roster.entries) (held : b.heldName = some n) {x y z : Entry}
    (taken : [x, y, z].Sublist (s.stageOrder into d n)) (behind : s.Under z x) : s.Under y x := by
  induction d generalizing n b with
  | zero => simp [State.stageOrder] at taken
  | succ d ih =>
    rw [State.stageOrder_succ] at taken
    have siblings : ∀ l : List Entry, l.Sublist (s.directlyBehind n) → [x, y, z].Sublist (l.flatMap (s.stageBlock into d)) →
        s.Under y x := by
      intro l
      induction l with
      | nil => simp
      | cons e rest ihl =>
        intro sub taken
        have he := sub.subset List.mem_cons_self
        have mem := (State.mem_directlyBehind.mp he).1
        have slots := List.pairwise_cons.mp ((ok.directlyBehind_slots n).sublist sub)
        have outside {u : Entry} (hu : u ∈ s.stageBlock into d e) {v : Entry}
            (hv : v ∈ rest.flatMap (s.stageBlock into d)) : ¬ s.Under v u := by
          obtain ⟨f, hf, hv⟩ := List.mem_flatMap.mp hv
          have differ : f ≠ e := fun same => absurd (slots.1 f hf) (same ▸ lt_irrefl _)
          exact State.not_under_of_blocks ok acyclic leads hb held (sub.subset (List.mem_cons_of_mem _ hf)) he differ hv hu
        rw [List.flatMap_cons, List.sublist_append_iff] at taken
        obtain ⟨own, later, split, ownSub, laterSub⟩ := taken
        match own, split with
        | [], split =>
          rw [List.nil_append] at split
          exact ihl ((List.sublist_cons_self e rest).trans sub) (split ▸ laterSub)
        | [u], split =>
          rw [List.cons_append, List.nil_append, List.cons.injEq] at split
          obtain ⟨rfl, rfl⟩ := split
          exact absurd behind (outside (ownSub.subset (by simp)) (laterSub.subset (by simp)))
        | [u, v], split =>
          simp only [List.cons_append, List.nil_append, List.cons.injEq] at split
          obtain ⟨rfl, rfl, rfl⟩ := split
          exact absurd behind (outside (ownSub.subset (by simp)) (laterSub.subset (by simp)))
        | u :: v :: w :: more, split =>
          simp only [List.cons_append, List.cons.injEq] at split
          obtain ⟨rfl, rfl, rfl, _⟩ := split
          have ownSub : [x, y, z].Sublist (s.stageBlock into d e) :=
            (List.sublist_append_left [x, y, z] more).trans ownSub
          rcases List.sublist_cons_iff.mp ownSub with inner | ⟨r, split, inner⟩
          · cases into' : into e with
            | none => simp [into'] at inner
            | some m =>
              rw [into'] at inner
              exact ih mem (leads e mem m into') inner
          · obtain ⟨rfl, rfl⟩ := List.cons.inj split
            exact State.under_of_mem_block ok leads mem (List.mem_cons_of_mem _ (inner.subset List.mem_cons_self))
    exact siblings _ (.refl _) taken

omit leads

/-- A walk that leads on at every bridge above g visits g. -/
theorem State.mem_stageOrder (hb : b ∈ s.roster.entries) (held : b.heldName = some n) (hg : g ∈ s.roster.entries)
    (above : ∃ c, s.bridgeAbove g = some c ∧ s.Under c b) (level : s.level g ≤ s.level b + d)
    (on : ∀ f, (∃ c, s.bridgeAbove g = some c ∧ s.Under c f) → s.Under f b → f ≠ b → into f = f.heldName) :
    g ∈ s.stageOrder into d n := by
  induction d generalizing n b with
  | zero =>
    obtain ⟨c, abovec, under⟩ := above
    have := acyclic.level_of_some ok abovec
    have := State.Under.level_le acyclic ok under
    omega
  | succ d ih =>
    obtain ⟨c, abovec, under⟩ := above
    have directly {f : Entry} (hf : f ∈ s.roster.entries) (abovef : s.bridgeAbove f = some b) :
        f ∈ s.directlyBehind n := by
      obtain ⟨nonzero, _, heldb⟩ := (State.bridgeAbove_eq_some_iff ok).mp abovef
      obtain rfl := Option.some.inj (held.symm.trans heldb)
      exact State.mem_directlyBehind.mpr ⟨hf, rfl, nonzero⟩
    rw [State.mem_stageOrder_succ]
    rcases under.cases_tail with rfl | ⟨f, underf, abovef⟩
    · exact ⟨g, directly hg abovec, .inl rfl⟩
    · have memf := State.Under.mem underf (State.mem_entries_of_bridgeAbove abovec)
      have levelf := acyclic.level_of_some ok abovef
      have differ : f ≠ b := by rintro rfl; omega
      have onf := on f ⟨c, abovec, underf⟩ (.single abovef) differ
      have heldf : ∃ m, f.heldName = some m := by
        rcases underf.cases_tail with rfl | ⟨f', _, abovef'⟩
        · exact ⟨_, ((State.bridgeAbove_eq_some_iff ok).mp abovec).2.2⟩
        · exact ⟨_, ((State.bridgeAbove_eq_some_iff ok).mp abovef').2.2⟩
      obtain ⟨m, heldf⟩ := heldf
      refine ⟨f, directly memf abovef, .inr ⟨m, onf.trans heldf, ?_⟩⟩
      refine ih memf heldf ⟨c, abovec, underf⟩ (by omega) fun f' abovef' underf' _ => ?_
      refine on f' abovef' (underf'.tail abovef) ?_
      rintro rfl
      exact acyclic.not_under_above ok abovef underf'

end

/-! ### The walk and its order -/

/-- A visit leaves every path, and of the lists of entries directly behind names only that of the entry's own path. -/
structure Visits (visit : Entry → State → State) : Prop where
  paths : ∀ e t x p, t.EachOf x (fun g => g.path = p) → (visit e t).EachOf x fun g => g.path = p
  behind : ∀ e t m, e.path ≠ m → t.EachOf e.identity (fun g => g.path = e.path) →
    (visit e t).directlyBehind m = t.directlyBehind m

/-- The entries of t that have the identity of e have its path. -/
def State.KeepsPath (t : State) (e : Entry) : Prop := t.EachOf e.identity fun g => g.path = e.path

section

variable {visit : Entry → State → State} {t : State}

theorem Visits.keepsPath (visits : Visits visit) (l : List Entry) (kept : t.KeepsPath g) :
    (l.foldl (fun t e => visit e t) t).KeepsPath g :=
  List.foldlRecOn (motive := fun t : State => t.KeepsPath g) _ _ kept fun t kept e _ => visits.paths e t _ _ kept

theorem Visits.directlyBehind (visits : Visits visit) {l : List Entry} (kept : ∀ e ∈ l, t.KeepsPath e)
    (other : ∀ e ∈ l, e.path ≠ m) : (l.foldl (fun t e => visit e t) t).directlyBehind m = t.directlyBehind m := by
  induction l generalizing t with
  | nil => rfl
  | cons e l ih =>
    rw [List.foldl_cons, ih (fun g hg => visits.paths e t _ _ (kept g (List.mem_cons_of_mem _ hg)))
      fun g hg => other g (List.mem_cons_of_mem _ hg)]
    exact visits.behind e t m (other e List.mem_cons_self) (kept e List.mem_cons_self)

/-- A walk visits the entries in the order of a state that has the same entries directly behind each name the walk comes to. -/
theorem walk_eq_foldl (visits : Visits visit) (ok : RosterOk s) (acyclic : s.Acyclic) (leads : s.Leads into)
    (hb : b ∈ s.roster.entries) (held : b.heldName = some n)
    (same : ∀ k ∈ s.stageNames into d n, t.directlyBehind k = s.directlyBehind k)
    (kept : ∀ e ∈ s.stageOrder into d n, t.KeepsPath e) :
    walk visit into d n t = (s.stageOrder into d n).foldl (fun t e => visit e t) t := by
  induction d generalizing n b t with
  | zero => rfl
  | succ d ih =>
    have names := State.nodup_stageNames (d := d + 1) ok acyclic leads hb held
    rw [State.stageNames_succ, List.nodup_cons] at names
    obtain ⟨fresh, distinct⟩ := names
    have siblings : ∀ (l : List Entry) (t : State), l.Sublist (s.directlyBehind n) →
        (∀ k ∈ l.flatMap (s.blockNames into d), t.directlyBehind k = s.directlyBehind k) →
        (∀ e ∈ l.flatMap (s.stageBlock into d), t.KeepsPath e) →
        l.foldl (fun t e => match into e with
          | some m => walk visit into d m (visit e t)
          | none => visit e t) t = (l.flatMap (s.stageBlock into d)).foldl (fun t e => visit e t) t := by
      intro l
      induction l with
      | nil => exact fun _ _ _ _ => rfl
      | cons e rest ihl =>
        intro t sub same kept
        have he := sub.subset List.mem_cons_self
        obtain ⟨mem, path, _⟩ := State.mem_directlyBehind.mp he
        rw [List.flatMap_cons] at same kept
        have names : (s.blockNames into d e ++ rest.flatMap (s.blockNames into d)).Nodup := by
          have part := distinct.sublist (sub.flatMap (s.blockNames into d))
          rwa [List.flatMap_cons] at part
        have other {k : Name} (hk : k ∈ s.blockNames into d e ++ rest.flatMap (s.blockNames into d)) : e.path ≠ k := by
          intro same
          refine fresh ((sub.flatMap (s.blockNames into d)).subset ?_)
          rwa [List.flatMap_cons, ← path, same]
        have keptBlock : ∀ g ∈ s.stageBlock into d e, t.KeepsPath g := fun g hg => kept g (List.mem_append_left _ hg)
        have visited : (match into e with
            | some m => walk visit into d m (visit e t)
            | none => visit e t) = (s.stageBlock into d e).foldl (fun t e => visit e t) t := by
          unfold State.stageBlock
          cases into' : into e with
          | none => rfl
          | some m =>
            refine ih mem (leads e mem m into') (fun k hk => ?_) fun g hg => ?_
            · have hk : k ∈ s.blockNames into d e := Option.mem_elim_nil.mpr ⟨m, into', hk⟩
              rw [visits.behind e t k (other (List.mem_append_left _ hk)) (keptBlock e List.mem_cons_self)]
              exact same k (List.mem_append_left _ hk)
            · refine visits.paths e t _ _ (keptBlock g (List.mem_cons_of_mem _ ?_))
              exact Option.mem_elim_nil.mpr ⟨m, into', hg⟩
        rw [List.foldl_cons, visited, List.flatMap_cons, List.foldl_append]
        refine ihl _ ((List.sublist_cons_self e rest).trans sub) (fun k hk => ?_) fun g hg =>
          visits.keepsPath _ (kept g (List.mem_append_right _ hg))
        rw [visits.directlyBehind keptBlock fun g hg => ?_]
        · exact same k (List.mem_append_right _ hk)
        · rcases State.path_of_mem_block ok leads mem hg with rfl | pathg
          · exact other (List.mem_append_right _ hk)
          · rintro rfl
            exact (List.disjoint_of_nodup_append names) pathg hk
    rw [walk, same n State.self_mem_stageNames, State.stageOrder_succ]
    rw [State.stageNames_succ] at same
    exact siblings _ t (.refl _) (fun k hk => same k (List.mem_cons_of_mem _ hk)) kept

end

end

end Sys2Proof.Machine

/-! The removal of a stage (R92, R95): the walk that frees every entry behind a bridge, and what it leaves. -/

namespace Sys2Proof.Machine

/-- A walk of a removal goes on behind a bridge that holds a name (R92). -/
def stageInto (e : Entry) : Option Name := if isBridge e.identity then e.heldName else none

/-- An entry goes with its record: its slot is freed and a name it holds is left (R92, R95, R155). -/
def removeVisit (kind : ChangeKind) (e : Entry) (s : State) : State :=
  match e.heldName with
  | some m => serviceLeft m (freeEntry e (departRecord kind e.path e s))
  | none => freeEntry e (departRecord kind e.path e s)

section

variable {s t : State} {kind : ChangeKind} {e g b : Entry} {n : Name} {x : Identity}

theorem leads_stageInto (s : State) : s.Leads stageInto := by
  intro e _ m h
  unfold stageInto at h
  split at h
  · exact h
  · simp at h

theorem removeBehind_eq_walk (kind : ChangeKind) (d : Nat) (n : Name) (t : State) :
    removeBehind kind d n t = walk (removeVisit kind) stageInto d n t := by
  induction d generalizing n t with
  | zero => rfl
  | succ d ih =>
    rw [removeBehind_succ, walk]
    refine List.foldl_ext _ _ _ fun u e he => ?_
    obtain ⟨_, rfl, _⟩ := State.mem_directlyBehind.mp he
    unfold departEntry leaveStage
    cases held : e.heldName with
    | none =>
      have into : stageInto e = none := by simp [stageInto, held]
      simp [into, removeVisit, held]
    | some m =>
      by_cases bridge : isBridge e.identity = true
      · have into : stageInto e = some m := by simp [stageInto, bridge, held]
        have visit : removeVisit kind e u = serviceLeft m (freeEntry e (departRecord kind e.path e u)) := by
          simp [removeVisit, held]
        simp [into, bridge, ih, visit]
      · have into : stageInto e = none := by simp [stageInto, bridge]
        simp [into, removeVisit, held, bridge]

@[simp] theorem removeVisit_entries (kind : ChangeKind) (e : Entry) (s : State) :
    (removeVisit kind e s).roster.entries = s.roster.entries.filter (fun g => g.identity != e.identity) := by
  unfold removeVisit
  split <;> simp [departRecord]

theorem removeVisit_values (kind : ChangeKind) (e : Entry) (s : State) :
    (removeVisit kind e s).roster.fullLatch = false
      ∧ (removeVisit kind e s).naming.claims = s.naming.claims.filter (fun c => c.claimant != e.identity)
      ∧ (removeVisit kind e s).service = { s.service with
          requests := s.service.requests.filter (fun r => e.heldName != some r.name)
          inService := s.service.inService.filter (fun m => e.heldName != some m) }
      ∧ (removeVisit kind e s).changes = (departRecord kind e.path e s).changes
      ∧ (removeVisit kind e s).time = s.time := by
  unfold removeVisit
  split
  · next m held =>
    have flip (a : Name) : (some m != some a) = (a != m) := by
      rw [bne, bne, Option.some_beq_some, Bool.beq_comm]
    simp only [departRecord, serviceLeft, Service.dropRequest, Service.finish, held, flip]
    simp
  · next held =>
    have flip (a : Name) : ((none : Option Name) != some a) = true := rfl
    simp [departRecord, held, flip]

theorem visits_removeVisit (kind : ChangeKind) : Visits (removeVisit kind) where
  paths e t x p kept g hg same := kept g (List.mem_filter.mp (removeVisit_entries kind e t ▸ hg)).1 same
  behind e t m other kept := by
    unfold State.directlyBehind
    rw [removeVisit_entries, List.filter_filter]
    refine List.filter_congr fun g hg => ?_
    by_cases same : g.identity = e.identity
    · simp [kept g hg same, other]
    · simp [same]

/-- The records of entries that go, in order (R92). -/
def departRecords (kind : ChangeKind) (l : List Entry) (s : State) : State :=
  l.foldl (fun u g => queueRecord kind (g.name.getD 0) (some g.identity) g.path u) s

theorem departRecords_changes_congr (l : List Entry) (changes : t.changes = s.changes) (now : t.time.now = s.time.now) :
    (departRecords kind l t).changes = (departRecords kind l s).changes := by
  induction l generalizing s t with
  | nil => exact changes
  | cons e l ih =>
    exact ih (queueRecord_changes_congr changes now _ _ _ _) (by simpa using now)

/-- What a list of entries leaves that go one after the other. -/
theorem foldl_removeVisit (kind : ChangeKind) (l : List Entry) (s : State) :
    let t := l.foldl (fun t e => removeVisit kind e t) s
    t.roster.entries = s.roster.entries.filter (fun g => !l.any (fun e => e.identity == g.identity))
      ∧ t.roster.fullLatch = (s.roster.fullLatch && l.isEmpty)
      ∧ t.naming.claims = s.naming.claims.filter (fun c => !l.any (fun e => e.identity == c.claimant))
      ∧ t.service = { s.service with
          requests := s.service.requests.filter (fun r => !l.any (fun e => e.heldName == some r.name))
          inService := s.service.inService.filter (fun m => !l.any (fun e => e.heldName == some m)) }
      ∧ t.changes = (departRecords kind l s).changes := by
  induction l generalizing s with
  | nil => simp [departRecords]
  | cons e l ih =>
    obtain ⟨entries, latch, claims, service, changes⟩ := ih (removeVisit kind e s)
    obtain ⟨latch', claims', service', changes', time'⟩ := removeVisit_values kind e s
    have flip (a b : Identity) : (a != b) = !(b == a) := by rw [bne, Bool.beq_comm]
    dsimp only [List.foldl_cons] at entries latch claims service changes ⊢
    refine ⟨?_, ?_, ?_, ?_, ?_⟩
    · rw [entries, removeVisit_entries, List.filter_filter]
      exact List.filter_congr fun g _ => by simp [flip, Bool.and_comm]
    · simp [latch, latch']
    · rw [claims, claims', List.filter_filter]
      exact List.filter_congr fun c _ => by simp [flip, Bool.and_comm]
    · rw [service, service']
      simp only [List.filter_filter, List.any_cons, Bool.not_or, Bool.and_comm, bne]
    · rw [changes]
      exact departRecords_changes_congr l (by rw [changes']; rfl) (by rw [time']; simp)

end

/-! ### The stage of a bridge -/

/-- The entries behind x, which holds n, in the order in which they go (R92). -/
def State.stageList (s : State) (x : Identity) (n : Name) : List Entry :=
  if isBridge x then s.stageOrder stageInto Config.rosterCapacity n else []

/-- t has the entries of s, but x has gone from where a walk through its stage would come. -/
structure State.Without (s : State) (into : Entry → Option Name) (x : Entry) (n : Name) (t : State) : Prop where
  behind : ∀ k ∈ s.stageNames into Config.rosterCapacity n, t.directlyBehind k = s.directlyBehind k
  kept : ∀ g ∈ s.roster.entries, g.identity ≠ x.identity → t.KeepsPath g

section

variable {s t : State} {kind : ChangeKind} {e g b x : Entry} {n : Name}

theorem StagesOk.isBridge_of_above (stages : StagesOk s) (ok : RosterOk s) (he : e ∈ s.roster.entries)
    (above : s.bridgeAbove e = some b) : isBridge b.identity = true := by
  obtain ⟨c, _, above', _, bridge, _⟩ := stages.exists_above ok he ((State.bridgeAbove_eq_some_iff ok).mp above).1
  obtain rfl := Option.some.inj (above'.symm.trans above)
  exact bridge

theorem StagesOk.isBridge_of_under (stages : StagesOk s) (ok : RosterOk s) (he : e ∈ s.roster.entries)
    (above : ∃ c, s.bridgeAbove e = some c ∧ s.Under c b) : isBridge b.identity = true := by
  obtain ⟨c, abovec, under⟩ := above
  rcases under.cases_tail with rfl | ⟨d, underd, aboved⟩
  · exact stages.isBridge_of_above ok he abovec
  · exact stages.isBridge_of_above ok (State.Under.mem underd (State.mem_entries_of_bridgeAbove abovec)) aboved

theorem State.mem_stage {y : Identity} : g ∈ s.stage y ↔ g ∈ s.roster.entries ∧ s.isBehind g y = true := by
  simp [State.stage]

/-- Entries that a walk takes, in its order, are taken in the order of R91 and R92. -/
theorem State.takenInOrder_of_sublist {into : Entry → Option Name} {d : Nat} (ok : RosterOk s) (acyclic : s.Acyclic)
    (leads : s.Leads into) (hx : x ∈ s.roster.entries) (held : x.heldName = some n) {l members : List Entry}
    (taken : l.Sublist (s.stageOrder into d n)) (single : members.Nodup) (same : ∀ g, g ∈ l ↔ g ∈ members) :
    TakenInOrder s members l := by
  have precedes : l.Pairwise s.Precedes := (State.precedes_stageOrder ok acyclic leads hx held).sublist taken
  have distinct : l.Nodup := precedes.imp fun precedes same => absurd (precedes.2 (congrArg _ same)) (same ▸ lt_irrefl _)
  have mem {g : Entry} (hg : g ∈ l) : g ∈ s.roster.entries :=
    (State.exists_above_of_mem_stageOrder ok leads hx held (taken.subset hg)).1
  refine ⟨(List.perm_ext_iff_of_nodup distinct single).mpr same, precedes, fun a b c sub behind => ?_⟩
  have ha : a ∈ s.roster.entries := mem (sub.subset (by simp))
  have hb : b ∈ s.roster.entries := mem (sub.subset (by simp))
  obtain ⟨f, above, under⟩ := (acyclic.isBehind_iff ok ha).mp behind
  have under := State.contiguous_stageOrder ok acyclic leads hx held (sub.trans taken) (.head above under)
  refine (acyclic.isBehind_of_under ok hb under).resolve_left fun same => ?_
  have pair : [a, b].Nodup := distinct.sublist (List.Sublist.trans (by simp) sub)
  simp [same] at pair

section

variable (ok : RosterOk s) (stages : StagesOk s) (hx : x ∈ s.roster.entries) (held : x.heldName = some n)

include ok stages hx held

theorem State.mem_stageList : g ∈ s.stageList x.identity n ↔ g ∈ s.stage x.identity := by
  rw [State.mem_stage, stages.acyclic.isBehind_iff ok hx, State.stageList]
  constructor
  · intro hg
    split at hg
    · obtain ⟨mem, _, above⟩ := State.exists_above_of_mem_stageOrder ok (leads_stageInto s) hx held hg
      exact ⟨mem, above⟩
    · simp at hg
  · rintro ⟨mem, above⟩
    rw [if_pos (stages.isBridge_of_under ok mem above)]
    refine State.mem_stageOrder ok stages.acyclic hx held mem above
      ((stages.acyclic.level_lt ok mem).le.trans (Nat.le_add_left _ _)) fun f abovef _ _ => ?_
    simp [stageInto, stages.isBridge_of_under ok mem abovef]

theorem State.takenInOrder_stageList : TakenInOrder s (s.stage x.identity) (s.stageList x.identity n) := by
  refine State.takenInOrder_of_sublist (into := stageInto) (d := Config.rosterCapacity) ok stages.acyclic
    (leads_stageInto s) hx held ?_ (ok.nodup_entries.sublist List.filter_sublist)
    fun g => State.mem_stageList ok stages hx held
  unfold State.stageList
  split
  · exact .refl _
  · exact List.nil_sublist _

theorem State.identity_ne_of_mem_stageList (hg : g ∈ s.stageList x.identity n) :
    g ∈ s.roster.entries ∧ g.identity ≠ x.identity := by
  obtain ⟨mem, behind⟩ := State.mem_stage.mp ((State.mem_stageList ok stages hx held).mp hg)
  refine ⟨mem, fun same => ?_⟩
  obtain rfl := ok.eq_of_identity mem hx same
  simp [stages.acyclic g mem] at behind

/-- The stage of x goes one entry after the other (R92). -/
theorem leaveStage_eq_foldl (without : s.Without stageInto x n t) :
    leaveStage kind Config.rosterCapacity x.identity n t
      = (s.stageList x.identity n).foldl (fun t e => removeVisit kind e t) t := by
  have kept : ∀ e ∈ s.stageList x.identity n, t.KeepsPath e := fun e he =>
    without.kept e (State.identity_ne_of_mem_stageList ok stages hx held he).1
      (State.identity_ne_of_mem_stageList ok stages hx held he).2
  unfold leaveStage State.stageList at *
  split
  · next bridge =>
    rw [if_pos bridge] at kept
    rw [removeBehind_eq_walk]
    exact walk_eq_foldl (visits_removeVisit kind) ok stages.acyclic (leads_stageInto s) hx held without.behind kept
  · rfl

end

section

variable {into : Entry → Option Name} (ok : RosterOk s) (acyclic : s.Acyclic) (leads : s.Leads into)
  (hx : x ∈ s.roster.entries) (held : x.heldName = some n)

include ok acyclic leads hx held

omit acyclic in
/-- No name of the stage of x is one that x is behind. -/
theorem State.not_mem_stageNames_of_not_behind {p : Name}
    (outside : ∀ b ∈ s.roster.entries, b.heldName = some p → ¬ s.Under b x) :
    p ∉ s.stageNames into Config.rosterCapacity n := by
  intro hp
  obtain ⟨c, hc, heldc, under⟩ := State.exists_holder_of_mem_stageNames ok leads hx held hp
  exact outside c hc heldc under

theorem State.path_not_mem_stageNames : x.path ∉ s.stageNames into Config.rosterCapacity n := by
  refine State.not_mem_stageNames_of_not_behind ok leads hx held fun b hb heldb under => ?_
  have path : x.path ≠ 0 := fun zero => by
    have range := (ok.range_of_holds ⟨b, hb, heldb⟩).1
    rw [zero] at range
    exact absurd range (by decide)
  exact acyclic.not_under_above ok ((State.bridgeAbove_eq_some_iff ok).mpr ⟨path, hb, heldb⟩) under

/-- x has been removed. -/
theorem State.without_of_removed (entries : t.roster.entries = s.roster.entries.filter (fun g => g.identity != x.identity)) :
    s.Without into x n t := by
  refine ⟨fun k hk => ?_, fun g hg _ h hh same => ?_⟩
  · unfold State.directlyBehind
    rw [entries, List.filter_filter]
    refine List.filter_congr fun g hg => ?_
    by_cases same : g.identity = x.identity
    · obtain rfl := ok.eq_of_identity hg hx same
      have other : g.path ≠ k := fun path => State.path_not_mem_stageNames ok acyclic leads hx held (path ▸ hk)
      simp [other]
    · simp [same]
  · rw [ok.eq_of_identity (List.mem_filter.mp (entries ▸ hh)).1 hg same]

/-- x has changed, to a path outside its stage. -/
theorem State.without_of_changed {f : Entry → Entry} (entries : t.roster.entries = (changeEntry x.identity f s).roster.entries)
    (identity : (f x).identity = x.identity)
    (path : (f x).path = x.path ∨ (f x).path ∉ s.stageNames into Config.rosterCapacity n) : s.Without into x n t := by
  have outside : (f x).path ∉ s.stageNames into Config.rosterCapacity n := by
    rcases path with same | outside
    · exact same ▸ State.path_not_mem_stageNames ok acyclic leads hx held
    · exact outside
  refine ⟨fun k hk => ?_, fun g hg other h hh same => ?_⟩
  · unfold State.directlyBehind
    rw [entries, changeEntry_entries, List.filter_map]
    have stays : ∀ g ∈ s.roster.entries.filter (fun e => e.path == k && k != 0),
        (if g.identity == x.identity then f g else g) = g := fun g hg => by
      obtain ⟨hg, pathg⟩ := List.mem_filter.mp hg
      have other : g.identity ≠ x.identity := fun same => by
        obtain rfl := ok.eq_of_identity hg hx same
        simp only [Bool.and_eq_true, beq_iff_eq] at pathg
        exact State.path_not_mem_stageNames ok acyclic leads hx held (pathg.1 ▸ hk)
      simp [other]
    refine Eq.trans (congrArg _ (List.filter_congr fun g hg => ?_)) ((List.map_congr_left stays).trans (List.map_id _))
    by_cases same : g.identity = x.identity
    · obtain rfl := ok.eq_of_identity hg hx same
      have now : (f g).path ≠ k := fun path => outside (path ▸ hk)
      have before : g.path ≠ k := fun path => State.path_not_mem_stageNames ok acyclic leads hx held (path ▸ hk)
      simp [beq_false_of_ne now, beq_false_of_ne before]
    · simp [same]
  · rw [entries, changeEntry_entries, List.mem_map] at hh
    obtain ⟨k, hk, rfl⟩ := hh
    by_cases own : k.identity = x.identity
    · obtain rfl := ok.eq_of_identity hk hx own
      rw [if_pos (by simp)] at same
      exact absurd (same.symm.trans identity) other
    · rw [if_neg (by simpa using own)] at same ⊢
      rw [ok.eq_of_identity hk hg same]

end

end

end Sys2Proof.Machine

/-! What the removal of a stage leaves (R92, R95), and changes of the roster that keep the stages (R91). -/

namespace Sys2Proof.Machine

section

variable {s t u : State} {kind : ChangeKind} {e g b x : Entry} {n : Name}

/-- An entry is in a stage, as the identities tell. -/
theorem RosterOk.any_stage (ok : RosterOk s) (hg : g ∈ s.roster.entries) (y : Identity) :
    (s.stage y).any (fun e => e.identity == g.identity) = s.isBehind g y := by
  rw [Bool.eq_iff_iff, List.any_eq_true]
  constructor
  · rintro ⟨e, he, same⟩
    obtain ⟨mem, behind⟩ := State.mem_stage.mp he
    rwa [← ok.eq_of_identity mem hg (by simpa using same)]
  · exact fun behind => ⟨g, State.mem_stage.mpr ⟨hg, behind⟩, by simp⟩

/-- What goes with x, which held n and has gone from s, in the fields of the state t it has left (R92, R95, R155). -/
theorem leaveStage_values (ok : RosterOk s) (stages : StagesOk s) (hx : x ∈ s.roster.entries) (held : x.heldName = some n)
    (without : s.Without stageInto x n t) :
    let u := leaveStage kind Config.rosterCapacity x.identity n t
    u.roster.entries = t.roster.entries.filter (fun g => !(s.stage x.identity).any (fun e => e.identity == g.identity))
      ∧ u.roster.fullLatch = (t.roster.fullLatch && (s.stage x.identity).isEmpty)
      ∧ u.naming.claims = t.naming.claims.filter (fun c => !(s.stage x.identity).any (fun e => e.identity == c.claimant))
      ∧ u.service = { t.service with
          requests := t.service.requests.filter (fun r => !(s.stage x.identity).any (fun e => e.heldName == some r.name))
          inService := t.service.inService.filter (fun m => !(s.stage x.identity).any (fun e => e.heldName == some m)) }
      ∧ u.changes = (departRecords kind (s.stageList x.identity n) t).changes := by
  obtain ⟨perm, _⟩ := State.takenInOrder_stageList ok stages hx held
  have same (p : Entry → Bool) : (s.stageList x.identity n).any p = (s.stage x.identity).any p := perm.any_eq
  have empty : (s.stageList x.identity n).isEmpty = (s.stage x.identity).isEmpty := by
    rw [Bool.eq_iff_iff, List.isEmpty_iff_length_eq_zero, List.isEmpty_iff_length_eq_zero, perm.length_eq]
  obtain ⟨entries, latch, claims, service, changes⟩ := foldl_removeVisit kind (s.stageList x.identity n) t
  simp only [same, empty] at entries latch claims service
  rw [leaveStage_eq_foldl ok stages hx held without]
  exact ⟨entries, latch, claims, service, changes⟩

/-! ### Ranks -/

/-- The level of an identity's entry. -/
def State.levelOf (s : State) (y : Identity) : Nat := (s.entryOf y).elim 0 s.level

theorem RosterOk.entryOf_eq (ok : RosterOk s) (he : e ∈ s.roster.entries) : s.entryOf e.identity = some e := by
  cases entry : s.entryOf e.identity with
  | none => exact absurd rfl (State.not_mem_of_entryOf_eq_none entry e he)
  | some f =>
    obtain ⟨hf, same⟩ := State.entryOf_eq_some entry
    rw [ok.eq_of_identity hf he same]

theorem RosterOk.levelOf_eq (ok : RosterOk s) (he : e ∈ s.roster.entries) : s.levelOf e.identity = s.level e := by
  simp [State.levelOf, ok.entryOf_eq he]

/-- No entry is directly behind g. -/
def State.Leaf (s : State) (g : Entry) : Prop := ∀ m, g.heldName = some m → ∀ k ∈ s.roster.entries, k.path ≠ m

/-- The entries of u that have others directly behind them stand as they stood in the forest of s. -/
theorem StagesOk.reshaped (stages : StagesOk s) (ok : RosterOk s) (okU : RosterOk u) (paths : u.PathsOk)
    (old : ∀ g ∈ u.roster.entries, u.Leaf g
      ∨ ∃ h ∈ s.roster.entries, h.identity = g.identity ∧ h.path = g.path ∧ h.heldName = g.heldName) : StagesOk u := by
  classical
  refine stagesOk_iff.mpr ⟨paths, State.acyclic_of_rank
    (r := fun y => if ∃ g ∈ u.roster.entries, g.identity = y ∧ u.Leaf g then Config.rosterCapacity else s.levelOf y)
    fun e he b above => ?_⟩
  obtain ⟨nonzero, hb, heldb⟩ := (State.bridgeAbove_eq_some_iff okU).mp above
  have notLeaf : ¬ u.Leaf b := fun leaf => leaf _ heldb e he rfl
  have noLeaf : ¬ ∃ g ∈ u.roster.entries, g.identity = b.identity ∧ u.Leaf g := by
    rintro ⟨g, hg, same, leaf⟩
    exact notLeaf (okU.eq_of_identity hg hb same ▸ leaf)
  obtain ⟨h, hh, identity, _, heldh⟩ := (old b hb).resolve_left notLeaf
  have levelb : s.levelOf b.identity = s.level h := by rw [← identity, ok.levelOf_eq hh]
  rw [if_neg noLeaf, levelb]
  split
  · exact stages.acyclic.level_lt ok hh
  · next inner =>
    have notLeaf : ¬ u.Leaf e := fun leaf => inner ⟨e, he, rfl, leaf⟩
    obtain ⟨k, hk, identityk, path, _⟩ := (old e he).resolve_left notLeaf
    have abovek : s.bridgeAbove k = some h :=
      (State.bridgeAbove_eq_some_iff ok).mpr ⟨path ▸ nonzero, hh, path ▸ heldh.trans heldb⟩
    rw [← identityk, ok.levelOf_eq hk, stages.acyclic.level_of_some ok abovek]
    exact Nat.lt_succ_self _

theorem stagesOk_of_empty (h : s.roster.entries = []) : StagesOk s := by
  simp [StagesOk, h]

theorem StagesOk.congr (stages : StagesOk s) (entries : t.roster.entries = s.roster.entries) : StagesOk t := by
  have above (e : Entry) : t.bridgeAbove e = s.bridgeAbove e := by simp [State.bridgeAbove, State.holder, entries]
  have chain (d : Nat) (e : Entry) : t.chainAbove d e = s.chainAbove d e := by
    induction d generalizing e with
    | zero => rfl
    | succ d ih => simp only [State.chainAbove, above, ih]
  simpa [StagesOk, State.isBehind, State.bridgesAbove, chain, entries] using stages

/-- No entry is behind a name that nobody holds. -/
theorem StagesOk.path_ne (stages : StagesOk s) {m : Name} (range : m ≠ 0) (fresh : ∀ h ∈ s.roster.entries, h.heldName ≠ some m)
    (he : e ∈ s.roster.entries) : e.path ≠ m := by
  rintro rfl
  obtain ⟨b, hb, held, _⟩ := (stages e he).1 range
  exact fresh b hb held

/-- What a new place of an entry asks of the roster: its path is 0 or that of another entry that is a bridge, LOST only where
the entry itself is LOST. -/
def State.Places (s : State) (y : Identity) (e : Entry) : Prop :=
  e.path ≠ 0 → ∃ b ∈ s.roster.entries, b.identity ≠ y ∧ b.heldName = some e.path ∧ isBridge b.identity = true
    ∧ (b.state = .lost → e.state = .lost)

/-- The change of an entry that has nothing behind it, or keeps its name and path. -/
theorem StagesOk.changeEntry (stages : StagesOk s) (ok : RosterOk s) (okU : RosterOk u) {f : Entry → Entry}
    (he : e ∈ s.roster.entries) (entries : u.roster.entries = (changeEntry e.identity f s).roster.entries)
    (identity : (f e).identity = e.identity) (places : s.Places e.identity (f e))
    (name : ((f e).path = e.path ∧ (f e).heldName = e.heldName)
      ∨ (e.heldName = none ∧ ∀ m, (f e).heldName = some m → ∀ h ∈ s.roster.entries, h.heldName ≠ some m))
    (lost : (f e).state = .lost → e.state = .lost) : StagesOk u := by
  have other {g : Entry} (hg : g ∈ s.roster.entries) (differ : g.identity ≠ e.identity) : g ∈ u.roster.entries :=
    entries ▸ mem_changeEntry_of_other hg differ
  have own : f e ∈ u.roster.entries := by
    rw [entries, changeEntry_entries]
    exact List.mem_map.mpr ⟨e, he, by simp⟩
  have cases {g : Entry} (hg : g ∈ u.roster.entries) : g = f e ∨ (g ∈ s.roster.entries ∧ g.identity ≠ e.identity) := by
    rw [entries, changeEntry_entries] at hg
    obtain ⟨k, hk, rfl⟩ := List.mem_map.mp hg
    by_cases same : k.identity = e.identity
    · rw [ok.eq_of_identity hk he same]
      exact .inl (by simp)
    · exact .inr (by simpa [same] using hk)
  have held {b : Entry} (hb : b ∈ s.roster.entries) {m : Name} (heldb : b.heldName = some m) :
      ∃ c ∈ u.roster.entries, c.identity = b.identity ∧ c.heldName = some m ∧ (c.state = .lost → b.state = .lost) := by
    by_cases same : b.identity = e.identity
    · obtain rfl := ok.eq_of_identity hb he same
      rcases name with ⟨_, kept⟩ | ⟨none, _⟩
      · exact ⟨f b, own, identity, kept.trans heldb, lost⟩
      · simp [none] at heldb
    · exact ⟨b, other hb same, rfl, heldb, id⟩
  refine stages.reshaped ok okU (fun g hg nonzero => ?_) fun g hg => ?_
  · rcases cases hg with rfl | ⟨hg, differ⟩
    · obtain ⟨b, hb, differ, heldb, bridge, lostb⟩ := places nonzero
      exact ⟨b, other hb differ, heldb, bridge, lostb⟩
    · obtain ⟨b, hb, heldb, bridge, lostb⟩ := (stages g hg).1 nonzero
      obtain ⟨c, hc, same, heldc, lostc⟩ := held hb heldb
      exact ⟨c, hc, heldc, same ▸ bridge, fun l => lostb (lostc l)⟩
  · rcases cases hg with rfl | ⟨hg, differ⟩
    · rcases name with ⟨path, kept⟩ | ⟨_, fresh⟩
      · exact .inr ⟨e, he, identity.symm, path.symm, kept.symm⟩
      · refine .inl fun m heldm k hk => ?_
        have range : m ≠ 0 := Nat.ne_of_gt (okU.range_of_holds ⟨f e, own, heldm⟩).1
        rcases cases hk with rfl | ⟨hk, _⟩
        · intro path
          obtain ⟨b, hb, _, heldb, _⟩ := places (path ▸ range)
          exact fresh m heldm b hb (path ▸ heldb)
        · exact stages.path_ne range (fresh m heldm) hk
    · exact .inr ⟨g, hg, rfl, rfl, rfl⟩

/-- A new entry that has a name nobody holds, or none. -/
theorem StagesOk.insertEntry (stages : StagesOk s) (ok : RosterOk s) (okU : RosterOk u)
    (entries : u.roster.entries = (insertEntry e s).roster.entries) (places : s.Places e.identity e)
    (fresh : ∀ m, e.heldName = some m → ∀ h ∈ s.roster.entries, h.heldName ≠ some m) : StagesOk u := by
  have cases {g : Entry} : g ∈ u.roster.entries ↔ g = e ∨ g ∈ s.roster.entries := by
    rw [entries, insertEntry_entries, mem_insertBy]
  refine stages.reshaped ok okU (fun g hg nonzero => ?_) fun g hg => ?_
  · rcases cases.mp hg with rfl | hg
    · obtain ⟨b, hb, _, rest⟩ := places nonzero
      exact ⟨b, cases.mpr (.inr hb), rest⟩
    · obtain ⟨b, hb, rest⟩ := (stages g hg).1 nonzero
      exact ⟨b, cases.mpr (.inr hb), rest⟩
  · rcases cases.mp hg with rfl | hg
    · refine .inl fun m heldm k hk => ?_
      have range : m ≠ 0 := Nat.ne_of_gt (okU.range_of_holds ⟨g, hg, heldm⟩).1
      rcases cases.mp hk with rfl | hk
      · intro path
        obtain ⟨b, hb, _, heldb, _⟩ := places (path ▸ range)
        exact fresh m heldm b hb (path ▸ heldb)
      · exact stages.path_ne range (fresh m heldm) hk
    · exact .inr ⟨g, hg, rfl, rfl, rfl⟩

/-- The bridge that an entry outside a stage is directly behind is outside it too. -/
theorem StagesOk.exists_outside (stages : StagesOk s) (ok : RosterOk s) (hx : x ∈ s.roster.entries)
    (hg : g ∈ s.roster.entries) (ahead : s.isBehind g x.identity = false) (nonzero : g.path ≠ 0) :
    ∃ b ∈ s.roster.entries, b.identity ≠ x.identity ∧ s.isBehind b x.identity = false ∧ b.heldName = some g.path
      ∧ isBridge b.identity = true ∧ (b.state = .lost → g.state = .lost) := by
  obtain ⟨b, hb, above, rest⟩ := stages.exists_above ok hg nonzero
  have outside : ¬ s.Under b x := fun under =>
    absurd ((stages.acyclic.isBehind_iff ok hx).mpr ⟨b, above, under⟩) (by simp [ahead])
  refine ⟨b, hb, fun same => outside ?_, stages.acyclic.not_isBehind ok hx outside, rest⟩
  rw [ok.eq_of_identity hb hx same]
  exact .refl

/-- An entry goes with its stage (R92, R95). -/
theorem StagesOk.removed (stages : StagesOk s) (ok : RosterOk s) (okU : RosterOk u) (hx : x ∈ s.roster.entries)
    (entries : ∀ g, g ∈ u.roster.entries ↔
      g ∈ s.roster.entries ∧ g.identity ≠ x.identity ∧ s.isBehind g x.identity = false) : StagesOk u := by
  refine stages.reshaped ok okU (fun g hg nonzero => ?_) fun g hg => ?_
  · obtain ⟨mem, _, ahead⟩ := (entries g).mp hg
    obtain ⟨b, hb, differ, outside, rest⟩ := stages.exists_outside ok hx mem ahead nonzero
    exact ⟨b, (entries b).mpr ⟨hb, differ, outside⟩, rest⟩
  · exact .inr ⟨g, ((entries g).mp hg).1, rfl, rfl, rfl⟩

/-- A holder leaves its name for HEARD, and its stage goes (R79, R80, R88, R92). -/
theorem StagesOk.left (stages : StagesOk s) (ok : RosterOk s) (okU : RosterOk u) (hx : x ∈ s.roster.entries) {y : Entry}
    (entries : ∀ g, g ∈ u.roster.entries ↔
      g = y ∨ (g ∈ s.roster.entries ∧ g.identity ≠ x.identity ∧ s.isBehind g x.identity = false))
    (nameless : y.heldName = none)
    (places : y.path ≠ 0 → ∃ b ∈ s.roster.entries, b.identity ≠ x.identity ∧ s.isBehind b x.identity = false
      ∧ b.heldName = some y.path ∧ isBridge b.identity = true ∧ (b.state = .lost → y.state = .lost)) : StagesOk u := by
  refine stages.reshaped ok okU (fun g hg nonzero => ?_) fun g hg => ?_
  · obtain ⟨b, hb, differ, outside, rest⟩ : ∃ b ∈ s.roster.entries, b.identity ≠ x.identity
        ∧ s.isBehind b x.identity = false ∧ b.heldName = some g.path ∧ isBridge b.identity = true
        ∧ (b.state = .lost → g.state = .lost) := by
      rcases (entries g).mp hg with rfl | ⟨mem, _, ahead⟩
      · exact places nonzero
      · exact stages.exists_outside ok hx mem ahead nonzero
    exact ⟨b, (entries b).mpr (.inr ⟨hb, differ, outside⟩), rest⟩
  · rcases (entries g).mp hg with rfl | ⟨mem, _⟩
    · exact .inl fun m held => by simp [nameless] at held
    · exact .inr ⟨g, mem, rfl, rfl, rfl⟩

end

end Sys2Proof.Machine

/-! The cascade of a loss (R90, R91): the walk that takes every holder behind a bridge to LOST and frees the entries behind it
that seek a name. -/

namespace Sys2Proof.Machine

/-- The entry is NAMED or SILENT. -/
def Entry.alive (e : Entry) : Bool := e.state == .named || e.state == .silent

/-- A cascade goes on behind a bridge that was NAMED or SILENT (R91). -/
def lossInto (e : Entry) : Option Name := if e.alive && isBridge e.identity then some (e.name.getD 0) else none

/-- An entry behind a bridge that went LOST reacts (R91): LOST itself, or gone. -/
def lossVisit (e : Entry) (s : State) : State :=
  match e.state with
  | .lost => s
  | .heard => removeEntry e .stalled (queueRecord .stalled 0 (some e.identity) e.path s)
  | .claiming => removeEntry e .stalled (queueRecord .stalled (e.name.getD 0) (some e.identity) e.path s)
  | .named => loseEntry e e.path s
  | .silent => loseEntry e e.path s

section

variable {s t : State} {e g b x : Entry} {n : Name}

theorem cascadeLoss_eq_walk (d : Nat) (n : Name) (t : State) : cascadeLoss d n t = walk lossVisit lossInto d n t := by
  induction d generalizing n t with
  | zero => rfl
  | succ d ih =>
    rw [cascadeLoss_succ, walk]
    refine List.foldl_ext _ _ _ fun u e he => ?_
    obtain ⟨_, rfl, _⟩ := State.mem_directlyBehind.mp he
    have idle (state : e.alive = false) : lossInto e = none := by simp [lossInto, state]
    have onward (state : e.alive = true) : lossInto e = if isBridge e.identity then some (e.name.getD 0) else none := by
      simp [lossInto, state]
    unfold loseMember lossVisit
    cases state : e.state with
    | lost => simp [idle (by simp [Entry.alive, state])]
    | heard => simp [idle (by simp [Entry.alive, state])]
    | claiming => simp [idle (by simp [Entry.alive, state])]
    | named =>
      rw [onward (by simp [Entry.alive, state])]
      by_cases bridge : isBridge e.identity = true
      · simp only [bridge, if_true, ih]
        rfl
      · simp [bridge]
    | silent =>
      rw [onward (by simp [Entry.alive, state])]
      by_cases bridge : isBridge e.identity = true
      · simp only [bridge, if_true, ih]
        rfl
      · simp [bridge]

theorem Entry.alive_holds (h : e.alive = true) : e.holds = true := by
  simp only [Entry.alive, Bool.or_eq_true, beq_iff_eq] at h
  exact Entry.holds_iff.mpr (by tauto)

theorem leads_lossInto (ok : RosterOk s) : s.Leads lossInto := by
  intro e he m h
  unfold lossInto at h
  split at h
  · next on =>
    rw [← h]
    exact ok.heldName_getD he (Entry.alive_holds (Bool.and_eq_true_iff.mp on).1)
  · simp at h

/-- An entry that seeks a name is removed alone. -/
theorem removeEntry_of_seeking (h : e.seeking = true) (kind : ChangeKind) (s : State) :
    removeEntry e kind s = freeEntry e s := by
  have none : e.heldName = none := by
    rw [Entry.heldName, Entry.holds_eq_not_seeking, h]
    rfl
  unfold removeEntry
  rw [none]

theorem lossVisit_of_seeking (fits : e.Fits) (h : e.seeking = true) (s : State) :
    lossVisit e s = freeEntry e (queueRecord .stalled (e.name.getD 0) (some e.identity) e.path s) := by
  unfold lossVisit
  rcases Entry.seeking_iff.mp h with state | state
  · have nameless : e.name.getD 0 = 0 := by rw [fits.name_eq_none_iff.mpr state]; rfl
    rw [state, nameless]
    exact removeEntry_of_seeking h _ _
  · rw [state]
    exact removeEntry_of_seeking h _ _

theorem lossVisit_of_alive (h : e.alive = true) (s : State) : lossVisit e s = loseEntry e e.path s := by
  unfold lossVisit
  simp only [Entry.alive, Bool.or_eq_true, beq_iff_eq] at h
  rcases h with state | state <;> rw [state]

theorem lossVisit_of_lost (h : e.state = .lost) (s : State) : lossVisit e s = s := by
  unfold lossVisit
  rw [h]

/-- An entry seeks a name, is NAMED or SILENT, or is LOST. -/
theorem Entry.seeking_or_alive_or_lost (e : Entry) :
    (e.seeking = true ∧ e.alive = false) ∨ (e.seeking = false ∧ e.alive = true)
      ∨ (e.seeking = false ∧ e.alive = false ∧ e.state = .lost) := by
  cases state : e.state <;> simp [Entry.seeking, Entry.alive, state]

theorem removeEntry_queueRecord_entries (e : Entry) (kind : ChangeKind) (name : Name) (h : e.seeking = true) (s : State) :
    (removeEntry e kind (queueRecord kind name (some e.identity) e.path s)).roster.entries
      = s.roster.entries.filter (fun g => g.identity != e.identity) := by
  rw [removeEntry_of_seeking h]
  simp

/-- What a visit makes of the entries: the one visited goes, is LOST, or stands. -/
theorem lossVisit_entries (e : Entry) (s : State) : (lossVisit e s).roster.entries =
    if e.seeking then s.roster.entries.filter (fun g => g.identity != e.identity)
    else if e.alive then s.roster.entries.map (fun g => if g.identity == e.identity then g.toLost else g)
    else s.roster.entries := by
  unfold lossVisit
  cases state : e.state with
  | lost => simp [Entry.seeking, Entry.alive, state]
  | heard =>
    have seeks : e.seeking = true := by simp [Entry.seeking, state]
    rw [if_pos seeks]
    exact removeEntry_queueRecord_entries e _ _ seeks s
  | claiming =>
    have seeks : e.seeking = true := by simp [Entry.seeking, state]
    rw [if_pos seeks]
    exact removeEntry_queueRecord_entries e _ _ seeks s
  | named => simp [Entry.seeking, Entry.alive, state]
  | silent => simp [Entry.seeking, Entry.alive, state]

theorem visits_lossVisit : Visits lossVisit where
  paths e t x p kept g hg same := by
    rw [lossVisit_entries] at hg
    split at hg
    · exact kept g (List.mem_filter.mp hg).1 same
    · split at hg
      · obtain ⟨h, hh, rfl⟩ := List.mem_map.mp hg
        split at same
        · next own => rw [if_pos own]; exact kept h hh same
        · next other => rw [if_neg other]; exact kept h hh same
      · exact kept g hg same
  behind e t m other kept := by
    unfold State.directlyBehind
    rw [lossVisit_entries]
    split
    · rw [List.filter_filter]
      refine List.filter_congr fun g hg => ?_
      by_cases same : g.identity = e.identity
      · simp [kept g hg same, other]
      · simp [same]
    · split
      · rw [List.filter_map]
        have path (g : Entry) : (if g.identity == e.identity then g.toLost else g).path = g.path := by split <;> rfl
        simp only [Function.comp_def, path]
        refine (List.map_congr_left fun g hg => ?_).trans (List.map_id _)
        obtain ⟨hg, pathg⟩ := List.mem_filter.mp hg
        have differ : g.identity ≠ e.identity := fun same => by
          simp only [Bool.and_eq_true, beq_iff_eq] at pathg
          exact other ((kept g hg same).symm.trans pathg.1)
        simp [differ]
      · rfl

/-- The record of an entry's reaction to a loss above it (R91). -/
def lossRecord (e : Entry) (s : State) : State :=
  queueRecord (if e.state = .heard ∨ e.state = .claiming then .stalled else .lost) (e.name.getD 0) (some e.identity) e.path s

theorem lossVisit_values (fits : e.Fits) (s : State) :
    (lossVisit e s).roster.fullLatch = (s.roster.fullLatch && !e.seeking)
      ∧ (lossVisit e s).naming.claims = s.naming.claims.filter (fun c => !(e.seeking && e.identity == c.claimant))
      ∧ (lossVisit e s).service = { s.service with
          requests := s.service.requests.filter (fun r => !(e.alive && e.name == some r.name)) }
      ∧ (lossVisit e s).changes = (if e.state = .lost then s else lossRecord e s).changes
      ∧ (lossVisit e s).time = s.time := by
  rcases Entry.seeking_or_alive_or_lost e with ⟨seeking, alive⟩ | ⟨seeking, alive⟩ | ⟨seeking, alive, lost⟩
  · have kind : (if e.state = .heard ∨ e.state = .claiming then ChangeKind.stalled else .lost) = .stalled :=
      if_pos (Entry.seeking_iff.mp seeking)
    have notLost : e.state ≠ .lost := by
      rcases Entry.seeking_iff.mp seeking with state | state <;> simp [state]
    rw [lossVisit_of_seeking fits seeking, seeking, alive, if_neg notLost, lossRecord, kind]
    have flip (c : PendingClaim) : (c.claimant != e.identity) = !(e.identity == c.claimant) := by rw [bne, Bool.beq_comm]
    simp [flip]
  · have quiet : ¬ (e.state = .heard ∨ e.state = .claiming) := by
      rw [← Entry.seeking_iff]
      simp [seeking]
    have notLost : e.state ≠ .lost := fun lost => by simp [Entry.alive, lost] at alive
    obtain ⟨m, hm, _⟩ := fits.exists_name_of_holds (Entry.alive_holds alive)
    have flip (r : Request) : (r.name != m) = !(some m == some r.name) := by
      rw [bne, Option.some_beq_some, Bool.beq_comm]
    rw [lossVisit_of_alive alive, loseEntry_eq, seeking, alive, if_neg notLost, lossRecord, if_neg quiet, hm]
    refine ⟨by simp, by simp, ?_, ?_, by simp⟩
    · simp [serviceLost, Service.dropRequest, flip]
    · exact queueRecord_changes_congr (by simp) (by simp) _ _ _ _
  · rw [lossVisit_of_lost lost, if_pos lost, seeking, alive]
    simp

/-- The records of entries that react to a loss above them, in order (R91). -/
def lossRecords (l : List Entry) (s : State) : State := l.foldl (fun u g => lossRecord g u) s

theorem lossRecords_changes_congr (l : List Entry) (changes : t.changes = s.changes) (now : t.time.now = s.time.now) :
    (lossRecords l t).changes = (lossRecords l s).changes := by
  induction l generalizing s t with
  | nil => exact changes
  | cons e l ih => exact ih (queueRecord_changes_congr changes now _ _ _ _) (by simpa [lossRecord] using now)

/-- What a list of entries leaves that react one after the other to a loss above them. -/
theorem foldl_lossVisit (l : List Entry) (fits : ∀ e ∈ l, e.Fits) (s : State) :
    let t := l.foldl (fun t e => lossVisit e t) s
    t.roster.entries = (s.roster.entries.filter (fun g => !l.any (fun e => e.seeking && e.identity == g.identity))).map
        (fun g => if l.any (fun e => e.alive && e.identity == g.identity) then g.toLost else g)
      ∧ t.roster.fullLatch = (s.roster.fullLatch && !l.any Entry.seeking)
      ∧ t.naming.claims = s.naming.claims.filter (fun c => !l.any (fun e => e.seeking && e.identity == c.claimant))
      ∧ t.service = { s.service with
          requests := s.service.requests.filter (fun r => !l.any (fun e => e.alive && e.name == some r.name)) }
      ∧ t.changes = (lossRecords (l.filter (fun e => e.state != .lost)) s).changes := by
  induction l generalizing s with
  | nil => simp [lossRecords]
  | cons e l ih =>
    obtain ⟨entries, latch, claims, service, changes⟩ := ih (fun g hg => fits g (List.mem_cons_of_mem _ hg)) (lossVisit e s)
    obtain ⟨latch', claims', service', changes', time'⟩ := lossVisit_values (fits e List.mem_cons_self) s
    dsimp only [List.foldl_cons] at entries latch claims service changes ⊢
    refine ⟨?_, ?_, ?_, ?_, ?_⟩
    · rw [entries, lossVisit_entries]
      rcases Entry.seeking_or_alive_or_lost e with ⟨seeking, alive⟩ | ⟨seeking, alive⟩ | ⟨seeking, alive, _⟩
      · have flip (g : Entry) : (g.identity != e.identity) = !(e.identity == g.identity) := by rw [bne, Bool.beq_comm]
        simp [seeking, alive, flip, Bool.and_comm]
      · have identity (g : Entry) : (if g.identity == e.identity then g.toLost else g).identity = g.identity := by
          split <;> rfl
        rw [if_neg (by simp [seeking]), if_pos alive, List.filter_map, List.map_map]
        simp only [Function.comp_def, identity, List.any_cons, seeking, alive, Bool.false_and, Bool.false_or, Bool.true_and]
        refine List.map_congr_left fun g _ => ?_
        by_cases own : g.identity = e.identity
        · simp only [own, beq_self_eq_true, if_true, Bool.true_or]
          split <;> rfl
        · have differ : (e.identity == g.identity) = false := by simpa using fun same => own same.symm
          simp [own, differ]
      · simp [seeking, alive]
    · rw [latch, latch', List.any_cons, Bool.not_or, Bool.and_assoc]
    · rw [claims, claims', List.filter_filter]
      exact List.filter_congr fun c _ => by rw [List.any_cons, Bool.not_or, Bool.and_comm]
    · rw [service, service']
      simp only [List.filter_filter, List.any_cons, Bool.not_or, Bool.and_comm]
    · rw [changes]
      by_cases lost : e.state = .lost
      · rw [if_pos lost] at changes'
        rw [List.filter_cons_of_neg (by simp [lost])]
        exact lossRecords_changes_congr _ changes' (by rw [time'])
      · rw [if_neg lost] at changes'
        rw [List.filter_cons_of_pos (by simp [lost])]
        exact lossRecords_changes_congr _ changes' (by rw [time']; simp [lossRecord])

end

end Sys2Proof.Machine

/-! A whole stage goes LOST (R90, R91). -/

namespace Sys2Proof.Machine

section

variable {s t u : State} {e g b x : Entry} {n : Name}

/-- What is behind a LOST bridge is LOST. -/
theorem StagesOk.lost_of_under (stages : StagesOk s) (ok : RosterOk s) (he : e ∈ s.roster.entries) (under : s.Under e b)
    (lost : b.state = .lost) : e.state = .lost := by
  induction under using Relation.ReflTransGen.head_induction_on with
  | refl => exact lost
  | @head e c above _ ih =>
    obtain ⟨c', _, above', _, _, lost'⟩ := stages.exists_above ok he ((State.bridgeAbove_eq_some_iff ok).mp above).1
    obtain rfl := Option.some.inj (above.symm.trans above')
    exact lost' (ih (State.mem_entries_of_bridgeAbove above))

theorem Entry.alive_of_holds {e : Entry} {m : Name} (held : e.heldName = some m) (living : e.state ≠ .lost) :
    e.alive = true := by
  rcases (Entry.heldName_eq_some_iff.mp held).2 with state | state | state
  · simp [Entry.alive, state]
  · simp [Entry.alive, state]
  · exact absurd state living

/-- The entries that a cascade visits, in order (R91). -/
def State.lossList (s : State) (n : Name) : List Entry := s.stageOrder lossInto Config.rosterCapacity n

section

variable (ok : RosterOk s) (stages : StagesOk s) (hx : x ∈ s.roster.entries) (held : x.heldName = some n)

include ok stages hx held

theorem State.mem_stage_of_mem_lossList (hg : g ∈ s.lossList n) : g ∈ s.stage x.identity := by
  obtain ⟨mem, _, above⟩ := State.exists_above_of_mem_stageOrder ok (leads_lossInto ok) hx held hg
  exact State.mem_stage.mpr ⟨mem, (stages.acyclic.isBehind_iff ok hx).mpr above⟩

/-- A cascade comes to every entry of the stage that is not LOST. -/
theorem State.mem_lossList (hg : g ∈ s.stage x.identity) (living : g.state ≠ .lost) : g ∈ s.lossList n := by
  obtain ⟨mem, behind⟩ := State.mem_stage.mp hg
  have above := (stages.acyclic.isBehind_iff ok hx).mp behind
  refine State.mem_stageOrder ok stages.acyclic hx held mem above
    ((stages.acyclic.level_lt ok mem).le.trans (Nat.le_add_left _ _)) fun f abovef _ _ => ?_
  obtain ⟨c, abovec, under⟩ := abovef
  have memf : f ∈ s.roster.entries := State.Under.mem under (State.mem_entries_of_bridgeAbove abovec)
  have living : f.state ≠ .lost := fun lost => living (stages.lost_of_under ok mem (.head abovec under) lost)
  have heldf : ∃ m, f.heldName = some m := by
    rcases under.cases_tail with rfl | ⟨f', _, abovef'⟩
    · exact ⟨_, ((State.bridgeAbove_eq_some_iff ok).mp abovec).2.2⟩
    · exact ⟨_, ((State.bridgeAbove_eq_some_iff ok).mp abovef').2.2⟩
  obtain ⟨m, heldf⟩ := heldf
  have alive := Entry.alive_of_holds heldf living
  rw [lossInto, alive, stages.isBridge_of_under ok mem ⟨c, abovec, under⟩, ok.heldName_getD memf (Entry.alive_holds alive)]
  rfl

theorem State.takenInOrder_lossList : TakenInOrder s ((s.stage x.identity).filter (fun g => g.state != .lost))
    ((s.lossList n).filter (fun g => g.state != .lost)) := by
  refine State.takenInOrder_of_sublist ok stages.acyclic (leads_lossInto ok) hx held List.filter_sublist
    ((ok.nodup_entries.sublist List.filter_sublist).sublist List.filter_sublist) fun g => ?_
  simp only [List.mem_filter, bne_iff_ne, ne_eq]
  exact and_congr_left fun living => ⟨fun h => State.mem_stage_of_mem_lossList ok stages hx held h,
    fun h => State.mem_lossList ok stages hx held h living⟩

/-- A test that no LOST entry meets is met on the walk as it is in the stage. -/
theorem State.any_lossList (p : Entry → Bool) (living : ∀ g, p g = true → g.state ≠ .lost) :
    (s.lossList n).any p = (s.stage x.identity).any p := by
  rw [Bool.eq_iff_iff, List.any_eq_true, List.any_eq_true]
  constructor
  · rintro ⟨g, hg, test⟩
    exact ⟨g, State.mem_stage_of_mem_lossList ok stages hx held hg, test⟩
  · rintro ⟨g, hg, test⟩
    exact ⟨g, State.mem_lossList ok stages hx held hg (living g test), test⟩

end

theorem RosterOk.any_stage_and (ok : RosterOk s) (hg : g ∈ s.roster.entries) (y : Identity) (p : Entry → Bool) :
    (s.stage y).any (fun e => p e && e.identity == g.identity) = (p g && s.isBehind g y) := by
  rw [Bool.eq_iff_iff, List.any_eq_true, Bool.and_eq_true]
  constructor
  · rintro ⟨e, he, test⟩
    obtain ⟨mem, behind⟩ := State.mem_stage.mp he
    simp only [Bool.and_eq_true, beq_iff_eq] at test
    obtain rfl := ok.eq_of_identity mem hg test.2
    exact ⟨test.1, behind⟩
  · exact fun ⟨test, behind⟩ => ⟨g, State.mem_stage.mpr ⟨hg, behind⟩, by simp [test]⟩

theorem Entry.seeking_living (h : e.seeking = true) : e.state ≠ .lost := by
  rcases Entry.seeking_iff.mp h with state | state <;> simp [state]

theorem Entry.alive_living (h : e.alive = true) : e.state ≠ .lost := fun lost => by simp [Entry.alive, lost] at h

theorem Entry.Fits.toLost_eq (fits : e.Fits) (lost : e.state = .lost) : e.toLost = e := by
  have claim := fits.claimDl_eq_none (by simp [lost])
  have silence := fits.silenceDl_eq_none (by simp [lost])
  have loss := fits.lossDl_eq_none (by simp [lost])
  cases e
  simp_all [Entry.toLost]

section

variable (ok : RosterOk s) (stages : StagesOk s) (hx : x ∈ s.roster.entries) (held : x.heldName = some n)

include ok stages hx held

theorem cascadeLoss_eq_foldl : cascadeLoss Config.rosterCapacity n (loseEntry x 0 s)
    = (s.lossList n).foldl (fun t e => lossVisit e t) (loseEntry x 0 s) := by
  have without : s.Without lossInto x n (loseEntry x 0 s) :=
    State.without_of_changed (f := Entry.toLost) ok stages.acyclic (leads_lossInto ok) hx held (by simp) rfl (.inl rfl)
  rw [cascadeLoss_eq_walk]
  refine walk_eq_foldl visits_lossVisit ok stages.acyclic (leads_lossInto ok) hx held without.behind fun e he => ?_
  obtain ⟨mem, behind⟩ := State.mem_stage.mp (State.mem_stage_of_mem_lossList ok stages hx held he)
  refine without.kept e mem fun same => ?_
  obtain rfl := ok.eq_of_identity mem hx same
  simp [stages.acyclic e mem] at behind

theorem cascadeLoss_entries : (cascadeLoss Config.rosterCapacity n (loseEntry x 0 s)).roster.entries =
    (s.roster.entries.filter (fun g => !(s.isBehind g x.identity && (g.state == .heard || g.state == .claiming)))).map
      (fun g => if g.identity = x.identity ∨ s.isBehind g x.identity = true then g.toLost else g) := by
  have fits : ∀ e ∈ s.lossList n, e.Fits := fun e he =>
    ok.fits (State.mem_stage.mp (State.mem_stage_of_mem_lossList ok stages hx held he)).1
  obtain ⟨entries, _⟩ := foldl_lossVisit (s.lossList n) fits (loseEntry x 0 s)
  have seeking (y : Identity) : (s.lossList n).any (fun e => e.seeking && e.identity == y)
      = (s.stage x.identity).any (fun e => e.seeking && e.identity == y) :=
    State.any_lossList ok stages hx held _ fun g test => Entry.seeking_living (Bool.and_eq_true_iff.mp test).1
  have alive (y : Identity) : (s.lossList n).any (fun e => e.alive && e.identity == y)
      = (s.stage x.identity).any (fun e => e.alive && e.identity == y) :=
    State.any_lossList ok stages hx held _ fun g test => Entry.alive_living (Bool.and_eq_true_iff.mp test).1
  have identity (g : Entry) : (if g.identity == x.identity then g.toLost else g).identity = g.identity := by split <;> rfl
  rw [cascadeLoss_eq_foldl ok stages hx held, entries, loseEntry_entries, List.filter_map, List.map_map]
  simp only [seeking, alive, Function.comp_def, identity]
  have kept : s.roster.entries.filter (fun g => !(s.stage x.identity).any (fun e => e.seeking && e.identity == g.identity))
      = s.roster.entries.filter (fun g => !(s.isBehind g x.identity && (g.state == .heard || g.state == .claiming))) :=
    List.filter_congr fun g hg => by rw [ok.any_stage_and hg, Bool.and_comm, Entry.seeking]
  rw [kept]
  refine List.map_congr_left fun g hg => ?_
  obtain ⟨mem, stays⟩ := List.mem_filter.mp hg
  rw [ok.any_stage_and mem]
  by_cases own : g.identity = x.identity
  · simp only [own, beq_self_eq_true, if_true, true_or]
    split <;> rfl
  · by_cases behind : s.isBehind g x.identity = true
    · have notSeeking : g.seeking = false := by simpa [behind, Entry.seeking] using stays
      rcases Entry.seeking_or_alive_or_lost g with ⟨seeks, _⟩ | ⟨_, living⟩ | ⟨_, dead, lost⟩
      · simp [notSeeking] at seeks
      · simp [own, behind, living]
      · simp [own, behind, dead, (ok.fits mem).toLost_eq lost]
    · simp [own, behind]

/-- The loss of a bridge runs through its stage (R90, R91). -/
theorem stageIsLost_cascadeLoss (inStep : ClaimsInStep s) :
    StageIsLost x.identity n s (cascadeLoss Config.rosterCapacity n (loseEntry x 0 s)) := by
  have fits : ∀ e ∈ s.lossList n, e.Fits := fun e he =>
    ok.fits (State.mem_stage.mp (State.mem_stage_of_mem_lossList ok stages hx held he)).1
  obtain ⟨_, latch, claims, service, changes⟩ := foldl_lossVisit (s.lossList n) fits (loseEntry x 0 s)
  have name : x.name.getD 0 = n := by rw [(Entry.holds_of_heldName held).2]; rfl
  rw [← cascadeLoss_eq_foldl ok stages hx held] at latch claims service changes
  have seeks : (s.lossList n).any Entry.seeking = (s.stage x.identity).any Entry.seeking :=
    State.any_lossList ok stages hx held _ fun g => Entry.seeking_living
  refine ⟨⟨_, State.takenInOrder_lossList ok stages hx held, ?_⟩, ?_, ?_, ?_⟩
  · rw [changes]
    refine lossRecords_changes_congr _ ?_ (by simp)
    rw [loseEntry_eq, name]
    exact queueRecord_changes_congr (by simp) (by simp) _ _ _ _
  · rw [seeks] at latch
    have entries := cascadeLoss_entries ok stages hx held
    have asked : (cascadeLoss Config.rosterCapacity n (loseEntry x 0 s)).roster.asked = s.roster.asked := by simp
    generalize cascadeLoss Config.rosterCapacity n (loseEntry x 0 s) = t at *
    cases roster : t.roster
    rw [roster] at latch entries asked
    simp only [loseEntry_frame] at latch
    subst latch entries asked
    rfl
  · have away : (loseEntry x 0 s).service = { s.service with requests := s.service.requests.filter (fun r => r.name != n) } := by
      rw [loseEntry_eq, name]
      simp [serviceLost, Service.dropRequest]
    have called (m : Name) : (s.lossList n).any (fun e => e.alive && e.name == some m)
        = (s.stage x.identity).any (fun e => e.alive && e.name == some m) :=
      State.any_lossList ok stages hx held _ fun g test => Entry.alive_living (Bool.and_eq_true_iff.mp test).1
    rw [service, away]
    simp only [called, List.filter_filter, Bool.and_comm (Bool.not _)]
    rfl
  · have plan : (cascadeLoss Config.rosterCapacity n (loseEntry x 0 s)).naming.plan = s.naming.plan := by simp
    have tickets : (cascadeLoss Config.rosterCapacity n (loseEntry x 0 s)).naming.tickets = s.naming.tickets := by simp
    have dropped : s.naming.claims.filter (fun c => !(s.lossList n).any (fun e => e.seeking && e.identity == c.claimant))
        = s.naming.claims.filter (fun c => !(s.stage x.identity).any (fun g => g.identity == c.claimant)) := by
      obtain ⟨_, _, claimed, _⟩ := inStep
      refine List.filter_congr fun c hc => ?_
      obtain ⟨g, hg, identity, claims⟩ := claimed c hc
      have seeking : g.seeking = true := Entry.seeking_iff.mpr (.inr (Entry.claimedName_eq_some_iff.mp claims).2)
      rw [State.any_lossList ok stages hx held _ fun g test => Entry.seeking_living (Bool.and_eq_true_iff.mp test).1,
        ← identity, ok.any_stage_and hg, ok.any_stage hg, seeking, Bool.true_and]
    rw [show (loseEntry x 0 s).naming = s.naming by simp, dropped] at claims
    generalize cascadeLoss Config.rosterCapacity n (loseEntry x 0 s) = t at *
    cases naming : t.naming
    rw [naming] at claims plan tickets
    subst claims plan tickets
    rfl

end

end

end Sys2Proof.Machine

/-! What leaves with a name: the values that the leaving of a name and the removal of a holder give every block (R79, R80, R88,
R92, R95, R155), and the places that an entry may take outside a stage. -/

namespace Sys2Proof.Machine

/-- A place outside the stage of x: 0, or the name of a bridge that is not LOST and is neither x nor behind x (R76, R91). -/
def State.Room (s : State) (x : Identity) (p : Name) : Prop :=
  p ≠ 0 → ∃ b ∈ s.roster.entries, b.identity ≠ x ∧ s.isBehind b x = false ∧ b.heldName = some p
    ∧ isBridge b.identity = true ∧ b.state ≠ .lost

section

variable {s t first : State} {kind : ChangeKind} {e g b x : Entry} {n p : Name} {f : Entry → Entry}

theorem State.Room.places {y : Identity} (room : s.Room y e.path) : s.Places y e := by
  intro nonzero
  obtain ⟨b, hb, differ, _, held, bridge, living⟩ := room nonzero
  exact ⟨b, hb, differ, held, bridge, fun lost => absurd lost living⟩

/-- What the path check asks (R76). -/
theorem pathOk_iff {y : Identity} : pathOk y p s = true ↔
    p = 0 ∨ ∃ b, s.holder p = some b ∧ (b.state = .named ∨ b.state = .silent) ∧ isBridge b.identity = true
      ∧ b.identity ≠ y ∧ s.isBehind b y = false := by
  unfold pathOk
  rw [Bool.or_eq_true, beq_iff_eq]
  refine or_congr_right ?_
  split
  · next b hb =>
    simp only [hb, Option.some.injEq, exists_eq_left', Bool.and_eq_true, Bool.or_eq_true, beq_iff_eq, bne_iff_ne, ne_eq,
      Bool.not_eq_true', and_assoc]
  · next none => simp [none]

/-- A path that passes the check is a place outside the announcer's stage (R76). -/
theorem State.room_of_pathOk {y : Identity} (passes : pathOk y p s = true) : s.Room y p := by
  intro nonzero
  obtain ⟨b, hb, state, bridge, differ, ahead⟩ := (pathOk_iff.mp passes).resolve_left nonzero
  obtain ⟨mem, held⟩ := State.holder_eq_some hb
  exact ⟨b, mem, differ, ahead, held, bridge, fun lost => by simp [lost] at state⟩

/-- An entry that is not LOST behind a LOST bridge has its place outside its own stage. -/
theorem StagesOk.room (stages : StagesOk s) (ok : RosterOk s) (he : e ∈ s.roster.entries)
    (living : e.state = .lost → s.behindLost e = false) : s.Room e.identity e.path := by
  intro nonzero
  have ahead : s.isBehind e e.identity = false := stages.acyclic e he
  obtain ⟨b, hb, differ, outside, held, bridge, lost⟩ := stages.exists_outside ok he he ahead nonzero
  refine ⟨b, hb, differ, outside, held, bridge, fun lostb => ?_⟩
  have above : s.bridgeAbove e = some b := (State.bridgeAbove_eq_some_iff ok).mpr ⟨nonzero, hb, held⟩
  have dead := living (lost lostb)
  simp [State.behindLost, above, lostb] at dead

/-- A place outside the stage of x is not the name of a bridge of it. -/
theorem State.Room.not_mem_stageNames (room : s.Room x.identity p) (ok : RosterOk s) (stages : StagesOk s)
    (hx : x ∈ s.roster.entries) (held : x.heldName = some n) :
    p ∉ s.stageNames stageInto Config.rosterCapacity n := by
  refine State.not_mem_stageNames_of_not_behind ok (leads_stageInto s) hx held fun c hc heldc under => ?_
  have nonzero : p ≠ 0 := Nat.ne_of_gt (ok.range_of_holds ⟨c, hc, heldc⟩).1
  obtain ⟨b, hb, differ, ahead, heldb, _⟩ := room nonzero
  obtain rfl := ok.eq_of_heldName hc hb heldc heldb
  rcases stages.acyclic.isBehind_of_under ok hc under with rfl | behind
  · exact differ rfl
  · simp [behind] at ahead

@[simp] theorem serviceLeft_service (n : Name) (s : State) : (serviceLeft n s).service = { s.service with
    requests := s.service.requests.filter (fun r => r.name != n)
    inService := s.service.inService.filter (fun m => m != n) } := rfl

theorem State.Without.congr {into : Entry → Option Name} {u : State} (h : s.Without into x n t)
    (entries : u.roster.entries = t.roster.entries) : s.Without into x n u := by
  obtain ⟨behind, kept⟩ := h
  exact ⟨fun k hk => by rw [← behind k hk]; simp [State.directlyBehind, entries],
    fun g hg other h hh => kept g hg other h (entries ▸ hh)⟩

/-- What goes with the name n that x has left, in the fields of the state t that x has gone from, or changed in. -/
theorem leaveName_values (ok : RosterOk s) (stages : StagesOk s) (hx : x ∈ s.roster.entries) (held : x.heldName = some n)
    (without : s.Without stageInto x n t) :
    let u := leaveName x.identity n kind t
    u.roster.entries = t.roster.entries.filter (fun g => !(s.stage x.identity).any (fun e => e.identity == g.identity))
      ∧ u.roster.fullLatch = (t.roster.fullLatch && (s.stage x.identity).isEmpty)
      ∧ u.naming.claims = t.naming.claims.filter (fun c => !(s.stage x.identity).any (fun e => e.identity == c.claimant))
      ∧ u.service = { t.service with
          requests := t.service.requests.filter
            (fun r => r.name != n && !(s.stage x.identity).any (fun e => e.heldName == some r.name))
          inService := t.service.inService.filter
            (fun m => m != n && !(s.stage x.identity).any (fun e => e.heldName == some m)) }
      ∧ u.changes = (departRecords kind (s.stageList x.identity n) t).changes := by
  obtain ⟨entries, latch, claims, service, changes⟩ :=
    leaveStage_values (kind := kind) ok stages hx held (without.congr (u := serviceLeft n t) (by simp))
  dsimp only
  rw [leaveName_eq]
  refine ⟨by simpa using entries, by simpa using latch, by simpa using claims, ?_, ?_⟩
  · rw [service]
    simp [List.filter_filter, Bool.and_comm]
  · rw [changes]
    exact departRecords_changes_congr _ (by simp) (by simp)

/-- x has gone, or changed, and its stage goes with the name it has left. -/
theorem stageLeaves_leaveName (ok : RosterOk s) (stages : StagesOk s) (hx : x ∈ s.roster.entries)
    (held : x.heldName = some n) (without : s.Without stageInto x n t) (service : t.service = s.service)
    (claims : t.naming.claims = s.naming.claims) (plan : t.naming.plan = s.naming.plan)
    (changes : t.changes = first.changes) (now : t.time.now = first.time.now) :
    StageLeaves kind x.identity n s first (leaveName x.identity n kind t) := by
  obtain ⟨_, _, claims', service', changes'⟩ := leaveName_values (kind := kind) ok stages hx held without
  refine ⟨⟨_, State.takenInOrder_stageList ok stages hx held, ?_⟩, ?_, ?_⟩
  · rw [changes']
    exact departRecords_changes_congr _ changes now
  · rw [service', service]
  · rw [claims] at claims'
    have plan' : (leaveName x.identity n kind t).naming.plan = t.naming.plan := by simp
    generalize leaveName x.identity n kind t = u at *
    cases naming : u.naming
    rw [naming] at claims' plan'
    subst claims' plan'
    simp [plan]

/-- The entries once a holder has changed in its place and its stage has gone (R79, R80, R88, R92). -/
theorem leaveName_entries (ok : RosterOk s) (stages : StagesOk s) (hx : x ∈ s.roster.entries) (held : x.heldName = some n)
    (without : s.Without stageInto x n t) (entries : t.roster.entries = (changeEntry x.identity f s).roster.entries)
    (identity : (f x).identity = x.identity) : (leaveName x.identity n kind t).roster.entries =
      (s.roster.entries.filter (fun g => !s.isBehind g x.identity)).map
        (fun g => if g.identity = x.identity then f g else g) := by
  obtain ⟨left, _⟩ := leaveName_values (kind := kind) ok stages hx held without
  rw [left, entries, changeEntry_entries, List.filter_map]
  have same : ∀ g ∈ s.roster.entries, (if g.identity == x.identity then f g else g).identity = g.identity := fun g hg => by
    by_cases own : g.identity = x.identity
    · rw [ok.eq_of_identity hg hx own]; simpa using identity
    · simp [own]
  refine Eq.trans (congrArg _ (List.filter_congr fun g hg => ?_)) (List.map_congr_left fun g _ => by simp)
  rw [Function.comp_apply, same g hg, ok.any_stage hg]

theorem State.without_of_room (ok : RosterOk s) (stages : StagesOk s) (hx : x ∈ s.roster.entries)
    (held : x.heldName = some n) (entries : t.roster.entries = (changeEntry x.identity f s).roster.entries)
    (identity : (f x).identity = x.identity) (room : s.Room x.identity (f x).path) : s.Without stageInto x n t :=
  State.without_of_changed ok stages.acyclic (leads_stageInto s) hx held entries identity
    (.inr (room.not_mem_stageNames ok stages hx held))

/-- A holder that has changed in its place for one that keeps no name, and whose stage has gone. -/
theorem StagesOk.leaveName (stages : StagesOk s) (ok : RosterOk s) (hx : x ∈ s.roster.entries) (held : x.heldName = some n)
    (okU : RosterOk (Machine.leaveName x.identity n kind t))
    (entries : t.roster.entries = (Machine.changeEntry x.identity f s).roster.entries) (identity : (f x).identity = x.identity)
    (nameless : (f x).heldName = none) (room : s.Room x.identity (f x).path) :
    StagesOk (Machine.leaveName x.identity n kind t) := by
  have left := leaveName_entries (kind := kind) ok stages hx held
    (State.without_of_room ok stages hx held entries identity room) entries identity
  refine stages.left ok okU hx (y := f x) (fun g => ?_) nameless fun nonzero => ?_
  · rw [left, List.mem_map]
    constructor
    · rintro ⟨h, hh, rfl⟩
      obtain ⟨mem, ahead⟩ := List.mem_filter.mp hh
      by_cases own : h.identity = x.identity
      · rw [if_pos own, ok.eq_of_identity mem hx own]
        exact .inl rfl
      · rw [if_neg own]
        exact .inr ⟨mem, own, by simpa using ahead⟩
    · have ahead : s.isBehind x x.identity = false := stages.acyclic x hx
      rintro (rfl | ⟨mem, other, ahead⟩)
      · exact ⟨x, List.mem_filter.mpr ⟨hx, by simp [ahead]⟩, by simp⟩
      · exact ⟨g, List.mem_filter.mpr ⟨mem, by simp [ahead]⟩, by simp [other]⟩
  · obtain ⟨b, hb, differ, ahead, held, bridge, living⟩ := room nonzero
    exact ⟨b, hb, differ, ahead, held, bridge, fun lost => absurd lost living⟩

/-! ### Removal -/

theorem removeEntry_of_held (held : e.heldName = some n) (kind : ChangeKind) (s : State) :
    removeEntry e kind s = leaveName e.identity n kind (freeEntry e s) := by
  unfold removeEntry
  rw [held]

theorem removeEntry_of_nameless (held : e.heldName = none) (kind : ChangeKind) (s : State) :
    removeEntry e kind s = freeEntry e s := by
  unfold removeEntry
  rw [held]

theorem State.without_freeEntry (ok : RosterOk s) (stages : StagesOk s) (hx : x ∈ s.roster.entries)
    (held : x.heldName = some n) (entries : t.roster.entries = s.roster.entries) :
    s.Without stageInto x n (freeEntry x t) :=
  State.without_of_removed ok stages.acyclic (leads_stageInto s) hx held (by simp [entries])

/-- Nothing is behind an entry that holds no name. -/
theorem StagesOk.isBehind_of_nameless (stages : StagesOk s) (ok : RosterOk s) (hx : x ∈ s.roster.entries)
    (held : x.heldName = none) : s.isBehind g x.identity = false := by
  rw [Bool.eq_false_iff]
  intro behind
  obtain ⟨c, above, under⟩ := (stages.acyclic.isBehind_iff ok hx).mp behind
  have holds : x.heldName ≠ none := by
    rcases under.cases_tail with rfl | ⟨d, _, aboved⟩
    · simp [((State.bridgeAbove_eq_some_iff ok).mp above).2.2]
    · simp [((State.bridgeAbove_eq_some_iff ok).mp aboved).2.2]
  exact holds held

/-- The entries once one has been removed (R95). -/
theorem removeEntry_entries (ok : RosterOk s) (stages : StagesOk s) (hx : x ∈ s.roster.entries)
    (entries : t.roster.entries = s.roster.entries) : (removeEntry x kind t).roster.entries =
      s.roster.entries.filter (fun g => g.identity != x.identity && !s.isBehind g x.identity) := by
  cases held : x.heldName with
  | none =>
    simp only [removeEntry_of_nameless held, freeEntry_roster, entries, stages.isBehind_of_nameless ok hx held]
    simp
  | some n =>
    obtain ⟨left, _⟩ := leaveName_values (kind := kind) ok stages hx held
      (State.without_freeEntry ok stages hx held entries)
    rw [removeEntry_of_held held, left, freeEntry_roster, entries, List.filter_filter]
    exact List.filter_congr fun g hg => by rw [ok.any_stage hg, Bool.and_comm]

theorem StagesOk.removeEntry (stages : StagesOk s) (ok : RosterOk s) (hx : x ∈ s.roster.entries)
    (okU : RosterOk (Machine.removeEntry x kind t)) (entries : t.roster.entries = s.roster.entries) :
    StagesOk (Machine.removeEntry x kind t) := by
  refine stages.removed ok okU hx fun g => ?_
  rw [removeEntry_entries ok stages hx entries, List.mem_filter]
  simp

end

end Sys2Proof.Machine

/-! Changes of the roster that keep its stages (R91), operation by operation. -/

namespace Sys2Proof.Machine

/-- The roster is a table in step with the claims, and its stages are in order. -/
structure Staged (s : State) : Prop where
  roster : RosterOk s
  claims : ClaimsInStep s
  stages : StagesOk s

namespace Staged

section

variable {s t u : State} {e x : Entry} {y : Identity} {n : Name} {f : Entry → Entry}

theorem known (h : Staged s) : Known True False s := ⟨fun _ => h.roster, False.elim⟩

theorem run (h : Staged s) (run : Moves True False s t) (stages : RosterOk t → StagesOk t) : Staged t :=
  have roster : RosterOk t := run.rosterOk (fun _ => h.roster) trivial
  ⟨roster, run.claimsInStep h.claims, stages roster⟩

theorem still (h : Staged s) (run : Moves True False s t) (entries : t.roster.entries = s.roster.entries) : Staged t :=
  h.run run fun _ => h.stages.congr entries

theorem record (h : Staged s) (kind : ChangeKind) (name : Name) (identity : Option Identity) (detail : Nat) :
    Staged (queueRecord kind name identity detail s) :=
  h.still (Move.record _ _ _ _).run (by simp)

theorem countForeign (h : Staged s) : Staged (countForeign s) := h.still Move.foreign.run (by simp)

theorem offer (h : Staged s) {b : TxBody} {owner : Owner} {ref : OwnerRef}
    (run : Moves True False s (offerFrame b owner ref s)) : Staged (offerFrame b owner ref s) :=
  h.still run (by simp)

/-- An entry changes in its place, and keeps its path and its name. -/
theorem change (h : Staged s) (he : e ∈ s.roster.entries) (run : Moves True False s t)
    (entries : t.roster.entries = (changeEntry e.identity f s).roster.entries) (identity : (f e).identity = e.identity)
    (path : (f e).path = e.path) (name : (f e).heldName = e.heldName) (lost : (f e).state = .lost → e.state = .lost)
    (living : (f e).state = .lost ∨ (e.state = .lost → s.behindLost e = false)) : Staged t := by
  refine h.run run fun okU => h.stages.changeEntry h.roster okU he entries identity ?_ (.inl ⟨path, name⟩) lost
  rcases living with dead | living
  · intro nonzero
    rw [path] at nonzero
    obtain ⟨b, hb, differ, _, held, bridge, _⟩ :=
      h.stages.exists_outside h.roster he he (h.stages.acyclic e he) nonzero
    exact ⟨b, hb, differ, path ▸ held, bridge, fun _ => dead⟩
  · exact State.Room.places (path ▸ h.stages.room h.roster he living)

/-- A change that keeps the state, the name and the path of an entry. -/
theorem touch (h : Staged s) (he : e ∈ s.roster.entries) (run : Moves True False s t)
    (entries : t.roster.entries = (changeEntry e.identity f s).roster.entries) (same : e.Touched (f e))
    (path : (f e).path = e.path) : Staged t := by
  have name : (f e).heldName = e.heldName := same.heldName
  refine h.change he run entries same.identity path name (fun lost => same.state ▸ lost) ?_
  by_cases lost : e.state = .lost
  · exact .inl (same.state.trans lost)
  · exact .inr fun dead => absurd dead lost

/-- An entry of no name takes one that nobody holds, or none. -/
theorem enter (h : Staged s) (he : e ∈ s.roster.entries) (run : Moves True False s t)
    (entries : t.roster.entries = (changeEntry e.identity f s).roster.entries) (identity : (f e).identity = e.identity)
    (nameless : e.heldName = none) (alive : (f e).state ≠ .lost)
    (room : s.Room e.identity (f e).path)
    (fresh : ∀ m, (f e).heldName = some m → ∀ g ∈ s.roster.entries, g.heldName ≠ some m) : Staged t :=
  h.run run fun okU => h.stages.changeEntry h.roster okU he entries identity room.places (.inr ⟨nameless, fresh⟩)
    fun lost => absurd lost alive

theorem insert (h : Staged s) (run : Moves True False s t) (entries : t.roster.entries = (insertEntry e s).roster.entries)
    (room : s.Room e.identity e.path) (fresh : ∀ m, e.heldName = some m → ∀ g ∈ s.roster.entries, g.heldName ≠ some m) :
    Staged t :=
  h.run run fun okU => h.stages.insertEntry h.roster okU entries room.places fresh

theorem room (h : Staged s) (he : e ∈ s.roster.entries) (living : e.state = .lost → s.behindLost e = false) :
    s.Room e.identity e.path :=
  h.stages.room h.roster he living

/-! ### Restart, return, demotion, removal, loss -/

/-- A holder leaves its name for HEARD, and its stage goes (R79, R80, R88, R92). -/
theorem leaveName (h : Staged s) (he : e ∈ s.roster.entries) (held : e.heldName = some n)
    (enters : ∀ g : Entry, g.EntersHeard (f g)) (room : s.Room e.identity (f e).path) (kind : ChangeKind) (name : Name)
    (identity : Option Identity) (detail : Nat) : Staged (leaveName e.identity n .stalled
      (queueRecord kind name identity detail (heardReported (changeEntry e.identity f s)))) := by
  have run := leaveName_moves (A := True) (H := False) enters h.known (fun _ => h.roster.eachOf he held) kind name identity
    detail
  refine h.run run fun okU => h.stages.leaveName h.roster he held okU (f := f) (by simp) (enters e).identity ?_ room
  simp [Entry.heldName, (enters e).name]

theorem restartEntry (h : Staged s) (he : e ∈ s.roster.entries) (holds : e.holds = true) (marks : Entry.Marks f)
    (room : s.Room e.identity (f (e.leavesName s.claimValue)).path) : Staged (restartEntry e f s) := by
  unfold Machine.restartEntry
  dsimp only
  rw [changeEntry_heldToHeard]
  exact h.leaveName he (h.roster.heldName_getD he holds) (fun g => marks.entersHeard _ g) room _ _ _ _

theorem returnEntry (h : Staged s) (he : e ∈ s.roster.entries) (holds : e.holds = true) (marks : Entry.Marks f)
    (room : s.Room e.identity (f (e.leavesName s.claimValue)).path) : Staged (returnEntry e f s) := by
  unfold Machine.returnEntry
  dsimp only
  rw [changeEntry_heldToHeard]
  exact h.leaveName he (h.roster.heldName_getD he holds) (fun g => marks.entersHeard _ g) room _ _ _ _

theorem demoteEntry (h : Staged s) (he : e ∈ s.roster.entries) (holds : e.holds = true)
    (living : e.state = .lost → s.behindLost e = false) (recordName : Name) (detail : Nat) :
    Staged (demoteEntry e recordName detail s) := by
  unfold Machine.demoteEntry
  dsimp only
  rw [heldToHeard_eq]
  exact h.leaveName he (h.roster.heldName_getD he holds) (Entry.entersHeard_leavesName _) (h.room he living) _ _ _ _

theorem removeEntry (h : Staged s) (he : e ∈ s.roster.entries) (kind : ChangeKind) : Staged (removeEntry e kind s) :=
  h.run (removeEntry_moves kind (fun _ => h.roster) fun _ => h.roster.eachOf he rfl) fun okU =>
    h.stages.removeEntry h.roster he okU rfl

end

end Staged

end Sys2Proof.Machine

/-! The frames and the deadlines keep the stages (R91). -/

namespace Sys2Proof.Machine

namespace Staged

section

variable {s t u : State} {e x : Entry} {y : Identity} {n : Name} {f : Entry → Entry}

theorem refreshHolder (h : Staged s) (he : e ∈ s.roster.entries) (held : e.heldName = some n)
    (living : e.state = .lost → s.behindLost e = false) : Staged (refreshHolder e s) := by
  have holds := (Entry.holds_of_heldName held).1
  refine h.change he (refreshHolder_moves (fun _ => h.roster) he holds)
    (f := fun g => { g.toNamed s.silenceValue with lastHeard := s.time.now }) ?_ rfl rfl ?_ nofun (.inr living)
  · unfold Machine.refreshHolder
    dsimp only
    split <;> simp
  · rw [Entry.heldName, Entry.heldName, holds]
    rfl

theorem senderReport (h : Staged s) (range : inRange 1 Config.lastName n = true) : Staged (senderReport n s) := by
  have moves := senderReport_moves (A := True) (H := False) range fun _ => h.roster
  unfold Machine.senderReport at *
  split
  · next e he =>
    obtain ⟨mem, held⟩ := State.holder_eq_some he
    split
    · exact h.countForeign
    · next living => exact h.refreshHolder mem held fun lost => by simpa [lost] using living
  · next none =>
    simp only [none] at moves
    exact h.still moves (by simp)

theorem countObjection (h : Staged s) (y : Identity) : Staged (countObjection y s) := by
  have moves := countObjection_moves (A := True) (H := False) (s := s) y
  unfold Machine.countObjection at *
  split
  · exact h
  · next e entry =>
    obtain ⟨he, rfl⟩ := State.entryOf_eq_some entry
    simp only [entry] at moves
    dsimp only at *
    split
    · next storm =>
      rw [if_pos storm] at moves
      exact h.touch he (f := fun g => { g with objections := satAdd Config.maxObjections e.objections 1, storm := true })
        moves (by simp) (by constructor <;> rfl) rfl
    · next storm =>
      rw [if_neg storm] at moves
      exact h.touch he (f := fun g => { g with objections := satAdd Config.maxObjections e.objections 1 })
        moves (by simp) (by constructor <;> rfl) rfl

theorem disputeHold (h : Staged s) (y : Identity) (n : Name) (reason : Reason) (counter : Name) :
    Staged (disputeHold y n reason counter s) :=
  h.still (disputeHold_moves y n reason counter) (by simp)

theorem raiseObjection (h : Staged s) (y : Identity) (n : Name) (reason : Reason) (counter : Name) :
    Staged (raiseObjection y n reason counter s) := by
  rw [raiseObjection_eq]
  exact countObjection (h.still (Move.objected y n reason counter).run (by simp)) y

theorem creationFails (h : Staged s) (y : Identity) : Staged (creationFails y s) := by
  unfold Machine.creationFails
  split
  · exact h
  · exact (h.still (t := s.withRoster { s.roster with fullLatch := true }) Move.latched.run rfl).record _ _ _ _

theorem createHeard (h : Staged s) {path : Name} {revision : Byte} (absent : s.entryOf y = none) (room : s.Room y path) :
    Staged (createHeard y path revision s) := by
  have moves := createHeard_moves (A := True) (H := False) path revision absent False.elim
  unfold Machine.createHeard at *
  split
  · exact h.creationFails y
  · next k free =>
    simp only [free] at moves
    exact h.insert (e := joiningEntry k y path revision s) moves (by simp [joiningEntry]) room nofun

/-- An entry that seeks a name enters HEARD, or enters it again (R81, R88). -/
theorem entersHeard (h : Staged s) (he : e ∈ s.roster.entries) (seeks : e.seeking = true) :
    Staged (entryToHeard e.identity (dropClaim e.identity s)) := by
  have nameless : e.heldName = none := Entry.heldName_eq_none_of_not_holds (by simp [Entry.holds_eq_not_seeking, seeks])
  refine h.enter he (f := Entry.toHeard s.claimValue)
    (Move.heard e.identity (fun _ _ => h.roster.eachOf he nameless) False.elim).run (by simp) rfl nameless nofun ?_ nofun
  exact h.room he fun lost => absurd lost (Entry.seeking_living seeks)

theorem acceptClaim (h : Staged s) (passes : claimTest y n s = none) (heard : s.EachOf y fun g => g.state = .heard)
    (moves : Moves True False s (acceptClaim y n s)) : Staged (acceptClaim y n s) := by
  obtain ⟨_, _, ⟨e, he, rfl⟩, _⟩ := claimTest_eq_none passes
  have state := heard e he rfl
  refine h.enter he (f := Entry.claiming n s.time.now) moves (by simp [acceptClaim_eq]) rfl
    (Entry.heldName_eq_none_of_not_holds (by simp [Entry.holds, state])) nofun ?_ nofun
  exact h.room he fun lost => by simp [state] at lost

theorem judgeClaim (h : Staged s) (range : n ≤ 63) (heard : s.EachOf y fun g => g.state = .heard) :
    Staged (judgeClaim y n s) := by
  have moves := judgeClaim_moves (A := True) (H := False) range (fun _ => h.roster) fun _ => heard
  unfold Machine.judgeClaim at *
  split
  · exact h.raiseObjection _ _ _ _
  · next passes =>
    simp only [passes] at moves
    exact h.acceptClaim passes heard moves

theorem heardNow (h : Staged s) (he : e ∈ s.roster.entries) (now : Time) :
    Staged (changeEntry e.identity (Entry.heardAt now) s) :=
  h.touch he ((Entry.marks_heardAt now).touch e.identity) rfl ((Entry.marks_heardAt now).touched e) rfl

theorem takeClaim (h : Staged s) (range : n ≤ 63) : Staged (takeClaim y n s) := by
  have marks := Entry.marks_heardAt s.time.now
  unfold Machine.takeClaim
  split
  · next absent => exact (h.createHeard absent fun zero => absurd rfl zero).judgeClaim range (eachOf_createHeard_heard absent)
  · next e entry =>
    obtain ⟨he, rfl⟩ := State.entryOf_eq_some entry
    have now := h.heardNow he s.time.now
    have changed : e.heardAt s.time.now ∈ (changeEntry e.identity (Entry.heardAt s.time.now) s).roster.entries := by
      rw [changeEntry_entries]
      exact List.mem_map.mpr ⟨e, he, by simp⟩
    dsimp only
    split
    case h_1 state => exact now.judgeClaim range (now.roster.eachOf changed state)
    case h_2 state =>
      exact (now.entersHeard changed (by simp [Entry.seeking, Entry.heardAt, state])).judgeClaim range
        (eachOf_entryToHeard_heard _ _)
    case h_3 state =>
      exact (h.restartEntry he (by simp [Entry.holds, state]) marks
        (h.room he fun lost => by simp [state] at lost)).judgeClaim range (eachOf_restartEntry_heard marks)
    case h_4 state =>
      exact (h.restartEntry he (by simp [Entry.holds, state]) marks
        (h.room he fun lost => by simp [state] at lost)).judgeClaim range (eachOf_restartEntry_heard marks)
    case h_5 state =>
      split
      · exact h.countForeign
      · next living =>
        exact (h.returnEntry he (by simp [Entry.holds, state]) marks
          (h.room he fun _ => by simpa using living)).judgeClaim range (eachOf_returnEntry_heard marks)

theorem takeAnnounce (h : Staged s) (y : Identity) (p : Name) (revision : Byte) : Staged (takeAnnounce y p revision s) := by
  have marks := Entry.marks_announced p revision s.time.now
  have moves := takeAnnounce_moves y p revision h.known
  unfold Machine.takeAnnounce at *
  split
  · next passes =>
    have room := State.room_of_pathOk passes
    rw [if_pos passes] at moves
    split
    · next absent => exact h.createHeard absent room
    · next e entry =>
      obtain ⟨he, rfl⟩ := State.entryOf_eq_some entry
      simp only [entry] at moves
      have enter {f : Entry → Entry} (state : e.state = .heard ∨ e.state = .claiming)
          (run : Moves True False s (changeEntry e.identity f s)) (same : e.Touched (f e)) (path : (f e).path = p) :
          Staged (changeEntry e.identity f s) := by
        have seeks := Entry.seeking_iff.mpr state
        have nameless : e.heldName = none :=
          Entry.heldName_eq_none_of_not_holds (by simp [Entry.holds_eq_not_seeking, seeks])
        refine h.enter he run rfl same.identity nameless ?_ (path.symm ▸ room) ?_
        · rw [same.state]; exact Entry.seeking_living seeks
        · rw [same.heldName, nameless]; exact nofun
      dsimp only at *
      split
      case h_1 state =>
        simp only [state] at moves
        have armed := (h.roster.fits he).claimDl_iff.mpr state
        exact enter (.inl state) moves ⟨rfl, rfl, rfl, rfl, armed.symm, rfl, rfl⟩ rfl
      case h_2 state => exact enter (.inr state) (marks.touch e.identity) (marks.touched e) rfl
      case h_3 state => exact h.restartEntry he (by simp [Entry.holds, state]) marks room
      case h_4 state => exact h.restartEntry he (by simp [Entry.holds, state]) marks room
      case h_5 state => exact h.returnEntry he (by simp [Entry.holds, state]) marks room
  · exact h.record _ _ _ _

theorem heardConflict (h : Staged s) (y : Identity) (d : Name) : Staged (heardConflict y d s) := by
  unfold Machine.heardConflict
  split
  · next e he =>
    obtain ⟨mem, held⟩ := State.holder_eq_some he
    split
    · next own => exact h.demoteEntry mem (Entry.holds_of_heldName held).1 (fun lost => by simpa [lost] using own.2) _ _
    · exact h
  · exact h

theorem takeObject (h : Staged s) (y : Identity) (d : Name) (reason : Nat) : Staged (takeObject y d reason s) := by
  have dropped : Staged (match s.claimOf y with
      | some _ => entryToHeard y (dropClaim y s)
      | none => s) := by
    split
    · next c claim =>
      obtain ⟨_, _, claimed, _⟩ := h.claims
      obtain ⟨e, he, identity, name⟩ := claimed c (List.mem_of_find?_eq_some claim)
      have same : c.claimant = y := by simpa using List.find?_some claim
      obtain ⟨_, state⟩ := Entry.claimedName_eq_some_iff.mp name
      obtain rfl := identity.trans same
      exact h.entersHeard he (Entry.seeking_iff.mpr (.inr state))
    · exact h
  have counted := (dropped.still (Move.withdrawn y d (reason == Reason.conflict.code)).run (by simp)).countObjection y
  unfold Machine.takeObject
  dsimp only
  split
  · exact counted.heardConflict y d
  · exact counted

end

end Staged

end Sys2Proof.Machine

/-! Settles O11: the roster stays a table with its stages in order, and the asked set stays as it is. -/

namespace Sys2Proof.Machine

namespace Staged

section

variable {s t u : State} {e x : Entry} {y : Identity} {n : Name} {f : Entry → Entry}

/-- An entry that seeks a name comes to hold one that nobody holds (R117, R119). -/
theorem nameEntry (h : Staged s) (he : e ∈ s.roster.entries) (seeks : e.seeking = true)
    (fresh : ∀ g ∈ s.roster.entries, g.name = some n → g.identity = e.identity)
    (range : inRange 1 Config.lastName n = true) : Staged (nameEntry e.identity n (dropClaim e.identity s)) := by
  have nameless : e.heldName = none := Entry.heldName_eq_none_of_not_holds (by simp [Entry.holds_eq_not_seeking, seeks])
  refine h.enter he (f := Entry.named e.identity n (dropClaim e.identity s))
    (Move.named e.identity n (fun _ => h.roster.eachOf he seeks) (fun _ => fresh) fun _ => range).run
    (by simp [nameEntry_eq]) rfl nameless nofun (h.room he fun lost => absurd lost (Entry.seeking_living seeks)) ?_
  rintro m hm g hg held
  obtain rfl : n = m := Option.some.inj hm
  obtain rfl := h.roster.eq_of_identity hg he (fresh g hg (Entry.holds_of_heldName held).2)
  simp [nameless] at held

theorem acceptHold (h : Staged s) (range : inRange 1 Config.lastName n = true) (acceptable : s.acceptable y n = true) :
    Staged (acceptHold y n s) := by
  obtain ⟨e, c, entry, _, claimed, _⟩ := State.acceptable_iff.mp acceptable
  obtain ⟨name, state⟩ := Entry.claimedName_eq_some_iff.mp claimed
  obtain ⟨he, rfl⟩ := State.entryOf_eq_some entry
  exact (h.nameEntry he (Entry.seeking_iff.mpr (.inr state))
    (fun g hg hn => by rw [h.roster.eq_of_name hg he hn name]) range).record _ _ _ _

theorem adopted (h : Staged (Machine.nameEntry y n t)) : Staged (adopted y n t) :=
  (h.record .adopted n (some y) 0).still Move.adoptionTold.run (by simp [Machine.adopted])

theorem adoptHold (h : Staged s) (range : inRange 1 Config.lastName n = true) (free : s.freeFor y n = true)
    (seeks : ∀ e, s.entryOf y = some e → e.seeking = true) : Staged (adoptHold y n s) := by
  have fresh := h.roster.fresh_of_freeFor free
  unfold Machine.adoptHold
  split
  · next e entry =>
    obtain ⟨he, rfl⟩ := State.entryOf_eq_some entry
    exact adopted (h.nameEntry he (seeks e entry) fresh range)
  · next absent =>
    have stranger (g : Entry) (hg : g ∈ s.roster.entries) : g.name ≠ some n := fun name =>
      State.not_mem_of_entryOf_eq_none absent g hg (fresh g hg name)
    split
    · exact (h.creationFails y).disputeHold y n .full 0
    · next k slot =>
      refine adopted ?_
      rw [nameEntry_insertEntry absent]
      refine h.insert (e := adoptedEntry k y n s)
        (Move.adopted k y n slot absent (fun _ => stranger) fun _ => range).run (by simp) (fun zero => absurd rfl zero) ?_
      rintro m hm g hg held
      obtain rfl : n = m := Option.some.inj hm
      exact stranger g hg (Entry.holds_of_heldName held).2

theorem conflictHold (h : Staged s) (living : ∀ e, s.entryOf y = some e → e.state = .lost → s.behindLost e = false) :
    Staged (conflictHold y n s) := by
  unfold Machine.conflictHold
  refine countObjection (disputeHold ?_ _ _ _ _) _
  split
  · exact h.record _ _ _ _
  · next e entry =>
    obtain ⟨he, rfl⟩ := State.entryOf_eq_some entry
    have dead := living e entry
    split
    case h_1 => exact h.record _ _ _ _
    case h_2 state => exact (h.entersHeard he (Entry.seeking_iff.mpr (.inr state))).record _ _ _ _
    case h_3 state => exact h.demoteEntry he (by simp [Entry.holds, state]) dead _ _
    case h_4 state => exact h.demoteEntry he (by simp [Entry.holds, state]) dead _ _
    case h_5 state => exact h.demoteEntry he (by simp [Entry.holds, state]) dead _ _

theorem judgeHold (h : Staged s) (range : inRange 1 Config.lastName n = true) : Staged (judgeHold y n s) := by
  unfold Machine.judgeHold
  split
  · next absent =>
    split
    · next free => exact h.adoptHold range free fun e entry => by simp [absent] at entry
    · exact h.conflictHold fun e entry => by simp [absent] at entry
  · next e entry =>
    split
    · exact h.countForeign
    next lostBehind =>
    have dead : e.state = .lost → s.behindLost e = false := fun lost => by simpa [lost] using lostBehind
    split
    · next acceptable => exact h.acceptHold range acceptable
    split
    · next held => exact h.refreshHolder (State.entryOf_eq_some entry).1 (n := n) (by simpa using held) dead
    have only {P : Entry → Prop} (own : P e) (d : Entry) (other : s.entryOf y = some d) : P d :=
      Option.some.inj (entry.symm.trans other) ▸ own
    split
    · next free =>
      simp only [Bool.and_eq_true] at free
      exact h.adoptHold range free.1 (only free.2)
    · exact h.conflictHold (only (P := fun d => d.state = .lost → s.behindLost d = false) dead)

theorem takeHold (h : Staged s) (range : inRange 1 Config.lastName n = true) : Staged (takeHold y n s) := by
  have left : Staged (leaveAsked n s) := h.still (Move.asked _ (askedOk_leave n)).run rfl
  exact (left.still (pingAnswered_moves y n) (by simp)).judgeHold range

theorem takeBeat (h : Staged s) (n : Name) (q : BitVec 8) : Staged (takeBeat n q s) := by
  have moves := takeBeat_moves (A := True) (H := False) (s := s) n q
  unfold Machine.takeBeat at *
  split
  · next e he =>
    simp only [he] at moves
    split
    · exact h
    · next living =>
      rw [if_neg living] at moves
      refine h.touch (State.holder_eq_some he).1 moves rfl (Entry.checkBeat_touched q e) ?_
      unfold Entry.checkBeat
      split
      · rfl
      · split <;> rfl
  · exact h

theorem takeRelease (h : Staged s) (n : Name) (y : Identity) : Staged (takeRelease n y s) := by
  unfold Machine.takeRelease
  split
  · next e he =>
    split
    · exact (h.record _ _ _ _).removeEntry (by simpa using (State.holder_eq_some he).1) _
    · exact h.countForeign
  · exact h.countForeign

theorem dispatch (h : Staged s) {f : RxFrame} {own : Option Identity} (form : formOk own f = true) :
    StagesOk (dispatch f s) := by
  obtain ⟨key, body⟩ := f
  unfold formOk at form
  unfold Machine.dispatch
  cases body with
  | object claimant name reason counter =>
    simp only [Bool.and_eq_true] at form
    exact ((h.senderReport (inRange_of_senderKeyOk form.1.1.1.1)).takeObject _ _ _).stages
  | call cause => exact (h.senderReport (inRange_of_senderKeyOk form)).stages.congr (by simp)
  | hold holder =>
    simp only [Bool.and_eq_true] at form
    exact (h.takeHold (inRange_of_senderKeyOk form.1)).stages
  | claim name tryCount =>
    simp only [Bool.and_eq_true, byteIn, decide_eq_true_eq] at form
    exact (h.takeClaim form.2.2).stages
  | announce path revision wish => exact (h.takeAnnounce _ _ _).stages
  | probe target =>
    simp only [Bool.and_eq_true] at form
    have reported := (h.senderReport (inRange_of_senderKeyOk form.1)).stages
    dsimp only
    split
    · exact reported.congr (by simp)
    · exact reported
  | beat sequence window => exact ((h.senderReport (inRange_of_senderKeyOk form)).takeBeat _ _).stages
  | release holder => exact (h.takeRelease _ _).stages
  | _ => exact stagesOk_of_empty (by simp [takeRecall_values, Roster.reset])

end

end Staged

section

variable {s t u : State} {e x : Entry} {n : Name}

/-- Nothing is behind a device that is no bridge. -/
theorem StagesOk.isBehind_of_not_bridge (stages : StagesOk s) (ok : RosterOk s) (hx : x ∈ s.roster.entries)
    {g : Entry} (hg : g ∈ s.roster.entries) (device : isBridge x.identity = false) : s.isBehind g x.identity = false := by
  rw [Bool.eq_false_iff]
  intro behind
  have bridge := stages.isBridge_of_under ok hg ((stages.acyclic.isBehind_iff ok hx).mp behind)
  simp [device] at bridge

/-- The entries after the loss of a holder, be it a bridge or not (R90, R91). -/
theorem lossExpiry_entries (ok : RosterOk s) (stages : StagesOk s) (hx : x ∈ s.roster.entries) (holds : x.holds = true) :
    (if isBridge x.identity then cascadeLoss Config.rosterCapacity (x.name.getD 0) (loseEntry x 0 s)
      else loseEntry x 0 s).roster.entries =
    (s.roster.entries.filter (fun g => !(s.isBehind g x.identity && (g.state == .heard || g.state == .claiming)))).map
      (fun g => if g.identity = x.identity ∨ s.isBehind g x.identity = true then g.toLost else g) := by
  split
  · exact cascadeLoss_entries ok stages hx (ok.heldName_getD hx holds)
  · next device =>
    have alone {g : Entry} (hg : g ∈ s.roster.entries) :=
      stages.isBehind_of_not_bridge ok hx hg (by simpa using device)
    rw [loseEntry_entries, List.filter_eq_self.mpr fun g hg => by simp [alone hg]]
    exact List.map_congr_left fun g hg => by simp [alone hg]

/-- What the loss of x and its stage makes of an entry that stays (R90, R91). -/
def Entry.lostBehind (s : State) (y : Identity) (g : Entry) : Entry :=
  if g.identity = y ∨ s.isBehind g y = true then g.toLost else g

theorem Entry.lostBehind_same (s : State) (y : Identity) (g : Entry) :
    (g.lostBehind s y).identity = g.identity ∧ (g.lostBehind s y).path = g.path := by
  unfold Entry.lostBehind
  split <;> exact ⟨rfl, rfl⟩

/-- An entry LOST before the loss of x is LOST after it. -/
theorem Entry.lostBehind_state (s : State) (y : Identity) {g : Entry} (lost : g.state = .lost) :
    (g.lostBehind s y).state = .lost := by
  unfold Entry.lostBehind
  split
  · rfl
  · exact lost

/-- A holder keeps its name through the loss. -/
theorem Entry.lostBehind_heldName (s : State) (y : Identity) {g : Entry} (held : g.heldName = some n) :
    (g.lostBehind s y).heldName = some n := by
  unfold Entry.lostBehind
  split
  · exact (Entry.toLost_heldName held).trans held
  · exact held

/-- A holder is LOST with its stage (R90, R91). -/
theorem StagesOk.lost (stages : StagesOk s) (ok : RosterOk s) (okU : RosterOk u) (hx : x ∈ s.roster.entries)
    (holds : x.holds = true) (entries : u.roster.entries =
      (s.roster.entries.filter (fun g => !(s.isBehind g x.identity && (g.state == .heard || g.state == .claiming)))).map
        (Entry.lostBehind s x.identity)) : StagesOk u := by
  have stays {g : Entry} (hg : g ∈ s.roster.entries) {m : Name} (held : g.heldName = some m) :
      g.lostBehind s x.identity ∈ u.roster.entries := by
    have holder : g.seeking = false := by
      have := (Entry.holds_of_heldName held).1
      simpa [Entry.holds_eq_not_seeking] using this
    rw [entries]
    refine List.mem_map_of_mem (List.mem_filter.mpr ⟨hg, ?_⟩)
    rw [Entry.seeking] at holder
    simp [holder]
  have origin {g : Entry} (hg : g ∈ u.roster.entries) : ∃ h ∈ s.roster.entries, g = h.lostBehind s x.identity
      ∧ (s.isBehind h x.identity = true → h.seeking = false) := by
    obtain ⟨h, hh, rfl⟩ := List.mem_map.mp (entries ▸ hg)
    obtain ⟨mem, kept⟩ := List.mem_filter.mp hh
    exact ⟨h, mem, rfl, fun behind => by simpa [behind, Entry.seeking] using kept⟩
  refine stages.reshaped ok okU (fun g hg nonzero => ?_) fun g hg => ?_
  · obtain ⟨h, mem, rfl, _⟩ := origin hg
    have path := (h.lostBehind_same s x.identity).2
    obtain ⟨b, hb, above, held, bridge, lost⟩ := stages.exists_above ok mem (path ▸ nonzero)
    refine ⟨_, stays hb held, path.symm ▸ b.lostBehind_heldName s x.identity held,
      (b.lostBehind_same s x.identity).1 ▸ bridge, fun lostb => ?_⟩
    by_cases inside : b.identity = x.identity ∨ s.isBehind b x.identity = true
    · have under : s.Under b x := by
        rcases inside with same | behind
        · rw [ok.eq_of_identity hb hx same]; exact .refl
        · obtain ⟨c, abovec, further⟩ := (stages.acyclic.isBehind_iff ok hx).mp behind
          exact .head abovec further
      have behind := (stages.acyclic.isBehind_iff ok hx).mpr ⟨b, above, under⟩
      simp [Entry.lostBehind, behind, Entry.toLost]
    · rw [Entry.lostBehind, if_neg inside] at lostb
      exact Entry.lostBehind_state s x.identity (lost lostb)
  · obtain ⟨h, mem, rfl, stayed⟩ := origin hg
    obtain ⟨identity, path⟩ := h.lostBehind_same s x.identity
    refine .inr ⟨h, mem, identity.symm, path.symm, ?_⟩
    unfold Entry.lostBehind
    split
    · next inside =>
      have holder : h.holds = true := by
        rcases inside with same | behind
        · rw [ok.eq_of_identity mem hx same]; exact holds
        · simp [Entry.holds_eq_not_seeking, stayed behind]
      rw [Entry.toLost_heldName (ok.heldName_getD mem holder)]
    · rfl

/-- Every entry of t is one of s, with its path, its state and its name. -/
theorem StagesOk.touchEach (stages : StagesOk s) (ok : RosterOk s) (okT : RosterOk t) {f : Entry → Entry}
    (shape : ∀ g : Entry, g.Touched (f g)) (path : ∀ g : Entry, (f g).path = g.path)
    (entries : t.roster.entries = s.roster.entries.map f) : StagesOk t := by
  refine stages.reshaped ok okT (fun g hg nonzero => ?_) fun g hg => ?_
  · obtain ⟨h, hh, rfl⟩ := List.mem_map.mp (entries ▸ hg)
    obtain ⟨b, hb, held, bridge, lost⟩ := (stages h hh).1 (path h ▸ nonzero)
    exact ⟨f b, entries ▸ List.mem_map_of_mem hb, by rw [(shape b).heldName, path, held], (shape b).identity ▸ bridge,
      fun lostb => (shape h).state.trans (lost ((shape b).state ▸ lostb))⟩
  · obtain ⟨h, hh, rfl⟩ := List.mem_map.mp (entries ▸ hg)
    exact .inr ⟨h, hh, (shape h).identity.symm, (path h).symm, (shape h).heldName.symm⟩

theorem StagesOk.released (stages : StagesOk s) (ok : RosterOk s) (h : Released s t) : StagesOk t := by
  rcases h with same | same
  · exact stages.congr (by rw [same.roster])
  · obtain ⟨d, entries, _⟩ := releaseFreeze_moved s
    exact stages.touchEach ok (ok.releaseFreeze.sameTool same) (Entry.touched_delayed d) (fun _ => rfl)
      (by rw [same.roster, entries])

theorem StagesOk.sent (stages : StagesOk s) (h : Sent s t) : StagesOk t := by
  cases h with
  | emptied roster claims service => exact stagesOk_of_empty (by rw [roster]; rfl)
  | kept entries service mark same claims => exact stages.congr entries

theorem StagesOk.refreshed (stages : StagesOk s) : StagesOk (refreshNotices s) := stages.congr rfl

theorem StagesOk.closed (stages : StagesOk s) : StagesOk (close s) := stages.congr (by simp)

theorem StagesOk.answered (stages : StagesOk s) (before : State) (bytes : List Byte) :
    StagesOk (clockOut before bytes s) :=
  stages.congr rfl

theorem StagesOk.orderEnded (stages : StagesOk s) (error : Option OrderError) (detail : Nat) :
    StagesOk (endOrder error detail s) :=
  stages.congr rfl

theorem Staged.lossExpiry (h : Staged s) {slot : Nat} (entry : s.entryAt slot = some e) (armed : e.lossDl.isSome = true) :
    StagesOk (if isBridge e.identity then cascadeLoss Config.rosterCapacity (e.name.getD 0) (loseEntry e 0 s)
      else loseEntry e 0 s) := by
  have he := State.mem_of_entryAt entry
  have holds : e.holds = true := by simp [Entry.holds, (h.roster.fits he).lossDl_iff.mp armed]
  have okU := (lossExpiry_moves (A := True) (H := False) entry armed fun _ => h.roster).rosterOk (fun _ => h.roster) trivial
  exact h.stages.lost h.roster okU he holds (lossExpiry_entries h.roster h.stages he holds)

theorem Staged.silenceExpiry (h : Staged s) {slot : Nat} (entry : s.entryAt slot = some e)
    (armed : e.silenceDl.isSome = true) (span : Nat) :
    Staged (queueRecord .silent (e.name.getD 0) (some e.identity) 0 (changeEntry e.identity (Entry.toSilent span) s)) := by
  have he := State.mem_of_entryAt entry
  have state := (h.roster.fits he).silenceDl_iff.mp armed
  refine h.change he (f := Entry.toSilent span) (silenceExpiry_moves entry armed (fun _ => h.roster) span) (by simp) rfl rfl
    (by simp [Entry.heldName, Entry.holds, Entry.toSilent, state]) nofun (.inr fun lost => by simp [state] at lost)

theorem Staged.holdExpiry (h : Staged s) {y : Identity} {c : PendingClaim} (claim : s.claimOf y = some c) :
    Staged (entryToHeard y (dropClaim y s)) := by
  obtain ⟨_, _, claimed, _⟩ := h.claims
  obtain ⟨e, he, identity, name⟩ := claimed c (List.mem_of_find?_eq_some claim)
  have same : c.claimant = y := by simpa using List.find?_some claim
  obtain rfl := identity.trans same
  exact h.entersHeard he (Entry.seeking_iff.mpr (.inr (Entry.claimedName_eq_some_iff.mp name).2))

theorem Staged.forgetOrder (h : Staged s) : StagesOk (forgetOrder s) := by
  unfold Machine.forgetOrder
  dsimp only
  split
  · split
    · next e he =>
      split
      · exact ((h.record _ _ _ _).removeEntry (by simpa using (State.holder_eq_some he).1) _).stages.orderEnded _ _
      · exact h.stages.congr (by simp)
    · exact h.stages.congr (by simp)
  · exact h.stages.congr (by simp)

theorem Staged.parkOrder (h : Staged s) : StagesOk (parkOrder s) := by
  unfold Machine.parkOrder
  split
  · exact stagesOk_of_empty (by simp [parkTool, Roster.reset])
  · exact h.stages.congr (by simp)

/-- Every effect keeps the stages. -/
theorem Effect.stagesOk (act : Effect s t) (h : Staged s) : StagesOk t := by
  cases act with
  | mated inputs lock phase =>
    exact (h.stages.released h.roster (released_matesMet _).of_pins).refreshed
  | lockEngages phase held =>
    exact (h.stages.released h.roster (Released.of_pins (.inr (sameTool_enterCoupled _)))).refreshed
  | makeExpires due making => exact (h.stages.released h.roster (released_coupleByLock _).of_coupling).refreshed
  | supplyDrops on => exact stagesOk_of_empty (by simp [parkOvertaking, parkTool, Roster.reset])
  | breakExpires due => exact stagesOk_of_empty (by simp [teardown, Roster.reset])
  | settleFails due => exact stagesOk_of_empty (by simp [parkOvertaking, parkTool, Roster.reset])
  | holdLimitExpires due => exact stagesOk_of_empty (by simp [parkOvertaking, parkTool, Roster.reset])
  | sent inFlight => exact (h.stages.sent (sent_completeAttempt _ _)).closed
  | received receiving form =>
    have good : Staged (goodFrame s) := ⟨h.roster.congr (by simp), h.claims.congr (by simp) (by simp), h.stages.congr (by simp)⟩
    exact (good.dispatch form).closed
  | claimExpires entry due =>
    have he := State.mem_of_entryAt entry
    exact ((h.record _ _ _ _).removeEntry (by simpa using he) _).stages.closed
  | silenceExpires entry due => exact (h.silenceExpiry entry (State.isSome_of_toolDue due) _).stages.refreshed
  | lossExpires entry due => exact (h.lossExpiry entry (State.isSome_of_toolDue due)).closed
  | holdExpires claim => exact (h.holdExpiry claim).stages.closed
  | orderPark idle opcode phase =>
    have begun : Staged (beginOrder s) := ⟨h.roster.congr rfl, h.claims.congr rfl rfl, h.stages.congr rfl⟩
    exact begun.parkOrder.closed.answered _ _
  | orderForget idle opcode phase =>
    have begun : Staged (beginOrder s) := ⟨h.roster.congr rfl, h.claims.congr rfl rfl, h.stages.congr rfl⟩
    exact begun.forgetOrder.closed.answered _ _
  | _ => exact h.stages.congr (by simp)

end

/-- Settles O11: the table and the asked set by what the records go through, the stages by what every frame, deadline and order
does to the forest of paths. -/
theorem rosterStaysATable : Obligations.RosterStaysATable := by
  refine ⟨fun s t ok h => ?_, fun s t ok claims stages h => ?_, fun s t ok h => ?_⟩
  · exact invariant_of_works (fun _ _ same hs => same ▸ hs) (fun _ => id) (fun _ => IsReset.rosterOk)
      (fun _ _ same ok => ok.sameTool same) (fun _ _ ok w => w.rosterOk ok) ok h
  · exact invariant_of_effects (Q := fun s => RosterOk s ∧ ClaimsInStep s ∧ StagesOk s) (fun _ _ same hs => same ▸ hs) (fun _ hs => hs.2.2)
      (fun _ => IsReset.stagesOk) (fun _ _ hs act => act.stagesOk ⟨hs.1, hs.2.1, hs.2.2⟩) ⟨ok, claims, stages⟩ h
  · exact invariant_of_works (fun _ _ same hs => same ▸ hs) (fun _ => id) (fun _ => IsReset.askedOk)
      (fun _ _ same ok => ok.congr (by rw [same.roster])) (fun _ _ ok w => w.askedOk ok) ok h

end Sys2Proof.Machine

/-! What the inputs and the coupling deadlines do (03 section 3.3, 04): the entries to COUPLED, HELD, MAKING and BREAKING as
the close of an event shows them. -/

namespace Sys2Proof.Machine

section

variable {s t u : State}

/-! ### The close of an event -/

theorem keepsLatched_refreshNotices (notices : u.notices = s.notices) : KeepsLatched s (refreshNotices u) := by
  simp [KeepsLatched, notices]

theorem keepsPins_refreshNotices (pins : u.pins = s.pins) : KeepsPins s (refreshNotices u) := by
  rw [KeepsPins, ← pins]
  rfl

theorem settles_refreshNotices (pins : u.pins = s.pins) (notices : u.notices = s.notices) : Settles s (refreshNotices u) :=
  ⟨keepsPins_refreshNotices pins, keepsLatched_refreshNotices notices, levelsFollow_refreshNotices u⟩

theorem settles_close (pins : u.pins = s.pins) (notices : u.notices = s.notices) : Settles s (close u) :=
  settles_refreshNotices (u := testQuiet u) (by simpa using pins) (by simpa using notices)

theorem keepsLineLists_switched {on : Bool} {rx : Receiver} (line : t.line = s.line.switched on rx) : KeepsLineLists s t := by
  rw [KeepsLineLists, line]
  conv_lhs => rw [Line.switched_eq_keeping]
  rw [Line.switched_enabled]

theorem State.run_of_phase (phase : s.order.phase ≠ .setup) : s.order.phase = .run := by
  cases h : s.order.phase
  · exact absurd h phase
  · rfl

/-! ### The entries to the coupling states -/

/-- The entry to COUPLED from a state in which only inputs and coupling deadlines have changed (R46, R56, R62). -/
theorem entersCoupled_refreshNotices {p : Pins} {c : Coupling} (run : s.order.phase = .run)
    (supplyEn : p.supplyEn = s.pins.supplyEn) (supply : c.supply = s.coupling.supply) (settle : c.settle = s.coupling.settle)
    (mate : c.mateCapture = s.coupling.mateCapture) (unmate : c.unmateCapture = s.coupling.unmateCapture) :
    EntersCoupled s (refreshNotices (enterCoupled ((s.withPins p).withCoupling c))) := by
  have moved : releaseFreeze ((s.withPins p).withCoupling c) = ((releaseFreeze s).withPins p).withCoupling c := by
    rw [releaseFreeze_withCoupling, releaseFreeze_withPins]
  have coupling := enterCoupled_coupling ((s.withPins p).withCoupling c)
  refine ⟨by simp [coupling], by simp [coupling], by simp [coupling], by simp [coupling], by simp [mate], by simp [unmate],
    ?_, ?_, ?_, ?_, keepsLatched_refreshNotices (by simp), levelsFollow_refreshNotices _, ?_⟩
  · have en := enterCoupled_supplyEn ((s.withPins p).withCoupling c)
    by_cases on : s.coupling.supply = .off ∧ s.census.state ≠ .parked
    · rw [if_pos on]
      simp [coupling, en, supply, run, on, ms, State.after, State.cfg]
    · rw [if_neg on]
      simp [coupling, en, supply, settle, supplyEn, run, on]
  · obtain ⟨time', rest⟩ := releasesFreeze_releaseFreeze s
    refine ⟨by simpa [moved] using time', ?_⟩
    simpa [MovedBy, moved] using rest
  · have enabled := congrArg Line.enabled (enterCoupled_line ((s.withPins p).withCoupling c))
    rw [Line.switched_enabled] at enabled
    exact enabled
  · exact keepsLineLists_switched (by simp [enterCoupled_line]; rfl)
  · apply State.eq_of_blocks <;> simp

/-- The entry to HELD from a state in which only inputs, the freeze and coupling deadlines have changed (R57). -/
theorem entersHeld_refreshNotices (cfg : u.cfg = s.cfg) (now : u.time.now = s.time.now) (line : u.line = s.line)
    (once : u.coupling.lockedOnce = s.coupling.lockedOnce) (limit : u.coupling.holdLimit = s.coupling.holdLimit)
    (supply : u.coupling.supply = s.coupling.supply) (settle : u.coupling.settle = s.coupling.settle) :
    EntersHeld s (refreshNotices (enterHeld u)) := by
  have lined := enterHeld_line u
  refine ⟨by simp, by simp [once], ?_, by simp [supply], by simp [settle], by simp [lined], ?_⟩
  · simp [once, limit, supply, ms, State.after, cfg, now]
  · exact keepsLineLists_switched (on := false) (rx := u.waits 0) (by simp [lined, line])

end

end Sys2Proof.Machine

/-! Settles O18 and O19: what the mate inputs, LOCK and the make deadline do (R54 to R59). -/

namespace Sys2Proof.Machine

section

variable {s t u : State}

/-! ### The mate inputs -/

@[simp] theorem Pins.setMate_fields (p : Pins) (i : MateInput) (v : Bool) :
    (p.setMate i v).mate i = v ∧ (p.setMate i v).otherMate i = p.otherMate i ∧ (p.setMate i v).lock = p.lock
      ∧ (p.setMate i v).supplyGood = p.supplyGood ∧ (p.setMate i v).supplyEn = p.supplyEn := by
  cases i <;> simp [Pins.setMate, Pins.mate, Pins.otherMate]

theorem mated_setMate (s : State) (i : MateInput) (v : Bool) :
    (s.withPins (s.pins.setMate i v)).mated = (v && s.pins.otherMate i) := by
  cases i <;> simp [State.mated, Pins.setMate, Pins.otherMate, Bool.and_comm]

theorem Pins.mate_congr {p q : Pins} (a : p.mateA = q.mateA) (b : p.mateB = q.mateB) (i : MateInput) :
    p.mate i = q.mate i ∧ p.otherMate i = q.otherMate i := by
  cases i <;> simp [Pins.mate, Pins.otherMate, a, b]

/-- MATE_ASSERTED: the coupling monitor acts on the second input in the RUN phase (R52, R54). -/
theorem exec_mateAsserted {i : MateInput} (low : s.pins.mate i = false) : exec (.mateAsserted i) s = .next (refreshNotices
    (if s.order.phase = .run ∧ s.pins.otherMate i = true then matesMet (s.withPins (s.pins.setMate i true))
      else s.withPins (s.pins.setMate i true))) := by
  change execMateAsserted i s = _
  simp [execMateAsserted, low, mated_setMate]

theorem exec_mateReleased {i : MateInput} (high : s.pins.mate i = true) : exec (.mateReleased i) s = .next (refreshNotices
    (if s.order.phase = .run then mateParted (s.withPins (s.pins.setMate i false))
      else s.withPins (s.pins.setMate i false))) := by
  change execMateReleased i s = _
  simp [execMateReleased, high]

/-- Only the level of an input changes (R52). -/
theorem levelOnly (s : State) (p : Pins) :
    refreshNotices (s.withPins p) = { s with
      pins := (refreshNotices (s.withPins p)).pins, notices := (refreshNotices (s.withPins p)).notices }
    ∧ KeepsLatched s (refreshNotices (s.withPins p)) :=
  ⟨rfl, rfl⟩

theorem enterMaking_only (s : State) (p : Pins) :
    let t := refreshNotices (enterMaking (s.withPins p))
    t = { s with pins := t.pins, coupling := t.coupling, line := t.line, notices := t.notices } := by
  apply State.eq_of_blocks <;> simp

theorem enterHeld_only (s : State) (p : Pins) (c : Coupling) :
    let t := refreshNotices (enterHeld ((s.withPins p).withCoupling c))
    t = { s with pins := t.pins, coupling := t.coupling, line := t.line, notices := t.notices } := by
  apply State.eq_of_blocks <;> simp

theorem mateAsserted_moves (i : MateInput) (low : s.pins.mate i = false) :
    ∃ t, exec (.mateAsserted i) s = .next t ∧ t.pins.mate i = true ∧ t.pins.otherMate i = s.pins.otherMate i
      ∧ t.pins.lock = s.pins.lock ∧ t.pins.supplyGood = s.pins.supplyGood ∧ LevelsFollow t
      ∧ (s.order.phase = .run ∧ s.pins.otherMate i = true →
          (s.coupling.state = .openState →
            t.coupling = { s.coupling with
              state := .making, mateCapture := s.time.now,
              make := some (s.time.now + BitVec.ofNat 32 (1000 * s.cfg.make)) }
            ∧ t.notices.coupling = true ∧ t.notices.couplingSeen = false
            ∧ t = { s with pins := t.pins, coupling := t.coupling, line := t.line, notices := t.notices })
          ∧ (s.coupling.state = .breaking ∧ s.pins.lock = true → EntersCoupled s t)
          ∧ (s.coupling.state = .breaking ∧ s.pins.lock = false → EntersHeld s t ∧ t.coupling.brk = none
            ∧ t = { s with pins := t.pins, coupling := t.coupling, line := t.line, notices := t.notices }))
      ∧ (s.order.phase = .setup ∨ s.pins.otherMate i = false
          ∨ (s.coupling.state ≠ .openState ∧ s.coupling.state ≠ .breaking) →
          t = { s with pins := t.pins, notices := t.notices } ∧ KeepsLatched s t) := by
  refine ⟨_, exec_mateAsserted low, ?_⟩
  obtain ⟨own, other, lock, good, en⟩ := s.pins.setMate_fields i true
  generalize pins : s.pins.setMate i true = p at *
  have inputs (u : State) (a : u.pins.mateA = p.mateA) (b : u.pins.mateB = p.mateB) (l : u.pins.lock = p.lock)
      (g : u.pins.supplyGood = p.supplyGood) : u.pins.mate i = true ∧ u.pins.otherMate i = s.pins.otherMate i
        ∧ u.pins.lock = s.pins.lock ∧ u.pins.supplyGood = s.pins.supplyGood := by
    obtain ⟨mate, otherMate⟩ := Pins.mate_congr a b i
    exact ⟨mate.trans own, otherMate.trans other, l.trans lock, g.trans good⟩
  by_cases acts : s.order.phase = .run ∧ s.pins.otherMate i = true
  · rw [if_pos acts]
    obtain ⟨mate, otherMate, lock', good'⟩ := inputs (refreshNotices (matesMet (s.withPins p)))
      (by simp) (by simp) (by simp) (by simp)
    refine ⟨mate, otherMate, lock', good', levelsFollow_refreshNotices _, fun _ => ⟨fun opened => ?_, ?_, ?_⟩, ?_⟩
    · have making : matesMet (s.withPins p) = enterMaking (s.withPins p) := by simp [matesMet, opened]
      rw [making]
      exact ⟨by simp [State.after, ms, State.cfg], by simp, by simp, enterMaking_only s p⟩
    · rintro ⟨breaking, locked⟩
      have coupled : matesMet (s.withPins p) =
          enterCoupled ((s.withPins p).withCoupling { s.coupling with brk := none }) := by
        simp [matesMet, breaking, coupleByLock, lock, locked]
      rw [coupled]
      exact entersCoupled_refreshNotices acts.1 en rfl rfl rfl rfl
    · rintro ⟨breaking, unlocked⟩
      have held : matesMet (s.withPins p) =
          enterHeld ((s.withPins p).withCoupling { s.coupling with brk := none }) := by
        simp [matesMet, breaking, coupleByLock, lock, unlocked]
      rw [held]
      exact ⟨entersHeld_refreshNotices rfl rfl rfl rfl rfl rfl rfl, by simp, enterHeld_only s p _⟩
    · rintro (setup | low | ⟨notOpen, notBreaking⟩)
      · simp [setup] at acts
      · simp [low] at acts
      · have stays : matesMet (s.withPins p) = s.withPins p := by
          unfold matesMet
          split
          · contradiction
          · contradiction
          all_goals rfl
        rw [stays]
        exact levelOnly s p
  · rw [if_neg acts]
    obtain ⟨mate, otherMate, lock', good'⟩ := inputs (refreshNotices (s.withPins p)) rfl rfl rfl rfl
    exact ⟨mate, otherMate, lock', good', levelsFollow_refreshNotices _, fun h => absurd h acts, fun _ => levelOnly s p⟩

theorem beginsFreeze_of_time (before : u.time = s.time) (supply : u.coupling = s.coupling)
    (time : t.time = (beginFreeze u).time) : BeginsFreeze s t := by
  rw [BeginsFreeze, time, beginFreeze_time]
  simp only [before, supply]

/-- What becomes of the line block as a mate input is released (R19). -/
theorem keepsLineLists_mateParted (s : State) (p : Pins) : KeepsLineLists s (refreshNotices (mateParted (s.withPins p))) := by
  unfold mateParted
  split
  case h_1 => exact keepsLineLists_switched (on := false) (by simp [enterOpen_line]; rfl)
  case h_2 => exact keepsLineLists_switched (on := false) (by simp [enterBreaking_line]; rfl)
  case h_3 => exact keepsLineLists_switched (on := false) (by simp [enterBreaking_line]; rfl)
  all_goals rfl

theorem mateReleased_moves (i : MateInput) (high : s.pins.mate i = true) (run : s.order.phase = .run) :
    ∃ t, exec (.mateReleased i) s = .next t ∧ t.pins.mate i = false ∧ LevelsFollow t
      ∧ t = { s with pins := t.pins, time := t.time, coupling := t.coupling, line := t.line, notices := t.notices }
      ∧ KeepsLineLists s t
      ∧ (s.coupling.state = .making →
          t.coupling = { s.coupling with state := .openState, lockedOnce := false, make := none, holdLimit := none }
          ∧ KeepsLatched s t ∧ t.time = s.time)
      ∧ (s.coupling.state = .coupled ∨ s.coupling.state = .held →
          t.coupling = { s.coupling with
            state := .breaking, unmateCapture := s.time.now,
            brk := some (s.time.now + BitVec.ofNat 32 (100 * s.cfg.brk)) }
          ∧ t.line.enabled = false ∧ t.notices.coupling = true ∧ t.notices.couplingSeen = false
          ∧ (s.coupling.state = .coupled → BeginsFreeze s t) ∧ (s.coupling.state = .held → t.time = s.time))
      ∧ (s.coupling.state = .openState ∨ s.coupling.state = .breaking →
          t.coupling = s.coupling ∧ t.line = s.line ∧ t.time = s.time ∧ KeepsLatched s t) := by
  refine ⟨_, exec_mateReleased high, ?_⟩
  rw [if_pos run]
  obtain ⟨own, other, lock, good, en⟩ := s.pins.setMate_fields i false
  have apart : (s.withPins (s.pins.setMate i false)).mated = false := by simp [mated_setMate]
  generalize pins : s.pins.setMate i false = p at *
  have input := (Pins.mate_congr (p := (refreshNotices (mateParted (s.withPins p))).pins) (q := p) (by simp) (by simp) i).1
  refine ⟨input.trans own, levelsFollow_refreshNotices _, ?_, keepsLineLists_mateParted s p, fun making => ?_,
    fun mated => ?_, fun idle => ?_⟩
  · apply State.eq_of_blocks <;> simp
  · have opened : mateParted (s.withPins p) = enterOpen (s.withPins p) := by simp [mateParted, making]
    rw [opened]
    exact ⟨by simp [enterOpen_coupling_of_not_mated apart],
      keepsLatched_refreshNotices (enterOpen_notices_of_not_mated apart), by simp⟩
  · rcases mated with coupled | held
    · have breaks : mateParted (s.withPins p) = enterBreaking (beginFreeze (s.withPins p)) := by simp [mateParted, coupled]
      rw [breaks]
      refine ⟨by simp [State.after, State.cfg], by simp [enterBreaking_line], by simp, by simp, fun _ => ?_, fun held => ?_⟩
      · exact beginsFreeze_of_time (u := s.withPins p) rfl rfl (by simp)
      · simp [coupled] at held
    · have breaks : mateParted (s.withPins p) = enterBreaking (s.withPins p) := by simp [mateParted, held]
      rw [breaks]
      exact ⟨by simp [State.after, State.cfg], by simp [enterBreaking_line], by simp, by simp,
        fun coupled => by simp [held] at coupled, fun _ => by simp⟩
  · have stays : mateParted (s.withPins p) = s.withPins p := by
      unfold mateParted
      rcases idle with state | state <;> simp [state]
    rw [stays]
    exact ⟨rfl, rfl, rfl, rfl⟩

end

/-- Settles O18, input by input. -/
theorem mateInputsMoveCoupling : Obligations.MateInputsMoveCoupling := by
  refine ⟨fun i s low => mateAsserted_moves i low, fun i s high run => mateReleased_moves i high run,
    fun i s high setup => ⟨_, exec_mateReleased high, ?_⟩⟩
  rw [if_neg (by simp [setup])]
  obtain ⟨own, other, _⟩ := s.pins.setMate_fields i false
  obtain ⟨mate, otherMate⟩ := Pins.mate_congr (p := (refreshNotices (s.withPins (s.pins.setMate i false))).pins)
    (q := s.pins.setMate i false) rfl rfl i
  exact ⟨mate.trans own, otherMate.trans other, (levelOnly s _).1, (levelOnly s _).2, levelsFollow_refreshNotices _⟩

/-! ### LOCK and the make deadline -/

theorem lockEngaged_couples (s : State) (open' : s.pins.lock = false) (run : s.order.phase = .run)
    (held : s.coupling.state = .held) : ∃ t, exec .lockEngaged s = .next t ∧ t.pins.lock = true
      ∧ t.coupling.make = s.coupling.make ∧ EntersCoupled s t := by
  have acts : exec .lockEngaged s = .next (refreshNotices (enterCoupled (s.withPins { s.pins with lock := true }))) := by
    change execLockEngaged s = _
    simp [execLockEngaged, open', run, held]
  exact ⟨_, acts, by simp, by simp, entersCoupled_refreshNotices run rfl rfl rfl rfl rfl⟩

theorem lockReleased_holds (s : State) (closed : s.pins.lock = true) (run : s.order.phase = .run)
    (coupled : s.coupling.state = .coupled) : ∃ t, exec .lockReleased s = .next t ∧ t.pins.lock = false ∧ EntersHeld s t
      ∧ BeginsFreeze s t ∧ LevelsFollow t ∧ KeepsLatched s t
      ∧ t = { s with pins := t.pins, time := t.time, coupling := t.coupling, line := t.line, notices := t.notices } := by
  have acts : exec .lockReleased s =
      .next (refreshNotices (enterHeld (beginFreeze (s.withPins { s.pins with lock := false })))) := by
    change execLockReleased s = _
    simp [execLockReleased, closed, run, coupled]
  refine ⟨_, acts, by simp, ?_, ?_, levelsFollow_refreshNotices _, keepsLatched_refreshNotices (by simp), ?_⟩
  · exact entersHeld_refreshNotices (by simp [State.cfg]) (by simp) (by simp) (by simp) (by simp) (by simp) (by simp)
  · exact beginsFreeze_of_time (u := s.withPins { s.pins with lock := false }) rfl rfl (by simp)
  · apply State.eq_of_blocks <;> simp

theorem makeDeadline_samples_lock (s : State) (due : s.due s.coupling.make = true) (run : s.order.phase = .run)
    (making : s.coupling.state = .making) : ∃ t, exec .makeDeadline s = .next t ∧ t.coupling.make = none
      ∧ (s.pins.lock = true → EntersCoupled s t)
      ∧ (s.pins.lock = false → EntersHeld s t ∧ KeepsLatched s t ∧ LevelsFollow t
          ∧ t = { s with pins := t.pins, coupling := t.coupling, line := t.line, notices := t.notices }) := by
  have acts : exec .makeDeadline s =
      .next (refreshNotices (coupleByLock (s.withCoupling { s.coupling with make := none }))) := by
    change execMakeDeadline s = _
    simp [execMakeDeadline, due, making]
  refine ⟨_, acts, by simp, fun locked => ?_, fun unlocked => ?_⟩
  · rw [coupleByLock_of_lock (by simpa using locked)]
    exact entersCoupled_refreshNotices (p := s.pins) run rfl rfl rfl rfl rfl
  · rw [coupleByLock_of_not_lock (by simpa using unlocked)]
    exact ⟨entersHeld_refreshNotices rfl rfl rfl rfl rfl rfl rfl, keepsLatched_refreshNotices (by simp),
      levelsFollow_refreshNotices _, enterHeld_only s s.pins _⟩

theorem lock_moves_level_only (s : State) (level : Bool) (before : s.pins.lock = !level)
    (idle : s.order.phase = .setup ∨ (level = true ∧ s.coupling.state ≠ .held)
      ∨ (level = false ∧ s.coupling.state ≠ .coupled)) :
    ∃ t, exec (if level then .lockEngaged else .lockReleased) s = .next t ∧ t.pins.lock = level
      ∧ t = { s with pins := t.pins, notices := t.notices } ∧ KeepsLatched s t ∧ LevelsFollow t := by
  have acts : exec (if level then .lockEngaged else .lockReleased) s =
      .next (refreshNotices (s.withPins { s.pins with lock := level })) := by
    cases level with
    | true =>
      change execLockEngaged s = _
      rcases idle with setup | ⟨_, other⟩ | ⟨low, _⟩
      · simp [execLockEngaged, before, setup]
      · simp [execLockEngaged, before, other]
      · simp at low
    | false =>
      change execLockReleased s = _
      rcases idle with setup | ⟨high, _⟩ | ⟨_, other⟩
      · simp [execLockReleased, before, setup]
      · simp at high
      · simp [execLockReleased, before, other]
  exact ⟨_, acts, rfl, rfl, rfl, levelsFollow_refreshNotices _⟩

/-- Settles O19. -/
theorem lockAndMakeDeadline : Obligations.LockAndMakeDeadline :=
  ⟨lockEngaged_couples, lockReleased_holds, makeDeadline_samples_lock, lock_moves_level_only⟩

end Sys2Proof.Machine

/-! Settles O20, O21 and O22: a lost supply, the hold limit, the break deadline and the settle deadline (R47, R60, R63 to R69). -/

namespace Sys2Proof.Machine

section

variable {s t u : State}

theorem refreshNotices_coupling (u : State) : (refreshNotices u).coupling = u.coupling := rfl

theorem refreshNotices_changes (u : State) : (refreshNotices u).changes = u.changes := rfl

theorem refreshNotices_order (u : State) : (refreshNotices u).order = u.order := rfl

@[simp] theorem toolAfter_withCoupling (s : State) (c : Coupling) (span : Nat) :
    (s.withCoupling c).toolAfter span = s.toolAfter span := rfl

@[simp] theorem cfg_withCoupling (s : State) (c : Coupling) : (s.withCoupling c).cfg = s.cfg := rfl

/-! ### A park -/

/-- A park from a state in which only inputs and coupling deadlines have changed (R66). -/
theorem emptiesTool_parkOvertaking {p : Pins} {c : Coupling} (mateA : p.mateA = s.pins.mateA) (mateB : p.mateB = s.pins.mateB)
    (lock : p.lock = s.pins.lock) (kind : ChangeKind) (detail : Nat) :
    EmptiesTool .parked s (refreshNotices (parkOvertaking kind detail ((s.withPins p).withCoupling c))) := by
  have line := parkOvertaking_line kind detail ((s.withPins p).withCoupling c)
  have empty := toolEmpty_parkOvertaking kind detail ((s.withPins p).withCoupling c)
  refine ⟨?_, ?_, ?_, ?_, ?_, ?_, ?_, empty.refreshNotices, ?_, ?_, ?_, ?_, ?_, ?_, ?_, ?_, ?_, ?_, ?_, ?_, levelsFollow_refreshNotices _⟩
  all_goals simp [line]
  all_goals simp [parkOvertaking, parkTool, mateA, mateB, lock]

theorem overtakes_of_order (order : t.order = (overtakeOrder (s.withOrder
    { s.order with pingIdentity := none, pingWindow := none })).order) : Overtakes s t := by
  rw [Overtakes, order, overtakeOrder_order]
  rfl

theorem overtakes_parkOvertaking (p : Pins) (c : Coupling) (kind : ChangeKind) (detail : Nat) :
    Overtakes s (refreshNotices (parkOvertaking kind detail ((s.withPins p).withCoupling c))) := by
  refine overtakes_of_order ?_
  have same : SameTool s ((s.withPins p).withCoupling c) := by constructor <;> rfl
  exact (refreshNotices_order _).trans (sameTool_parkOvertaking same rfl kind detail).order

theorem parkOvertaking_changes (p : Pins) (c : Coupling) (kind : ChangeKind) (detail : Nat) :
    (parkOvertaking kind detail ((s.withPins p).withCoupling c)).changes = (queueRecord kind 0 none detail s).changes := by
  simp only [parkOvertaking, parkTool, overtakeOrder_frame]
  exact queueRecord_changes_congr (by simp) (by simp) _ _ _ _

theorem parkOvertaking_coupling (p : Pins) (c : Coupling) (kind : ChangeKind) (detail : Nat) :
    (parkOvertaking kind detail ((s.withPins p).withCoupling c)).coupling =
      { c with supply := .off, settle := none, holdLimit := none } := by
  simp [parkOvertaking, parkTool]

/-- What a park that is no PARK order's shows at the close of its event (R64 to R66). -/
theorem park_values {p : Pins} (c : Coupling) (mateA : p.mateA = s.pins.mateA) (mateB : p.mateB = s.pins.mateB)
    (lock : p.lock = s.pins.lock) (kind : ChangeKind) (detail : Nat) :
    let t := refreshNotices (parkOvertaking kind detail ((s.withPins p).withCoupling c))
    EmptiesTool .parked s t ∧ Overtakes s t ∧ t.coupling = { c with supply := .off, settle := none, holdLimit := none }
      ∧ t.changes = (queueRecord kind 0 none detail s).changes ∧ KeepsLatched s t :=
  ⟨emptiesTool_parkOvertaking mateA mateB lock kind detail, overtakes_parkOvertaking p c kind detail,
    (refreshNotices_coupling _).trans (parkOvertaking_coupling p c kind detail),
    (refreshNotices_changes _).trans (parkOvertaking_changes p c kind detail),
    keepsLatched_refreshNotices (by simp)⟩

end

/-- Settles O20. -/
theorem supplyLossAndHoldLimitPark : Obligations.SupplyLossAndHoldLimitPark := by
  refine ⟨fun s good on => ?_, fun s due => ?_, fun s level differs rest => ?_⟩
  · have acts : exec (.supplyGoodChange false) s =
        .next (refreshNotices (parkOvertaking .supplyFault 2 (s.withPins { s.pins with supplyGood := false }))) := by
      change execSupplyGoodChange false s = _
      simp [execSupplyGoodChange, good, on]
    exact ⟨_, acts, by simp, park_values (s := s) (p := { s.pins with supplyGood := false }) s.coupling rfl rfl rfl .supplyFault 2⟩
  · have acts : exec .holdLimitDeadline s =
        .next (refreshNotices (parkOvertaking .parked 2 (s.withCoupling { s.coupling with holdLimit := none }))) := by
      change execHoldLimitDeadline s = _
      simp [execHoldLimitDeadline, due]
    exact ⟨_, acts, park_values (s := s) (p := s.pins) { s.coupling with holdLimit := none } rfl rfl rfl .parked 2⟩
  · have acts : exec (.supplyGoodChange level) s =
        .next (refreshNotices (s.withPins { s.pins with supplyGood := level })) := by
      change execSupplyGoodChange level s = _
      rcases rest with off | high
      · simp [execSupplyGoodChange, differs, off]
      · have low : s.pins.supplyGood = false := by simpa [high] using differs
        simp [execSupplyGoodChange, low, high]
    exact ⟨_, acts, rfl, rfl, rfl, levelsFollow_refreshNotices _⟩

/-! ### A teardown -/

section

variable {s t u : State}

/-- The state at the end of a teardown, before OPEN is entered (R69). -/
def tornDown (s : State) : State :=
  overtakeOrder (queueRecord .torn 0 none s.roster.entries.length (emptyTool .absent s))

theorem teardown_eq (s : State) : teardown s = enterOpen (tornDown s) := rfl

theorem tornDown_mated (s : State) : (tornDown s).mated = s.mated := by
  simp [tornDown, State.mated]

theorem teardown_coupling (s : State) : (teardown s).coupling =
    if s.mated = true then { s.coupling with
      state := .making, lockedOnce := false, mateCapture := s.time.now, make := some (s.after (ms s.cfg.make)),
      holdLimit := none, supply := .off, settle := none }
    else { s.coupling with
      state := .openState, lockedOnce := false, make := none, holdLimit := none, supply := .off, settle := none } := by
  have coupling : (tornDown s).coupling = { s.coupling with supply := .off, settle := none, holdLimit := none } := by
    simp [tornDown]
  rw [teardown_eq]
  by_cases mated : s.mated = true
  · rw [if_pos mated, enterOpen_coupling_of_mated ((tornDown_mated s).trans mated), coupling]
    simp [tornDown, State.after, State.cfg]
  · rw [if_neg mated, enterOpen_coupling_of_not_mated ((tornDown_mated s).trans (by simpa using mated)), coupling]

theorem teardown_notices (s : State) : (teardown s).notices =
    if s.mated = true then { s.notices with coupling := true, couplingSeen := false } else s.notices := by
  have notices : (tornDown s).notices = s.notices := by simp [tornDown]
  rw [teardown_eq]
  by_cases mated : s.mated = true
  · rw [if_pos mated, enterOpen_notices_of_mated ((tornDown_mated s).trans mated), notices]
  · rw [if_neg mated, enterOpen_notices_of_not_mated ((tornDown_mated s).trans (by simpa using mated)), notices]

theorem emptiesTool_teardown (s : State) (c : Coupling) :
    EmptiesTool .absent s (refreshNotices (teardown (s.withCoupling c))) := by
  have line := teardown_line (s.withCoupling c)
  have empty := toolEmpty_teardown (s.withCoupling c)
  refine ⟨?_, ?_, ?_, ?_, ?_, ?_, ?_, empty.refreshNotices, ?_, ?_, ?_, ?_, ?_, ?_, ?_, ?_, ?_, ?_, ?_, ?_, levelsFollow_refreshNotices _⟩
  case refine_4 =>
    rw [refreshNotices_coupling, teardown_coupling]
    split <;> rfl
  all_goals simp [line]
  all_goals simp [teardown]

theorem overtakes_teardown (s : State) (c : Coupling) : Overtakes s (refreshNotices (teardown (s.withCoupling c))) := by
  refine overtakes_of_order ?_
  by_cases running : s.order.state = .running
  · simp [teardown, overtakeOrder_order, running]
  · simp [teardown, overtakeOrder_order, running]

theorem teardown_changes (s : State) (c : Coupling) : (teardown (s.withCoupling c)).changes =
    (queueRecord .torn 0 none s.roster.entries.length s).changes := by
  simp only [teardown, enterOpen_frame, overtakeOrder_frame]
  exact queueRecord_changes_congr (by simp) (by simp) _ _ _ _

end

/-- Settles O21. -/
theorem breakDeadlineTearsDown : Obligations.BreakDeadlineTearsDown := by
  intro s due
  have acts : exec .breakDeadline s = .next (refreshNotices (teardown (s.withCoupling { s.coupling with brk := none }))) := by
    change execBreakDeadline s = _
    simp [execBreakDeadline, due]
  have coupling := teardown_coupling (s.withCoupling { s.coupling with brk := none })
  have notices := teardown_notices (s.withCoupling { s.coupling with brk := none })
  have mated : (s.withCoupling { s.coupling with brk := none }).mated = true ↔ s.pins.mateA = true ∧ s.pins.mateB = true := by
    simp [State.mated]
  refine ⟨_, acts, emptiesTool_teardown s _, overtakes_teardown s _,
    (refreshNotices_changes _).trans (teardown_changes s _), ?_⟩
  by_cases met : s.pins.mateA = true ∧ s.pins.mateB = true
  · rw [if_pos (mated.mpr met)] at coupling notices
    rw [if_pos met]
    simp [coupling, notices, State.after, State.cfg, ms]
  · rw [if_neg (mt mated.mp met)] at coupling notices
    rw [if_neg met]
    simp [coupling, notices, KeepsLatched]

/-! ### The settle deadline -/

/-- Settles O22. -/
theorem settleDeadlineDecidesSupply : Obligations.SettleDeadlineDecidesSupply := by
  intro s due
  refine ⟨fun good => ?_, fun bad => ?_⟩
  · have acts : exec .settleDeadline s = .next (refreshNotices (syncLine (enterPowering
        (s.withCoupling { s.coupling with settle := none, supply := .on })))) := by
      change execSettleDeadline s = _
      simp [execSettleDeadline, due, good]
    refine ⟨_, acts, by simp [enterPowering], by simp [enterPowering, ms], by simp [enterPowering, ms], ?_, ?_, ?_, ?_⟩
    · simp [syncLine_line, State.enableCondition, enterPowering, CensusState.lineActive]
    · exact keepsLineLists_switched (by simp [syncLine_line, enterPowering]; rfl)
    · exact settles_refreshNotices (by simp [enterPowering]) (by simp [enterPowering])
    · apply State.eq_of_blocks <;> simp [enterPowering]
  · have acts : exec .settleDeadline s =
        .next (refreshNotices (parkOvertaking .supplyFault 1 (s.withCoupling { s.coupling with settle := none }))) := by
      change execSettleDeadline s = _
      simp [execSettleDeadline, due, bad]
    exact ⟨_, acts, park_values (s := s) (p := s.pins) { s.coupling with settle := none } rfl rfl rfl .supplyFault 1⟩

end Sys2Proof.Machine

/-! Settles O24: the idle line, lost arbitration before the start mark, receive errors, frames that pass, and a stuck line
(R4, R5, R8, R9, R13 to R19). -/

namespace Sys2Proof.Machine

section

variable {s t u : State}

/-! ### LINE_FAULT and the order -/

theorem enterFault_order (s : State) : (enterFault s).order = if s.recallRunning = true then
    { s.order with state := .done, termination := 0xC040, detail := 0, pingIdentity := none, pingWindow := none }
    else s.order := by
  have running : (setLineFlag (s.withLine { s.line with fault := true, inFlight := none })).recallRunning
      = s.recallRunning := rfl
  unfold enterFault
  dsimp only
  rw [running]
  by_cases h : s.recallRunning = true
  · have still : (withdraw TxFrame.isRecall
        (setLineFlag (s.withLine { s.line with fault := true, inFlight := none }))).recallRunning = true := h
    simp [h, endRecallOrder, still, terminationWord, OrderError.bit]
  · simp [h]

theorem mayTransmit_of_busy (busy : s.line.recessive8 = false) : s.mayTransmit = false := by
  simp [State.mayTransmit, busy]

/-! ### An idle line and another station's edge -/

theorem lineIdle_clears (receiving : s.receiving = true) :
    ∃ t, exec .lineIdle s = .next t ∧ (s.line.stuck = true → exec .stuckMarkClear s = .next t)
      ∧ t.line = { s.line with recessive8 := true, stuck := false, rx := .hunting,
                               fault := s.line.fault && decide (Config.faultExit ≤ s.line.errors) }
      ∧ t.line.state = (if t.line.fault then .lineFault else .idle)
      ∧ Settles s t ∧ t = { s with pins := t.pins, line := t.line, notices := t.notices } := by
  have acts : exec .lineIdle s = .next (refreshNotices (lineRecessive s)) := by
    change execLineIdle s = _
    simp [execLineIdle, receiving]
  have clears (stuck : s.line.stuck = true) : exec .stuckMarkClear s = .next (refreshNotices (lineRecessive s)) := by
    change execStuckMarkClear s = _
    simp [execStuckMarkClear, receiving, stuck]
  have enabled := (State.receiving_iff.mp receiving).1
  refine ⟨_, acts, clears, lineRecessive_line s, ?_, settles_refreshNotices (by simp) (by simp), ?_⟩
  · simp [Line.state, enabled]
  · apply State.eq_of_blocks <;> simp

theorem foreignEdge_delays (receiving : s.receiving = true) :
    ∃ t, exec (.arbitrationLoss .beforeStart) s = .next t
      ∧ t.line = { s.line with recessive8 := false, rx := t.line.rx }
      ∧ ((∀ m, s.line.rx = .waiting m → s.Reached (some m)) → t.line.rx = s.line.rx)
      ∧ (∀ m, s.line.rx = .waiting m → ¬ s.Reached (some m) →
          t.line.rx = .waiting (s.time.now + BitVec.ofNat 32 (2 * s.linePeriod)))
      ∧ t.line.state = (if s.line.fault then .lineFault else .busy) ∧ t.mayTransmit = false ∧ t.receiving = true
      ∧ Settles s t ∧ t = { s with pins := t.pins, line := t.line, notices := t.notices } := by
  have acts : exec (.arbitrationLoss .beforeStart) s =
      .next (refreshNotices (s.withLine { s.line with recessive8 := false, rx := s.waitsAnew })) := by
    change execArbitrationLoss .beforeStart s = _
    simp [execArbitrationLoss, loseLine, foreignEdge, receiving]
  have enabled := (State.receiving_iff.mp receiving).1
  refine ⟨_, acts, rfl, fun reached => ?_, fun m waits early => ?_, ?_, mayTransmit_of_busy rfl, receiving,
    settles_refreshNotices rfl rfl, rfl⟩
  · change s.waitsAnew = s.line.rx
    unfold State.waitsAnew
    split
    · next m waits => rw [if_pos (due_iff_reached.mpr (reached m waits)), waits]
    all_goals next rx => exact rx.symm
  · change s.waitsAnew = _
    unfold State.waitsAnew
    rw [waits]
    dsimp only
    rw [if_neg (mt due_iff_reached.mp early), waits_zero]
  · simp [Line.state, enabled]

/-! ### Receive errors -/

theorem receiveError_counts {cause : ReceiveErrorCause} (hears : s.mayHear cause.start cause.halves = true)
    (fails : cause.fails = true) :
    ∃ t, exec (.receiveError cause) s = .next t ∧ t.line.errors = min 255 (s.line.errors + 1)
      ∧ t.line.fault = (s.line.fault || decide (96 ≤ t.line.errors))
      ∧ t.line.rx = s.afterError cause
      ∧ (s.line.fault = t.line.fault → Settles s t ∧ t.order = s.order ∧ t.line.txList = s.line.txList)
      ∧ (s.line.fault = false ∧ t.line.fault = true → t.notices.line = true ∧ t.notices.lineSeen = false)
      ∧ t.line.txDrops = s.line.txDrops ∧ t.line.foreign = s.line.foreign ∧ t.line.stuck = s.line.stuck
      ∧ LevelsFollow t ∧ t = { s with pins := t.pins, line := t.line, notices := t.notices, order := t.order } := by
  let u := s.withLine { s.line with
    errors := satAdd Config.maxErrors s.line.errors 1, rx := s.afterError cause, recessive8 := false }
  have acts : exec (.receiveError cause) s = .next (refreshNotices (checkFault u)) := by
    change execReceiveError cause s = _
    simp [execReceiveError, hears, fails, u]
  have fault : (refreshNotices (checkFault u)).line.fault = (s.line.fault || decide (96 ≤ u.line.errors)) :=
    checkFault_fault u
  have errors : (refreshNotices (checkFault u)).line.errors = u.line.errors := by simp
  refine ⟨_, acts, by simp [u, satAdd, Config.maxErrors], by rw [fault, errors], by simp [u], fun same => ?_, fun enters => ?_,
    by simp [u], by simp [u], by simp [u], levelsFollow_refreshNotices _, ?_⟩
  · have stays : checkFault u = u := by
      refine checkFault_of_stays ?_
      rw [fault] at same
      by_cases high : 96 ≤ u.line.errors
      · exact .inl (same.trans (by simp [high]))
      · exact .inr (Nat.lt_of_not_le high)
    rw [stays]
    exact ⟨settles_refreshNotices rfl rfl, rfl, rfl⟩
  · obtain ⟨clear, set⟩ := enters
    have high : 96 ≤ u.line.errors := by
      rw [fault, clear] at set
      simpa using set
    rw [checkFault_of_enters (s := u) clear high]
    simp
  · apply State.eq_of_blocks <;> simp [u]

/-! ### Frames that pass -/

/-- A command that brings a received frame takes it (R14, R23). -/
theorem exec_of_brings {f : RxFrame} {c : Instr} (brings : Brings f c) : exec c s = .next (receiveFrame f s) := by
  cases c with
  | malformedFrame => exact brings ▸ rfl
  | announceReceived => exact brings ▸ rfl
  | beatReceived => exact brings ▸ rfl
  | releaseReceived => exact brings ▸ rfl
  | recallReceived => exact brings ▸ rfl
  | probeOfArmEnd => exact brings ▸ rfl
  | probeReceived => exact brings ▸ rfl
  | claimReceived => exact brings ▸ rfl
  | objectReceived => exact brings ▸ rfl
  | holdReceived => exact brings ▸ rfl
  | callReceived => exact brings ▸ rfl
  | _ => exact absurd brings id

/-- A waiting receiver hunts from the end of a frame on that had begun before it could hunt (R5, R19). -/
theorem waiting_hears_no_frame_begun {m : Time} (waits : s.line.rx = .waiting m) (receiving : s.receiving = true) :
    (∀ start n, s.mayHear start n = true ↔ s.Reached (some (m + BitVec.ofNat 32 (n * (s.linePeriod / 2)))))
    ∧ (∀ (f : RxFrame) (c : Instr), Brings f c → s.hears f = false →
        exec c s = .next { s with line := { s.line with recessive8 := false, rx := .hunting } })
    ∧ (∀ f : WireFrame, s.mayHear (arbitrationField f.kind f.key) (receivedHalves f.payload.length) = false →
        fixedLength f.kind.toNat = none → f.payload.length ≤ 9 →
        exec (.foreignFrame f) s = .next { s with line := { s.line with recessive8 := false, rx := .hunting } })
    ∧ (∀ cause, s.mayHear cause.start cause.halves = false → exec (.receiveError cause) s = .next s) := by
  have passes := passFrame_of_waiting waits receiving
  refine ⟨fun start n => ?_, fun f c brings deaf => ?_, fun f deaf unknown short => ?_, fun cause deaf => ?_⟩
  · rw [mayHear_of_waiting start n waits, receiving, Bool.true_and, halves_eq, due_iff_reached]
  · rw [exec_of_brings brings, receiveFrame_deaf deaf, passes]
    rfl
  · change execForeignFrame f s = _
    simp only [execForeignFrame, unknown, short, deaf, passes]
    rfl
  · change execReceiveError cause s = _
    simp [execReceiveError, deaf]

/-! ### Bit periods -/

theorem WireFrame.length_bodyBits (f : WireFrame) : f.bodyBits.length = 56 + 8 * f.payload.length := by
  have bytes (l : List Byte) : (l.flatMap (msbBits 8)).length = 8 * l.length := by
    induction l with
    | nil => rfl
    | cons b l ih =>
      rw [List.flatMap_cons, List.length_append, msbBits_length, ih, List.length_cons]
      omega
  simp only [WireFrame.bodyBits, arbitrationField, List.length_append, msbBits_length, bytes]

theorem WireFrame.length_bits (f : WireFrame) : f.bits.length = 72 + 8 * f.payload.length := by
  simp [WireFrame.bits, WireFrame.length_bodyBits]
  omega

/-- How long frames and errors last, in bit periods and in half bit periods (R3, R5, R6, R13). -/
theorem frame_lengths :
    (∀ f : WireFrame, f.bitPeriods = 75 + 8 * f.payload.length) ∧ (∀ n, receivedHalves n = 2 * (74 + 8 * n))
    ∧ (∀ f : RxFrame, frameHalves f = 2 * (match f.body with
        | .object _ _ _ _ => 146 | .recall _ => 82 | .call _ => 82 | .hold _ => 122 | .claim _ _ => 90
        | .announce _ _ _ => 98 | .probe _ => 82 | .beat _ _ => 90 | .release _ => 122))
    ∧ (∀ kind length, (ReceiveErrorCause.length kind length).halves = 113)
    ∧ (∀ (f : WireFrame) (received : BitVec 16),
        (ReceiveErrorCause.crc f received).halves = 2 * (72 + 8 * f.payload.length) + 1)
    ∧ ReceiveErrorCause.earlyEnd.halves = 4 ∧ ReceiveErrorCause.lateEdge.halves = 144 := by
  refine ⟨fun f => ?_, fun n => ?_, fun f => ?_, fun _ _ => rfl, fun f received => ?_, rfl, rfl⟩
  · rw [WireFrame.bitPeriods, WireFrame.length_bits]
    omega
  · unfold receivedHalves
    omega
  · unfold frameHalves
    cases f.body <;> rfl
  · rw [ReceiveErrorCause.halves, WireFrame.length_bits]

/-! ### A stuck line -/

theorem stuckDominant_enters (enabled : s.line.enabled = true) :
    ∃ t, exec .stuckDominant s = .next t ∧ t.line.stuck = true ∧ t.line.fault = true ∧ t.line.rx = .waiting s.time.now
      ∧ t.line.errors = s.line.errors ∧ (s.line.fault = false → t.line.inFlight = none)
      ∧ (s.line.fault = true → Settles s t ∧ t.order = s.order ∧ t.line.txList = s.line.txList)
      ∧ (s.line.fault = false → t.notices.line = true ∧ t.notices.lineSeen = false
          ∧ (s.recallRunning = true → t.order.state = .done ∧ t.order.termination = 0xC040)
          ∧ (s.recallRunning = false → t.order = s.order ∧ t.line.txList = s.line.txList))
      ∧ t.line.txDrops = s.line.txDrops ∧ t.line.foreign = s.line.foreign
      ∧ LevelsFollow t ∧ t = { s with pins := t.pins, line := t.line, notices := t.notices, order := t.order } := by
  let u := s.withLine { s.line with stuck := true, rx := .waiting s.time.now, recessive8 := false }
  have acts : exec .stuckDominant s = .next (refreshNotices (if s.line.fault = true then u else enterFault u)) := by
    change execStuckDominant s = _
    simp [execStuckDominant, enabled, u]
  refine ⟨_, acts, ?_⟩
  by_cases fault : s.line.fault = true
  · rw [if_pos fault]
    have clear {p : Prop} (no : s.line.fault = false) : p := by simp [fault] at no
    exact ⟨rfl, fault, rfl, rfl, clear, fun _ => ⟨settles_refreshNotices rfl rfl, rfl, rfl⟩, clear, rfl, rfl,
      levelsFollow_refreshNotices _, rfl⟩
  · rw [if_neg fault]
    have line := enterFault_line u
    have order : (refreshNotices (enterFault u)).order = if s.recallRunning = true then
        { s.order with state := .done, termination := 0xC040, detail := 0, pingIdentity := none, pingWindow := none }
        else s.order := enterFault_order u
    refine ⟨by simp [u], by simp, by simp [u], by simp [u], by simp, fun yes => absurd yes fault,
      fun _ => ⟨by simp, by simp, fun runs => ?_, fun rests => ⟨?_, ?_⟩⟩, by simp [u], by simp [u],
      levelsFollow_refreshNotices _, ?_⟩
    · rw [order, if_pos runs]
      exact ⟨rfl, rfl⟩
    · rw [order, if_neg (by simp [rests])]
    · have rests' : ¬ u.recallRunning = true := by simpa [u, State.recallRunning] using rests
      change (enterFault u).line.txList = _
      rw [line, if_neg rests']
      rfl
    · apply State.eq_of_blocks <;> simp [u]

end

/-- Settles O24, event by event. -/
theorem lineErrorsAndRecovery : Obligations.LineErrorsAndRecovery := by
  refine ⟨fun _ => lineIdle_clears, fun _ => foreignEdge_delays, fun s cause hears fails => ?_,
    fun _ _ => waiting_hears_no_frame_begun, fun _ start n hunts => mayHear_of_hunting start n hunts, frame_lengths,
    fun _ => stuckDominant_enters⟩
  obtain ⟨t, acts, errors, fault, rx, rest⟩ := receiveError_counts hears fails
  refine ⟨t, acts, errors, fault, rx.trans ?_, rest⟩
  cases cause with
  | length => exact waits_one s
  | crc => exact waits_one s
  | earlyEnd => rfl
  | lateEdge => exact waits_zero s

end Sys2Proof.Machine

/-! Settles O25: an attempt takes the head of the list, and a lost arbitration receives the winner's frame (R9, R10, R21, R26). -/

namespace Sys2Proof.Machine

section

variable {s t u : State}

/-! ### The payloads -/

/-- The byte of a number at a place, as the bits of a word tell it. -/
theorem ofNat_div_eq_shift (x : BitVec 48) (k : Nat) : BitVec.ofNat 8 (x.toNat / 256 ^ k) = (x >>> (8 * k)).setWidth 8 := by
  apply BitVec.eq_of_toNat_eq
  simp [Nat.shiftRight_eq_div_pow, pow_mul]

theorem identityBytes_eq (x : Identity) :
    identityBytes x = (List.range 6).map (fun k => (x >>> (8 * (5 - k))).setWidth 8) :=
  List.map_congr_left fun k _ => ofNat_div_eq_shift x (5 - k)

/-! ### The attempt -/

/-- The attempt that begins on a frame (R9, R35). -/
def State.attempt (s : State) (f : TxFrame) : InFlight :=
  { tag := f.tag, wire := f.body.wire s.line.beatSeq (windowByte s.cfg) }

theorem exec_transmitAttempt {f : TxFrame} {rest : List TxFrame} (may : s.mayTransmit = true)
    (list : s.line.txList = f :: rest) : exec .transmitAttempt s = .next (refreshNotices (s.withLine { s.line with
      txList := { f with started := true } :: rest, inFlight := some (s.attempt f), recessive8 := false, rx := .hunting })) := by
  change execTransmitAttempt s = _
  simp only [execTransmitAttempt, may, if_true, beginAttempt, list]
  rfl

/-! ### Lost arbitration -/

theorem exec_arbitrationLoss {i : InFlight} {bit : Nat} (inFlight : s.line.inFlight = some i) (inField : bit < 52)
    (sends : i.wire.bits[bit]? = some true) : exec (.arbitrationLoss (.bit bit)) s = .next (refreshNotices
      (s.withLine { s.line with inFlight := none, rx := .assembling (i.wire.bits.take bit ++ [false]) })) := by
  have loses : i.losesAt bit = true := by simp [InFlight.losesAt, InFlight.sends1, sends, Config.arbitrationBits, inField]
  change execArbitrationLoss (.bit bit) s = _
  simp [execArbitrationLoss, loseLine, loseArbitration, inFlight, loses]

/-- Of two starts no longer than the other, each begins the other exactly where the shorter begins the longer. -/
theorem sameStart_iff {a b : List Bool} (le : a.length ≤ b.length) : sameStart a b = true ↔ a <+: b := by
  rw [sameStart, Bool.or_eq_true, List.isPrefixOf_iff_prefix, List.isPrefixOf_iff_prefix]
  constructor
  · rintro (ahead | behind)
    · exact ahead
    · rw [behind.eq_of_length (Nat.le_antisymm behind.length_le le)]
  · exact .inl

theorem length_frameStart (f : RxFrame) : (frameStart f).length = 52 := by
  simp [frameStart, arbitrationField]

/-- What can be received once arbitration is lost (R10). -/
theorem hears_of_assembling {bits : List Bool} {f : RxFrame} (rx : s.line.rx = .assembling bits) (short : bits.length ≤ 52)
    (free : s.line.inFlight = none) : s.hears f = true ↔ s.line.enabled = true ∧ bits <+: frameStart f := by
  have starts := sameStart_iff (a := bits) (b := frameStart f) (by rw [length_frameStart]; exact short)
  simp [State.hears, State.mayHear, State.huntedFor, State.receiving, Receiver.kept, rx, free, starts]

end

/-- Settles O25. -/
theorem attemptTakesHead : Obligations.AttemptTakesHead := by
  refine ⟨fun s f rest may list => ⟨_, s.attempt f, exec_transmitAttempt may list, rfl, rfl, rfl, rfl, ?_, ?_, ?_, ?_, ?_,
    settles_refreshNotices rfl rfl, rfl⟩, fun s i bit inFlight inField sends =>
    ⟨_, exec_arbitrationLoss inFlight inField sends, rfl, fun f => ?_, settles_refreshNotices rfl rfl, rfl⟩,
    fun s f => ⟨rfl, fun deaf hunts => ?_⟩⟩
  · intro body
    simp [State.attempt, TxBody.wire, TxBody.payload, body, windowByte]
  · intro x n reason counter body
    cases reason <;> simp [State.attempt, TxBody.wire, TxBody.payload, body, identityBytes_eq, Reason.code]
  · intro body
    simp [State.attempt, TxBody.wire, TxBody.payload, body]
  · intro x body
    simp [State.attempt, TxBody.wire, TxBody.payload, body, identityBytes_eq]
  · intro n body
    simp [State.attempt, TxBody.wire, TxBody.payload, body]
  · refine hears_of_assembling (bits := i.wire.bits.take bit ++ [false]) rfl ?_ rfl
    rw [List.length_append, List.length_take]
    have := Nat.min_le_left bit i.wire.bits.length
    simp only [List.length_singleton]
    omega
  · change Host.Outcome.next (receiveFrame f s) = _
    rw [receiveFrame_deaf deaf, passFrame_of_not_waiting hunts]

end Sys2Proof.Machine

/-! Settles O26: a bit error is counted, and at the fourth attempt the frame's owner is told (R11, R15, R16, R32, R176, R177). -/

namespace Sys2Proof.Machine

/-- An order that ends with LINE_DOWN (R171, R176, R177). -/
def Order.lineDown (o : Order) : Order :=
  { o with state := .done, termination := 0xC040, detail := 0, pingIdentity := none, pingWindow := none }

/-- The drop of this frame ends the running order: the PROBE of a PING, or the RECALL of a RECALL (R32, R176, R177). -/
def TxFrame.EndsOrder (f : TxFrame) (s : State) : Prop :=
  (s.pingRunning = true ∧ f.isPingProbe = true) ∨ (s.recallRunning = true ∧ f.ref = .none ∧ f.isRecall = true)

section

variable {s t u : State} {f : TxFrame} {i : InFlight}

theorem TxFrame.isPingProbe_iff : f.isPingProbe = true ↔ ∃ n, f.ref = .pingProbe n := by
  unfold TxFrame.isPingProbe
  cases f.ref <;> simp

/-! ### The report of a drop (R32) -/

theorem dropReport_order (f : TxFrame) (s : State) :
    (f.EndsOrder s → (dropReport f s).order = s.order.lineDown)
      ∧ (¬ f.EndsOrder s → (dropReport f s).order = s.order) := by
  unfold dropReport TxFrame.EndsOrder TxFrame.isPingProbe
  cases ref : f.ref with
  | claimObjection x w => simp
  | holdObjection x => simp
  | adoptionProbe n => simp [State.withAsked]
  | pingProbe n =>
    by_cases running : s.pingRunning = true
    · simp [endPingOrder, running]
      rfl
    · simp [endPingOrder, running]
  | none =>
    by_cases recalls : f.isRecall = true
    · by_cases running : s.recallRunning = true
      · simp [endRecallOrder, running, recalls]
        rfl
      · simp [endRecallOrder, running, recalls]
    · simp [recalls]

theorem dropReport_naming (f : TxFrame) (s : State) :
    (∀ x w, f.ref = .claimObjection x w →
        (dropReport f s).naming = { s.naming with tickets := s.naming.tickets.filter (fun k => k.tag != f.tag) })
      ∧ ((∀ x w, f.ref ≠ .claimObjection x w) → (dropReport f s).naming = s.naming) := by
  unfold dropReport
  cases ref : f.ref with
  | claimObjection x w => exact ⟨fun _ _ _ => rfl, fun other => absurd rfl (other x w)⟩
  | holdObjection x => exact ⟨nofun, fun _ => rfl⟩
  | adoptionProbe n => exact ⟨nofun, fun _ => rfl⟩
  | pingProbe n => exact ⟨nofun, fun _ => by simp⟩
  | none => exact ⟨nofun, fun _ => by dsimp only; split <;> simp⟩

theorem dropReport_roster (f : TxFrame) (s : State) :
    (∀ n, f.ref = .adoptionProbe n → (dropReport f s).roster = { s.roster with
        asked := s.roster.asked.map (fun a => if a.tag = some f.tag then
          { a with probe := .unsent, window := none, tag := none } else a) })
      ∧ ((∀ n, f.ref ≠ .adoptionProbe n) → (dropReport f s).roster = s.roster) := by
  unfold dropReport
  cases ref : f.ref with
  | claimObjection x w => exact ⟨nofun, fun _ => rfl⟩
  | holdObjection x => exact ⟨nofun, fun _ => rfl⟩
  | adoptionProbe n => exact ⟨fun _ _ => by simp [State.withAsked], fun other => absurd rfl (other n)⟩
  | pingProbe n => exact ⟨nofun, fun _ => by simp⟩
  | none => exact ⟨nofun, fun _ => by dsimp only; split <;> simp⟩

/-! ### The count beside LINE_FAULT (R16, R176) -/

/-- The count takes LINE_FAULT into force, and a running RECALL with it. -/
def State.recallFalls (s : State) : Bool := s.recallRunning && !s.line.fault && decide (Config.faultEntry ≤ s.line.errors)

theorem checkFault_list (s : State) :
    (checkFault s).line.txList = s.line.txList.filter (fun g => !(s.recallFalls && g.isRecall)) := by
  unfold State.recallFalls
  by_cases stays : s.line.fault = true ∨ s.line.errors < Config.faultEntry
  · rw [checkFault_of_stays stays]
    rcases stays with fault | low
    · simp [fault]
    · simp [Nat.not_le.mpr low]
  · rw [not_or, Bool.not_eq_true, Nat.not_lt] at stays
    rw [checkFault_of_enters stays.1 stays.2, enterFault_line]
    by_cases running : s.recallRunning = true
    · simp [running, stays]
    · simp [running]

theorem checkFault_order (s : State) :
    (checkFault s).order = if s.recallFalls = true then s.order.lineDown else s.order := by
  unfold State.recallFalls
  by_cases stays : s.line.fault = true ∨ s.line.errors < Config.faultEntry
  · rw [checkFault_of_stays stays]
    rcases stays with fault | low
    · simp [fault]
    · simp [Nat.not_le.mpr low]
  · rw [not_or, Bool.not_eq_true, Nat.not_lt] at stays
    rw [checkFault_of_enters stays.1 stays.2, enterFault_order]
    by_cases running : s.recallRunning = true
    · simp [running, stays, Order.lineDown]
    · simp [running]

theorem checkFault_notices_of_enters (clear : s.line.fault = false) (set : (checkFault s).line.fault = true) :
    (checkFault s).notices.line = true ∧ (checkFault s).notices.lineSeen = false := by
  have high : Config.faultEntry ≤ s.line.errors := by simpa [clear] using set
  rw [checkFault_of_enters clear high]
  simp

/-! ### The failed attempt (R11) -/

theorem countAttempt_of_none (gone : s.line.frame i.tag = none) : countAttempt i s = s := by
  unfold countAttempt
  rw [gone]

theorem countAttempt_of_few (frame : s.line.frame i.tag = some f) (few : f.attempts + 1 < 4) : countAttempt i s =
    s.withLine { s.line with
      txList := s.line.txList.map (fun g => if g.tag == i.tag then { g with attempts := g.attempts + 1 } else g) } := by
  unfold countAttempt
  rw [frame]
  exact if_pos few

theorem countAttempt_of_fourth (frame : s.line.frame i.tag = some f) (fourth : 4 ≤ f.attempts + 1) : countAttempt i s =
    dropReport f (countTxDrop (withdraw (fun g => g.tag == i.tag) s)) := by
  unfold countAttempt
  rw [frame]
  exact if_neg (Nat.not_lt.mpr fourth)

/-- What becomes of the list as an attempt fails (R11). -/
def State.failedList (s : State) (i : InFlight) : List TxFrame :=
  match s.line.frame i.tag with
  | none => s.line.txList
  | some f =>
    if f.attempts + 1 < 4 then
      s.line.txList.map (fun g => if g.tag = i.tag then { g with attempts := g.attempts + 1 } else g)
    else s.line.txList.filter (fun g => g.tag != i.tag)

/-- The failed attempt drops a frame whose drop ends the running order (R11, R32). -/
def State.DropEnds (s : State) (i : InFlight) : Prop :=
  ∃ f, s.line.frame i.tag = some f ∧ 4 ≤ f.attempts + 1 ∧ f.EndsOrder s

theorem countAttempt_list (i : InFlight) (s : State) : (countAttempt i s).line.txList = s.failedList i := by
  unfold State.failedList
  cases frame : s.line.frame i.tag with
  | none => rw [countAttempt_of_none frame]
  | some f =>
    dsimp only
    by_cases few : f.attempts + 1 < 4
    · simp [countAttempt_of_few frame few, few]
    · simp [countAttempt_of_fourth frame (Nat.not_lt.mp few), few, countTxDrop, bne]

theorem countAttempt_order (i : InFlight) (s : State) :
    (s.DropEnds i → (countAttempt i s).order = s.order.lineDown)
      ∧ (¬ s.DropEnds i → (countAttempt i s).order = s.order) := by
  unfold State.DropEnds
  cases frame : s.line.frame i.tag with
  | none => simp [countAttempt_of_none frame]
  | some f =>
    by_cases few : f.attempts + 1 < 4
    · have no : ¬ 4 ≤ f.attempts + 1 := Nat.not_le.mpr few
      refine ⟨?_, fun _ => by rw [countAttempt_of_few frame few]; rfl⟩
      rintro ⟨g, same, fourth, _⟩
      exact absurd (Option.some.inj same ▸ fourth) no
    · have fourth := Nat.not_lt.mp few
      obtain ⟨ends, stands⟩ := dropReport_order f (countTxDrop (withdraw (fun g => g.tag == i.tag) s))
      rw [countAttempt_of_fourth frame fourth]
      refine ⟨?_, fun none => ?_⟩
      · rintro ⟨g, same, _, drop⟩
        obtain rfl := Option.some.inj same
        exact (ends drop).trans (by simp [countTxDrop])
      · refine (stands fun drop => none ⟨f, rfl, fourth, drop⟩).trans (by simp [countTxDrop])

/-- With the RECALL of a running order gone, no RECALL is in the list (R27, R176). -/
theorem any_failedList_of_dropEnds (arrival : TxArrivalOk s) (runs : s.recallRunning = true) (ends : s.DropEnds i) :
    (s.failedList i).any TxFrame.isRecall = false := by
  obtain ⟨f, frame, fourth, ends⟩ := ends
  have recalls : f.isRecall = true := by
    rcases ends with ⟨ping, _⟩ | ⟨_, _, recalls⟩
    · simp [State.not_pingRunning_of_recallRunning runs] at ping
    · exact recalls
  obtain ⟨hf, tag⟩ := Line.frame_eq_some frame
  rw [State.failedList, frame]
  dsimp only
  rw [if_neg (Nat.not_lt.mpr fourth), ← tag]
  exact arrival.not_any_recall hf recalls

/-- The count of a bit error takes LINE_FAULT into force, and a running RECALL with it (R15, R16, R176). -/
def State.errorFalls (s : State) : Bool :=
  s.recallRunning && !s.line.fault && decide (96 ≤ min 255 (s.line.errors + 8))

/-- The failed attempt has been counted, and LINE_FAULT is to be tested (R11). -/
def failed (i : InFlight) (cause : BitErrorCause) (s : State) : State := countAttempt i (endInError cause s)

theorem failed_recallFalls (i : InFlight) (cause : BitErrorCause) (s : State) : (failed i cause s).recallFalls =
    ((failed i cause s).recallRunning && !s.line.fault && decide (96 ≤ min 255 (s.line.errors + 8))) := by
  simp [State.recallFalls, failed, satAdd, Config.maxErrors, Config.faultEntry]

theorem failed_order (i : InFlight) (cause : BitErrorCause) (s : State) :
    (s.DropEnds i → (failed i cause s).order = s.order.lineDown)
      ∧ (¬ s.DropEnds i → (failed i cause s).order = s.order) :=
  countAttempt_order i (endInError cause s)

theorem failed_falls_of_ends (cause : BitErrorCause) (ends : s.DropEnds i) : (failed i cause s).recallFalls = false := by
  have rests : (failed i cause s).recallRunning = false :=
    State.not_recallRunning_of_rest (by simp [(failed_order i cause s).1 ends, Order.lineDown])
  simp [failed_recallFalls, rests]

theorem failed_falls_of_stands (cause : BitErrorCause) (stands : ¬ s.DropEnds i) :
    (failed i cause s).recallFalls = s.errorFalls := by
  have same : (failed i cause s).recallRunning = s.recallRunning := by
    simp [State.recallRunning, (failed_order i cause s).2 stands]
  rw [failed_recallFalls, same, State.errorFalls]

/-- The list after a bit error (R11, R31). -/
theorem failAttempt_list (arrival : TxArrivalOk s) (i : InFlight) (cause : BitErrorCause) :
    (failAttempt i cause s).line.txList = (s.failedList i).filter (fun g => !(s.errorFalls && g.isRecall)) := by
  have list : (failAttempt i cause s).line.txList =
      (s.failedList i).filter (fun g => !((failed i cause s).recallFalls && g.isRecall)) := by
    rw [failAttempt_eq, checkFault_list, countAttempt_list]
    rfl
  rw [list]
  by_cases ends : s.DropEnds i
  · rw [failed_falls_of_ends cause ends]
    by_cases runs : s.recallRunning = true
    · have none := any_failedList_of_dropEnds arrival runs ends
      refine List.filter_congr fun g hg => ?_
      rw [List.any_eq_false] at none
      simp [none g hg]
    · simp [State.errorFalls, runs]
  · rw [failed_falls_of_stands cause ends]

/-- The order after a bit error (R32, R176, R177). -/
theorem failAttempt_order (i : InFlight) (cause : BitErrorCause) (s : State) :
    (s.DropEnds i ∨ s.errorFalls = true → (failAttempt i cause s).order = s.order.lineDown)
      ∧ (¬ s.DropEnds i → s.errorFalls = false → (failAttempt i cause s).order = s.order) := by
  have order : (failAttempt i cause s).order = if (failed i cause s).recallFalls = true then
      (failed i cause s).order.lineDown else (failed i cause s).order := checkFault_order _
  obtain ⟨ended, stood⟩ := failed_order i cause s
  rw [order]
  by_cases ends : s.DropEnds i
  · rw [failed_falls_of_ends cause ends]
    exact ⟨fun _ => ended ends, fun stands => absurd ends stands⟩
  · rw [failed_falls_of_stands cause ends, stood ends]
    refine ⟨fun falls => ?_, fun _ falls => by rw [falls]; rfl⟩
    rw [if_pos (falls.resolve_left ends)]

theorem failAttempt_values (i : InFlight) (cause : BitErrorCause) (s : State) :
    let t := failAttempt i cause s
    t.line.errors = min 255 (s.line.errors + 8) ∧ t.line.inFlight = none ∧ t.line.rx = s.afterBitError cause
      ∧ t.line.fault = (s.line.fault || decide (96 ≤ t.line.errors)) ∧ t.naming = (failed i cause s).naming
      ∧ t.roster = (failed i cause s).roster ∧ t.line.txDrops = (failed i cause s).line.txDrops
      ∧ t.pins = s.pins := by
  have inFlight : (failAttempt i cause s).line.inFlight = none := by
    rw [failAttempt_eq]
    by_cases h : (failed i cause s).line.fault = true ∨ (failed i cause s).line.errors < Config.faultEntry
    · rw [← failed, checkFault_of_stays h]
      simp [failed]
    · rw [not_or, Bool.not_eq_true, Nat.not_lt] at h
      rw [← failed, checkFault_of_enters h.1 h.2]
      simp
  refine ⟨?_, inFlight, ?_, ?_, ?_, ?_, ?_, ?_⟩
  all_goals simp [failAttempt_eq, failed, satAdd, Config.maxErrors, Config.faultEntry]

/-- An attempt that drops no frame leaves the owners and the drop count (R11). -/
theorem failed_of_kept (cause : BitErrorCause)
    (kept : s.line.frame i.tag = none ∨ ∃ f, s.line.frame i.tag = some f ∧ f.attempts + 1 < 4) :
    (failed i cause s).line.txDrops = s.line.txDrops ∧ (failed i cause s).naming = s.naming
      ∧ (failed i cause s).roster = s.roster := by
  rcases kept with gone | ⟨f, frame, few⟩
  · rw [failed, countAttempt_of_none (s := endInError cause s) gone]
    exact ⟨rfl, rfl, rfl⟩
  · rw [failed, countAttempt_of_few (s := endInError cause s) frame few]
    exact ⟨rfl, rfl, rfl⟩

/-- The fourth failed attempt drops its frame, and the frame's owner is told (R11, R32). -/
theorem failed_of_fourth (cause : BitErrorCause) (frame : s.line.frame i.tag = some f) (fourth : 4 ≤ f.attempts + 1) :
    (failed i cause s).line.txDrops = min 65535 (s.line.txDrops + 1)
      ∧ (∀ n, f.ref = .adoptionProbe n → (failed i cause s).naming = s.naming
          ∧ (failed i cause s).roster = { s.roster with asked := s.roster.asked.map (fun a => if a.tag = some i.tag then
              { a with probe := .unsent, window := none, tag := none } else a) })
      ∧ (∀ x w, f.ref = .claimObjection x w → (failed i cause s).roster = s.roster
          ∧ (failed i cause s).naming = { s.naming with tickets := s.naming.tickets.filter (fun k => k.tag != i.tag) })
      ∧ ((∀ n, f.ref ≠ .adoptionProbe n) → (∀ x w, f.ref ≠ .claimObjection x w) →
          (failed i cause s).roster = s.roster ∧ (failed i cause s).naming = s.naming) := by
  have tag : f.tag = i.tag := (Line.frame_eq_some frame).2
  let u := countTxDrop (withdraw (fun g => g.tag == f.tag) (endInError cause s))
  obtain ⟨tickets, named⟩ := dropReport_naming f u
  obtain ⟨asked, stands⟩ := dropReport_roster f u
  rw [failed, countAttempt_of_fourth (s := endInError cause s) frame fourth, ← tag]
  refine ⟨by simp [countTxDrop, satAdd, Config.maxCount16], fun n ref => ⟨named (by simp [ref]), asked n ref⟩,
    fun x w ref => ⟨stands (by simp [ref]), tickets x w ref⟩, fun noProbe noObject => ⟨stands noProbe, named noObject⟩⟩

end

/-- Settles O26: the count, then the frame's owner, then LINE_FAULT. -/
theorem bitErrorCountsAttempt : Obligations.BitErrorCountsAttempt := by
  intro s i cause arrival inFlight isError
  have acts : exec (.bitError cause) s = .next (refreshNotices (failAttempt i cause s)) := by
    change execBitError cause s = _
    simp [execBitError, inFlight, isError]
  obtain ⟨errors, free, rx, fault, naming, roster, drops, pins⟩ := failAttempt_values i cause s
  obtain ⟨ended, stood⟩ := failAttempt_order i cause s
  have list := failAttempt_list arrival i cause
  have kept (same : s.line.frame i.tag = none ∨ ∃ f, s.line.frame i.tag = some f ∧ f.attempts + 1 < 4) :
      (failAttempt i cause s).line.txDrops = s.line.txDrops ∧ (failAttempt i cause s).naming = s.naming
        ∧ (failAttempt i cause s).roster = s.roster := by
    rw [drops, naming, roster]
    exact failed_of_kept cause same
  have down (h : s.DropEnds i ∨ s.errorFalls = true) : (failAttempt i cause s).order.state = .done
      ∧ (failAttempt i cause s).order.termination = 0xC040 := by
    rw [ended h]
    exact ⟨rfl, rfl⟩
  refine ⟨_, acts, errors, free, ?rx, fault, ?notices, fun gone => kept (.inl gone), fun f frame few =>
    kept (.inr ⟨f, frame, few⟩), ?list, ?fourth, ?falls, ?rests, ?foreign, ?beatSeq, ?stuck,
    levelsFollow_refreshNotices _, keepsPins_refreshNotices pins, ?only⟩
  case rx =>
    cases cause with
    | mismatch bit => exact rx.trans (waits_one s)
    | startMark => exact rx.trans (waits_one s)
    | endMark => exact rx.trans (waits_zero s)
  case notices =>
    rintro ⟨clear, set⟩
    have clear' : (failed i cause s).line.fault = false := by simpa [failed] using clear
    exact checkFault_notices_of_enters clear' set
  case list =>
    intro recallGone l gone left
    have falls : recallGone = s.errorFalls := gone.trans (by rw [State.errorFalls, ← errors]; rfl)
    have same : l = s.failedList i := left
    rw [falls, same]
    exact list
  case fourth =>
    intro f frame fourth
    obtain ⟨dropped, probe, object, other⟩ := failed_of_fourth cause frame fourth
    refine ⟨drops.trans dropped, fun n ref => ?_, fun x w ref => ?_, fun noProbe noObject => ?_, fun runs ref => ?_,
      fun runs ref body => ?_⟩
    · obtain ⟨naming', roster'⟩ := probe n ref
      exact ⟨naming.trans naming', roster.trans roster'⟩
    · obtain ⟨roster', naming'⟩ := object x w ref
      exact ⟨roster.trans roster', naming.trans naming'⟩
    · obtain ⟨roster', naming'⟩ := other noProbe noObject
      exact ⟨roster.trans roster', naming.trans naming'⟩
    · exact down (.inl ⟨f, frame, fourth, .inl ⟨runs, TxFrame.isPingProbe_iff.mpr ref⟩⟩)
    · exact down (.inl ⟨f, frame, fourth, .inr ⟨runs, ref, by simp [TxFrame.isRecall, body]⟩⟩)
  case falls =>
    intro runs clear high
    have falls : s.errorFalls = true := by
      have high' : 96 ≤ min 255 (s.line.errors + 8) := errors ▸ high
      rw [State.errorFalls, runs, clear, decide_eq_true high']
      rfl
    obtain ⟨state, termination⟩ := down (.inr falls)
    refine ⟨state, termination, ?_⟩
    change (failAttempt i cause s).line.txList.any TxFrame.isRecall = false
    rw [list, falls, List.any_filter]
    simp
  case rests =>
    intro noRecall noPing
    refine stood ?_ (by simp [State.errorFalls, noRecall])
    rintro ⟨f, _, _, ⟨ping, _⟩ | ⟨recall', _⟩⟩
    · simp [noPing] at ping
    · simp [noRecall] at recall'
  case only => apply State.eq_of_blocks <;> simp
  all_goals simp [failAttempt_eq]

end Sys2Proof.Machine

/-! Settles O27: a frame sent is reported to its owner (R12, R32, R49, R86, R106, R177). -/

namespace Sys2Proof.Machine

section

variable {s t u : State} {f : TxFrame} {i : InFlight}

/-- Where the census agrees with the roster, the close of an event leaves it (R129). -/
theorem testQuiet_of_agrees (h : CensusAgrees s) : testQuiet s = s := by
  have agrees := censusAgrees_iff.mp h
  unfold testQuiet
  split
  case h_1 state =>
    rw [if_neg fun quiet => (agrees.mp (quietCondition_iff.mp quiet)).1 state]
  case h_2 state =>
    rw [if_neg fun quiet => (agrees.mp (quietCondition_iff.mp quiet)).2 state]
  all_goals rfl

theorem close_of_agrees (h : CensusAgrees s) : close s = refreshNotices s := by
  rw [close, testQuiet_of_agrees h]

theorem CensusAgrees.marked (h : CensusAgrees s) (state : t.census.state = s.census.state)
    (entries : t.roster.entries = s.roster.entries) {mark : PendingClaim → PendingClaim}
    (claims : t.naming.claims = s.naming.claims.map mark) : CensusAgrees t := by
  have quiet : t.QuietHolds ↔ s.QuietHolds := by simp [State.QuietHolds, entries, claims]
  rw [censusAgrees_iff, quiet, state]
  exact censusAgrees_iff.mp h

/-- The claims as a frame sent marks those it bears on (R106). -/
def TxFrame.marks (f : TxFrame) (c : PendingClaim) : PendingClaim :=
  if f.objectsTo c.claimant = true then { c with objectSent := true } else c

/-- The asked set as a PROBE of the roster unit is sent (R86). -/
def TxFrame.opens (f : TxFrame) (s : State) (a : Asked) : Asked :=
  if f.isAdoptionProbe = true ∧ a.tag = some f.tag then { a with probe := .opened, window := some (s.toolAfter 20000) }
  else a

/-- What a frame other than a RECALL does as it is sent (R12, R32). -/
theorem sentReport_values (other : f.isRecall = false) (fits : f.refFits = true) (s : State) : sentReport f s = { s with
    line := { s.line with beatSeq := if f.body = .beat then s.line.beatSeq + 1 else s.line.beatSeq }
    naming := { s.naming with claims := s.naming.claims.map f.marks }
    roster := { s.roster with asked := s.roster.asked.map (f.opens s) }
    order := { s.order with
      pingWindow := if f.isPingProbe = true ∧ s.pingRunning = true then some (s.toolAfter 20000)
        else s.order.pingWindow } } := by
  obtain ⟨tag, body, owner, ref, attempts, started⟩ := f
  have unmarked {f : TxFrame} (no : ∀ x, f.objectsTo x = false) : f.marks = id := funext fun c => by
    simp [TxFrame.marks, no]
  have unopened {f : TxFrame} (no : f.isAdoptionProbe = false) : f.opens s = id := funext fun a => by
    simp [TxFrame.opens, no]
  cases body with
  | object x n reason counter =>
    have marks : TxFrame.marks ⟨tag, .object x n reason counter, owner, ref, attempts, started⟩ =
        fun c => if c.claimant == x then { c with objectSent := true } else c := funext fun c => by
      by_cases same : c.claimant = x
      · simp [TxFrame.marks, TxFrame.objectsTo, same]
      · simp [TxFrame.marks, TxFrame.objectsTo, same, Ne.symm same]
    have quiet : TxFrame.isAdoptionProbe ⟨tag, .object x n reason counter, owner, ref, attempts, started⟩ = false
        ∧ TxFrame.isPingProbe ⟨tag, .object x n reason counter, owner, ref, attempts, started⟩ = false := by
      cases ref <;> simp [TxFrame.refFits, TxFrame.isAdoptionProbe, TxFrame.isPingProbe] at fits ⊢
    rw [marks, unopened quiet.1]
    simp [sentReport, objectSentFor, State.withNaming, quiet.2]
  | hold x =>
    cases ref with
    | none =>
      rw [unmarked fun _ => rfl, unopened rfl]
      simp [sentReport, TxFrame.isPingProbe]
    | _ => simp [TxFrame.refFits] at fits
  | probe n =>
    cases ref with
    | adoptionProbe m =>
      have opens : TxFrame.opens ⟨tag, .probe n, owner, .adoptionProbe m, attempts, started⟩ s =
          fun a => if a.tag == some tag then { a with probe := .opened, window := some (s.toolAfter Config.probeWindow) }
            else a := funext fun a => by simp [TxFrame.opens, TxFrame.isAdoptionProbe, Config.probeWindow]
      rw [unmarked fun _ => rfl, opens]
      simp [sentReport, State.withAsked, State.withRoster, TxFrame.isPingProbe]
    | pingProbe m =>
      rw [unmarked fun _ => rfl, unopened rfl]
      by_cases running : s.pingRunning = true
      · simp [sentReport, State.withOrder, TxFrame.isPingProbe, running, Config.probeWindow]
      · simp [sentReport, TxFrame.isPingProbe, running]
    | _ => simp [TxFrame.refFits] at fits
  | beat =>
    cases ref with
    | none =>
      rw [unmarked fun _ => rfl, unopened rfl]
      simp [sentReport, State.withLine, TxFrame.isPingProbe]
    | _ => simp [TxFrame.refFits] at fits
  | _ => simp [TxFrame.isRecall] at other

theorem exec_attemptSuccess (inFlight : s.line.inFlight = some i) :
    exec .attemptSuccess s = .next (close (completeAttempt i s)) := by
  change execAttemptSuccess s = _
  simp [execAttemptSuccess, inFlight]

theorem completeAttempt_of_none (gone : s.line.frame i.tag = none) : completeAttempt i s = endInSuccess s := by
  have gone' : (endInSuccess s).line.frame i.tag = none := by simpa [Line.frame] using gone
  rw [completeAttempt_eq, gone']

theorem completeAttempt_of_frame (frame : s.line.frame i.tag = some f) :
    completeAttempt i s = sentReport f (withdraw (fun g => g.tag == i.tag) (endInSuccess s)) := by
  have frame' : (endInSuccess s).line.frame i.tag = some f := by simpa [Line.frame] using frame
  rw [completeAttempt_eq, frame']

end

/-- Settles O27. -/
theorem frameSentIsReported : Obligations.FrameSentIsReported := by
  refine ⟨fun s i f agrees inFlight frame other fits => ?_, fun s i agrees inFlight gone => ?_⟩
  · have values := sentReport_values other fits (withdraw (fun g => g.tag == i.tag) (endInSuccess s))
    have kept : CensusAgrees (completeAttempt i s) := by
      rw [completeAttempt_of_frame frame, values]
      exact agrees.marked (by simp) (by simp) (mark := f.marks) (by simp)
    have acts : exec .attemptSuccess s = .next (refreshNotices (completeAttempt i s)) := by
      rw [exec_attemptSuccess inFlight, close_of_agrees kept]
    refine ⟨_, acts, ?_⟩
    rw [completeAttempt_of_frame frame, values]
    refine ⟨by simp [bne], by simp [TxFrame.marks], by simp [TxFrame.opens, State.toolAfter],
      by simp [State.pingRunning, State.toolAfter], settles_refreshNotices (by simp) (by simp), ?_⟩
    apply State.eq_of_blocks <;> simp
  · have kept : CensusAgrees (completeAttempt i s) := by
      rw [completeAttempt_of_none gone]
      exact agrees.congr (by simp) (by simp) (by simp)
    have acts : exec .attemptSuccess s = .next (refreshNotices (completeAttempt i s)) := by
      rw [exec_attemptSuccess inFlight, close_of_agrees kept]
    refine ⟨_, acts, ?_⟩
    rw [completeAttempt_of_none gone]
    refine ⟨by simp, settles_refreshNotices (by simp) (by simp), ?_⟩
    apply State.eq_of_blocks <;> simp

end Sys2Proof.Machine

/-! Received frames, and the close of their events: what each frame obligation starts from and ends with. Settles O29: foreign
and malformed frames (R14, R15, R18, R22, R23, R127, R129). -/

namespace Sys2Proof.Machine

section

variable {s t u : State} {f : RxFrame} {c : Instr}

/-! ### A good frame -/

/-- A good frame, before its owner acts (R14, R15, R18, R127). -/
theorem goodFrame_eq (s : State) : goodFrame s = { s with line := s.line.afterGood, census := s.censusHeard } := by
  have census : (goodFrame s).census = s.censusHeard := by
    unfold goodFrame firstGoodFrame State.censusHeard
    by_cases powering : s.census.state = .powering
    · simp [powering, State.toolAfter, State.cfg, ms]
    · simp [powering]
  apply State.eq_of_blocks <;> simp [census]

@[simp] theorem goodFrame_census (s : State) : (goodFrame s).census = s.censusHeard := by rw [goodFrame_eq]

/-- What a good frame leaves of the census whatever its state (R127). -/
@[simp] theorem censusHeard_fields (s : State) :
    s.censusHeard.state.lineActive = s.census.state.lineActive ∧ s.censusHeard.generation = s.census.generation
      ∧ s.censusHeard.settling = s.census.settling ∧ s.censusHeard.returnState = s.census.returnState
      ∧ s.censusHeard.quiet = s.census.quiet := by
  unfold State.censusHeard
  split
  · next powering => simp [powering, CensusState.lineActive]
  · simp

theorem exec_received (brings : Brings f c) (heard : s.hears f = true) (ok : formOk s.ownIdentity f = true) :
    exec c s = .next (close (dispatch f (goodFrame s))) := by
  rw [exec_of_brings brings, receiveFrame_hears heard, if_pos ok]

theorem exec_malformed (brings : Brings f c) (heard : s.hears f = true) (bad : formOk s.ownIdentity f = false) :
    exec c s = .next (close (countForeign (goodFrame s))) := by
  rw [exec_of_brings brings, receiveFrame_hears heard, if_neg (by simp [bad])]

/-! ### The close of an event -/

/-- The census closes from what the event made of it, where the time base and the setup values are as they were. -/
theorem censusCloses_of (time : u.time = s.time) (setup : u.order.setup = s.order.setup) {c : Census}
    (census : u.census = c) : CensusCloses s c (close u) := by
  rw [← census]
  exact censusCloses_close (by simp [State.toolAfter, State.cfg, time, setup])

theorem close_eq (u : State) :
    close u = { u with pins := (close u).pins, census := (close u).census, notices := (close u).notices } := by
  apply State.eq_of_blocks <;> simp

/-- The closed census where the quiet condition holds in GATHERING (R129). -/
theorem close_census_of_quiet (gathering : u.census.state = .gathering) (quiet : u.QuietHolds) : (close u).census =
    { u.census with state := .quiet, returnState := .gathering, quiet := some (u.toolAfter (1000 * u.cfg.quiet)) } := by
  simp [close, testQuiet, gathering, quietCondition_iff.mpr quiet, enterQuiet, ms]

/-- Where the census is neither GATHERING nor OVERDUE, the close leaves it (R129). -/
theorem close_census_of_other (gathering : u.census.state ≠ .gathering) (overdue : u.census.state ≠ .overdue) :
    (close u).census = u.census := by
  have kept : testQuiet u = u := by
    unfold testQuiet
    split <;> simp_all
  simp [close, kept]

theorem close_census_of_seeking (noisy : ¬ u.QuietHolds) : (close u).census = u.census := by
  have kept : testQuiet u = u := by
    have loud : u.quietCondition = false := by simpa [← quietCondition_iff] using noisy
    unfold testQuiet
    split <;> simp [loud]
  simp [close, kept]

/-! ### Foreign frames -/

theorem foreignCounted_close (from_good : u = countForeign (goodFrame s)) : ForeignCounted s (close u) := by
  subst from_good
  refine ⟨by simp [countForeign, satAdd, Config.maxCount16], censusCloses_of (by simp) (by simp) (by simp),
    settles_close (by simp) (by simp), ?_⟩
  apply State.eq_of_blocks <;> simp

end

/-! ### The form checks (R22) -/

theorem key_toNat (k : Key) : k.toNat = (k.extractLsb' 6 42).toNat * 64 + (k.extractLsb' 0 6).toNat := by
  simp [BitVec.extractLsb'_toNat, Nat.shiftRight_eq_div_pow]
  have bound := k.isLt
  omega

theorem senderKeyOk_iff (k : Key) : senderKeyOk k = true ↔
    k.extractLsb' 6 42 = 0 ∧ 1 ≤ (k.extractLsb' 0 6).toNat ∧ (k.extractLsb' 0 6).toNat ≤ 62 := by
  have split := key_toNat k
  have low := (k.extractLsb' 0 6).isLt
  have zero : k.extractLsb' 6 42 = 0 ↔ (k.extractLsb' 6 42).toNat = 0 := by rw [← BitVec.toNat_inj]; rfl
  have range : senderKeyOk k = true ↔ 1 ≤ k.toNat ∧ k.toNat ≤ 62 := by
    rw [senderKeyOk, Bool.and_eq_true, decide_eq_true_iff, decide_eq_true_iff]
    rfl
  rw [range, zero]
  omega

theorem validIdentity_iff (own : Option Identity) (x : Identity) : validIdentity own x = true ↔
    x.extractLsb' 32 16 ≠ 0x0000 ∧ x.extractLsb' 32 16 ≠ 0xFFFF ∧ own ≠ some x := by
  simp [validIdentity, validMaker, makerOf, and_assoc]

theorem byteIn_iff (lo hi : Nat) (b : Byte) : byteIn lo hi b = true ↔ lo ≤ b.toNat ∧ b.toNat ≤ hi := by
  simp [byteIn]

/-- The form checks are those of 02 Table 3, kind by kind (R22). -/
theorem formOk_iff (own : Option Identity) (f : RxFrame) : formOk own f = true ↔ FormChecks own f := by
  obtain ⟨key, body⟩ := f
  cases body with
  | object claimant name reason counter =>
    simp [formOk, FormChecks, senderKeyOk_iff, validIdentity_iff, byteIn_iff, and_assoc]
  | call cause => simp [formOk, FormChecks, senderKeyOk_iff]
  | hold holder => simp [formOk, FormChecks, senderKeyOk_iff, validIdentity_iff]
  | claim name tryCount => simp [formOk, FormChecks, validIdentity_iff, byteIn_iff]
  | announce path revision wish => simp [formOk, FormChecks, validIdentity_iff, byteIn_iff, and_assoc]
  | probe target => simp [formOk, FormChecks, senderKeyOk_iff, byteIn_iff]
  | beat sequence window => simp [formOk, FormChecks, senderKeyOk_iff]
  | release holder => simp [formOk, FormChecks, senderKeyOk_iff, validIdentity_iff]
  | _ => simp [formOk, FormChecks, senderKeyOk_iff]

theorem exec_foreignFrame {s : State} {f : WireFrame} (unknown : fixedLength f.kind.toNat = none)
    (short : f.payload.length ≤ 9)
    (heard : s.mayHear (arbitrationField f.kind f.key) (receivedHalves f.payload.length) = true) :
    exec (.foreignFrame f) s = .next (close (countForeign (goodFrame s))) := by
  change execForeignFrame f s = _
  simp [execForeignFrame, unknown, short, heard]

/-- Settles O29. -/
theorem foreignFramesAreCounted : Obligations.ForeignFramesAreCounted :=
  ⟨fun _ => ⟨fun _ heard unknown short => ⟨_, exec_foreignFrame unknown short heard, foreignCounted_close rfl⟩,
    fun f heard bad => ⟨_, exec_malformed (f := f) rfl heard bad, foreignCounted_close rfl⟩⟩, formOk_iff⟩

end Sys2Proof.Machine

/-! Settles O28: a recall reaches every owner of tool state (R33, R37, R96, R122, R135, R156, R176, R177). -/

namespace Sys2Proof.Machine

section

variable {s g : State} {sender : Name}

/-- The members of a list that meet a test, once one that fails it has entered. -/
theorem filter_insertBy_of_failing {α : Type} {p : α → Bool} {x : α} (fails : p x = false) (behind : α → Bool) (l : List α) :
    (insertBy behind x l).filter p = l.filter p := by
  induction l with
  | nil => simp [insertBy, fails]
  | cons y l ih =>
    rw [insertBy]
    split
    · rw [List.filter_cons, if_neg (by simp [fails])]
    · rw [List.filter_cons, List.filter_cons, ih]

theorem filter_insertFrame_of_failing {p : TxFrame → Bool} {f : TxFrame} (fails : p f = false) (l : List TxFrame) :
    (insertFrame f l).filter p = l.filter p := filter_insertBy_of_failing fails _ l

/-- The list a recall leaves: the BEAT, and the PROBE of a running PING that was in it (R33, R177). -/
def recalledList (s : State) : List TxFrame :=
  let beats := s.line.txList.filter TxFrame.isBeat
  if s.line.txList.any TxFrame.isPingProbe && (endRecalled s s).pingRunning then
    insertFrame (offeredFrame (.probe s.order.operand.toNat) .order (.pingProbe s.order.operand.toNat) s.line) beats
  else beats

theorem endRecalled_order {t : State} (order : t.order = s.order) : (endRecalled s t).order = (endRecalled s s).order := by
  have running : t.recallRunning = s.recallRunning := by simp [State.recallRunning, order]
  unfold endRecalled endRecallOrder
  rw [running]
  by_cases waits : s.line.txList.any TxFrame.isRecall = true
  · by_cases h : s.recallRunning = true
    · simp [waits, h, order]
    · simp [waits, h, order]
  · simp [waits, order]

theorem offerOutcome_probe {n : Name} (room : s.line.txList.length < 12) : offerOutcome (.probe n) s = .inserted := by
  simp [offerOutcome, room, Config.txCapacity]

/-- What a recall makes of the transmit list and of the order (R33, R176, R177). -/
theorem takeRecall_line (sender : Name) (room : (s.line.txList.filter TxFrame.isBeat).length < 12) :
    (takeRecall sender s).line = { s.line with txList := recalledList s, nextTag := (takeRecall sender s).line.nextTag }
      ∧ (takeRecall sender s).order = (endRecalled s s).order := by
  have order : (endRecalled s (emptyOwners sender s)).order = (endRecalled s s).order := endRecalled_order (by simp)
  have running : (endRecalled s (emptyOwners sender s)).pingRunning = (endRecalled s s).pingRunning := by
    simp [State.pingRunning, order]
  rw [takeRecall_eq]
  dsimp only
  rw [running, recalledList]
  by_cases waits : (s.line.txList.any TxFrame.isPingProbe && (endRecalled s s).pingRunning) = true
  · have inserted (n : Name) : offerOutcome (.probe n) (endRecalled s (emptyOwners sender s)) = .inserted :=
      offerOutcome_probe (by simpa using room)
    rw [if_pos waits, if_pos waits, offerPingProbe_line, offerFrame_inserted (inserted _), offerPingProbe]
    simp [inserted, Offer.entered, order, offeredFrame]
  · rw [if_neg waits, if_neg waits]
    simp [order]

theorem filter_isBeat_recalledList (s : State) :
    (recalledList s).filter TxFrame.isBeat = s.line.txList.filter TxFrame.isBeat := by
  unfold recalledList
  dsimp only
  split
  · rw [filter_insertFrame_of_failing (by simp [offeredFrame, TxFrame.isBeat]), List.filter_filter]
    simp
  · simp

theorem beat_or_probe_of_mem_recalledList {f : TxFrame} (mem : f ∈ recalledList s) :
    f.isBeat = true ∨ f.isPingProbe = true := by
  unfold recalledList at mem
  dsimp only at mem
  split at mem
  · rcases mem_insertFrame.mp mem with rfl | mem
    · exact .inr rfl
    · exact .inl (List.mem_filter.mp mem).2
  · exact .inl (List.mem_filter.mp mem).2

/-- The recall taken in g is one of the state s, of which g keeps all but the line, the census state and the order (R96). -/
theorem recallTaken_close (sender : Name) (active : g.census.state.lineActive = true)
    (beats : g.line.txList.filter TxFrame.isBeat = s.line.txList.filter TxFrame.isBeat)
    (room : (s.line.txList.filter TxFrame.isBeat).length < 12)
    (line : g.line.txDrops = s.line.txDrops ∧ g.line.foreign = s.line.foreign ∧ g.line.beatSeq = s.line.beatSeq
      ∧ g.line.errors = s.line.errors - 1)
    (setup : g.order.setup = s.order.setup)
    (census : g.census.generation = s.census.generation ∧ g.census.settling = s.census.settling)
    (rest : g = { s with line := g.line, census := g.census, order := g.order }) :
    RecallTaken sender s (close (takeRecall sender g)) := by
  obtain ⟨taken, -⟩ := takeRecall_line sender (s := g) (beats ▸ room)
  obtain ⟨roster, naming, recalled, service, changes⟩ := takeRecall_values sender g
  obtain ⟨drops, foreign, sequence, errors⟩ := line
  obtain ⟨generation, settling⟩ := census
  obtain ⟨pins, time, coupling, owned, waits, queued, entries, notices, snapshot⟩ : g.pins = s.pins ∧ g.time = s.time
      ∧ g.coupling = s.coupling ∧ g.naming = s.naming ∧ g.service = s.service ∧ g.changes = s.changes
      ∧ g.roster = s.roster ∧ g.notices = s.notices ∧ g.snapshot = s.snapshot := by
    rw [rest]
    exact ⟨rfl, rfl, rfl, rfl, rfl, rfl, rfl, rfl, rfl⟩
  have quiet : (takeRecall sender g).QuietHolds := by
    rw [State.QuietHolds, roster, naming]
    exact ⟨nofun, rfl⟩
  have after (n : Nat) : g.toolAfter n = s.toolAfter n := by simp [State.toolAfter, time]
  have cfg : g.cfg = s.cfg := by simp [State.cfg, setup]
  have later (n : Nat) : (takeRecall sender g).toolAfter n = s.toolAfter n := by simp [State.toolAfter, time]
  have cfg' : (takeRecall sender g).cfg = s.cfg := by simp [State.cfg, setup]
  have gathers : (recallCensus g).census = { s.census with
      state := .gathering, returnState := .gathering, firstFrame := none, quiet := none,
      deadline := some (s.toolAfter (1000 * s.cfg.census)) } := by
    simp [recallCensus, active, after, cfg, ms, generation, settling]
  have census : (close (takeRecall sender g)).census = { s.census with
      state := .quiet, returnState := .gathering, firstFrame := none, quiet := some (s.toolAfter (1000 * s.cfg.quiet)),
      deadline := some (s.toolAfter (1000 * s.cfg.census)) } := by
    rw [close_census_of_quiet (by rw [recalled, gathers]) quiet, recalled, gathers, later, cfg']
  have record : (takeRecall sender g).changes = (queueRecord .recalled sender none s.roster.entries.length s).changes := by
    rw [changes, entries]
    exact queueRecord_changes_congr queued (congrArg TimeBase.now time) _ _ _ _
  have list : (takeRecall sender g).line.txList = recalledList g := by rw [taken]
  refine ⟨by simp [roster], by simp [naming, owned], by simp [service, waits], census, by simp [record], ?_, fun f mem => ?_,
    ?_, by simp [foreign], by simp [sequence], by simp [errors], by simp [time], by simp [coupling], by simp [snapshot],
    settles_close (by simp [pins]) (by simp [notices])⟩
  · simp only [close_frame]
    rw [list, filter_isBeat_recalledList, beats]
  · exact beat_or_probe_of_mem_recalledList (by simpa [list] using mem)
  · simp only [close_frame]
    rw [taken]
    exact drops

theorem exec_recallReceived {key : Key} {reason : Byte} (heard : s.hears ⟨key, .recall reason⟩ = true)
    (ok : senderKeyOk key = true) :
    exec (.recallReceived key reason) s = .next (close (takeRecall key.toNat (goodFrame s))) :=
  exec_received (f := ⟨key, .recall reason⟩) rfl heard ok

theorem State.not_recallRunning_of_pingRunning (h : s.pingRunning = true) : s.recallRunning = false := by
  by_contra running
  simp [State.not_pingRunning_of_recallRunning (by simpa using running)] at h

/-- The order after the recall of another station (R176, R177). -/
theorem endRecalled_of_running (running : s.recallRunning = true) (waits : s.line.txList.any TxFrame.isRecall = true) :
    (endRecalled s s).order =
      { s.order with state := .done, termination := 0x8000, detail := 1, pingIdentity := none, pingWindow := none } := by
  simp [endRecalled, waits, endRecallOrder, running, terminationWord]

theorem endRecalled_of_not_running (running : s.recallRunning = false) : endRecalled s s = s := by
  simp [endRecalled, endRecallOrder, running]

theorem any_pingProbe_recalledList (running : s.pingRunning = true) (waits : s.line.txList.any TxFrame.isPingProbe = true) :
    (recalledList s).any TxFrame.isPingProbe = true := by
  have rest : endRecalled s s = s := endRecalled_of_not_running (State.not_recallRunning_of_pingRunning running)
  rw [recalledList, rest, if_pos (by simp [running, waits]), any_insertFrame]
  rfl

/-- The list without the RECALL that has been sent holds the BEAT still (log 11). -/
theorem filter_isBeat_of_sent {i : InFlight} {f : TxFrame} (ok : TxListOk s) (frame : s.line.frame i.tag = some f)
    (other : f.isBeat = false) :
    (s.line.txList.filter (fun g => !(g.tag == i.tag))).filter TxFrame.isBeat = s.line.txList.filter TxFrame.isBeat := by
  rw [List.filter_filter]
  refine List.filter_congr fun g mem => ?_
  obtain ⟨memF, tag⟩ := Line.frame_eq_some frame
  by_cases same : g.tag = i.tag
  · have found : g = f := (txListOk_iff.mp ok).eq_of_tag mem memF (same.trans tag.symm)
    simp [found, other]
  · simp [same]

end

/-- Settles O28. -/
theorem recallReachesEveryOwner : Obligations.RecallReachesEveryOwner := by
  refine ⟨fun s key reason heard ok active capacity beats => ?_, fun s i f active running inFlight frame body ok => ?_⟩
  · have room : ((goodFrame s).line.txList.filter TxFrame.isBeat).length < 12 := by
      simpa using Nat.lt_of_le_of_lt beats (by decide)
    have good : (goodFrame s).order = s.order := by simp
    obtain ⟨line, order⟩ := takeRecall_line key.toNat room
    refine ⟨_, exec_recallReceived heard ok, recallTaken_close _ (by simp [active]) (by simp) (by simpa using room) (by simp)
      (by simp) (by simp) (by rw [goodFrame_eq]), fun running waits => ?_, fun running waits => ?_, fun running _ => ?_⟩
    · simp only [close_frame]
      rw [order, endRecalled_of_running (by simpa [State.recallRunning] using running) (by simpa using waits)]
      exact ⟨rfl, rfl, rfl⟩
    · have pings : (goodFrame s).pingRunning = true := by simpa [State.pingRunning] using running
      simp only [close_frame]
      rw [order, line, endRecalled_of_not_running (State.not_recallRunning_of_pingRunning pings)]
      exact ⟨good, any_pingProbe_recalledList pings (by simpa using waits)⟩
    · simp only [close_frame]
      rw [order, endRecalled_of_not_running (by simpa [State.recallRunning] using running)]
      exact good
  · have unsent : f.isBeat = false := by simp [TxFrame.isBeat, body]
    have sent : sentReport f (withdraw (fun g => g.tag == i.tag) (endInSuccess s)) =
        takeRecall 0 (endRecallOrder none 0 (withdraw (fun g => g.tag == i.tag) (endInSuccess s))) := by
      simp only [sentReport, body]
    have ended : (endRecallOrder none 0 (withdraw (fun g => g.tag == i.tag) (endInSuccess s))).order =
        { s.order with state := .done, termination := 0x8000, detail := 0, pingIdentity := none, pingWindow := none } := by
      have running' : (withdraw (fun g => g.tag == i.tag) (endInSuccess s)).recallRunning = true := by
        simpa [State.recallRunning] using running
      simp [endRecallOrder, running', terminationWord]
    have single := (txListOk_iff.mp ok).single
    have beats : (endRecallOrder none 0 (withdraw (fun g => g.tag == i.tag) (endInSuccess s))).line.txList.filter
        TxFrame.isBeat = s.line.txList.filter TxFrame.isBeat := by
      simpa using filter_isBeat_of_sent ok frame unsent
    have room : (s.line.txList.filter TxFrame.isBeat).length < 12 := Nat.lt_of_le_of_lt single (by decide)
    obtain ⟨-, order⟩ := takeRecall_line 0 (beats ▸ room)
    refine ⟨_, exec_attemptSuccess inFlight, ?_⟩
    rw [completeAttempt_of_frame frame, sent]
    refine ⟨recallTaken_close 0 (by simp [active]) beats room (by simp) (by simp) (by simp) ?_, ?_⟩
    · apply State.eq_of_blocks <;> simp
    · simp only [close_frame]
      rw [order, endRecalled_of_not_running (State.not_recallRunning_of_rest (by simp [ended])), ended]
      exact ⟨rfl, rfl, rfl⟩

end Sys2Proof.Machine

/-! What the operations of the roster and naming units read, and what they make of a state as a whole: one equation per
operation and case. -/

namespace Sys2Proof.Machine

section

variable {s t u : State}

/-! ### Two states with one roster -/

section

variable (entries : t.roster.entries = s.roster.entries)

include entries

theorem State.holder_congr (n : Name) : t.holder n = s.holder n := by simp [State.holder, entries]

theorem State.entryOf_congr (x : Identity) : t.entryOf x = s.entryOf x := by simp [State.entryOf, entries]

theorem State.bridgeAbove_congr (e : Entry) : t.bridgeAbove e = s.bridgeAbove e := by
  simp [State.bridgeAbove, State.holder_congr entries]

theorem State.behindLost_congr (e : Entry) : t.behindLost e = s.behindLost e := by
  simp [State.behindLost, State.bridgeAbove_congr entries]

theorem State.chainAbove_congr (depth : Nat) (e : Entry) : t.chainAbove depth e = s.chainAbove depth e := by
  induction depth generalizing e with
  | zero => rfl
  | succ depth ih => simp [State.chainAbove, State.bridgeAbove_congr entries, ih]

theorem State.isBehind_congr (e : Entry) (x : Identity) : t.isBehind e x = s.isBehind e x := by
  simp [State.isBehind, State.bridgesAbove, State.chainAbove_congr entries]

theorem pathOk_congr (x : Identity) (p : Name) : pathOk x p t = pathOk x p s := by
  simp [pathOk, State.holder_congr entries, State.isBehind_congr entries]

theorem State.freeSlot_congr : t.freeSlot = s.freeSlot := by simp [State.freeSlot, entries]

variable (plan : t.naming.plan = s.naming.plan)

include plan

theorem State.freeFor_congr (x : Identity) (n : Name) : t.freeFor x n = s.freeFor x n := by
  have stands (p : PlanEntry) : t.naming.standsAgainst x p = s.naming.standsAgainst x p := by
    simp [Naming.standsAgainst, Naming.exactFor, Naming.boundTo, plan]
  simp [State.freeFor, State.holder_congr entries, State.claimedByOther, Naming.reservedAgainst, entries, plan, stands]

theorem State.freeReserved_congr (x : Identity) : t.freeReserved x = s.freeReserved x := by
  have reserved : t.naming.reservation x = s.naming.reservation x := by simp [Naming.reservation, plan]
  simp [State.freeReserved, reserved, State.freeFor_congr entries plan]

theorem State.freePrior_congr (x : Identity) : t.freePrior x = s.freePrior x := by
  simp [State.freePrior, State.entryOf_congr entries, State.freeFor_congr entries plan]

theorem State.counterOffer_congr (x : Identity) : t.counterOffer x = s.counterOffer x := by
  have free : t.freeFor x = s.freeFor x := funext (State.freeFor_congr entries plan x)
  simp [State.counterOffer, State.freeReserved_congr entries plan, State.freePrior_congr entries plan, free]

end

/-! ### A good frame leaves the roster and the naming unit -/

@[simp] theorem goodFrame_holder (n : Name) : (goodFrame s).holder n = s.holder n := State.holder_congr (by simp) n

@[simp] theorem goodFrame_entryOf (x : Identity) : (goodFrame s).entryOf x = s.entryOf x := State.entryOf_congr (by simp) x

@[simp] theorem goodFrame_behindLost (e : Entry) : (goodFrame s).behindLost e = s.behindLost e :=
  State.behindLost_congr (by simp) e

@[simp] theorem goodFrame_pathOk (x : Identity) (p : Name) : pathOk x p (goodFrame s) = pathOk x p s :=
  pathOk_congr (by simp) x p

@[simp] theorem goodFrame_freeSlot : (goodFrame s).freeSlot = s.freeSlot := State.freeSlot_congr (by simp)

@[simp] theorem goodFrame_freeFor (x : Identity) (n : Name) : (goodFrame s).freeFor x n = s.freeFor x n :=
  State.freeFor_congr (by simp) (by simp) x n

@[simp] theorem goodFrame_toolAfter (n : Nat) : (goodFrame s).toolAfter n = s.toolAfter n := by simp [State.toolAfter]

@[simp] theorem goodFrame_cfg : (goodFrame s).cfg = s.cfg := by simp [State.cfg]

@[simp] theorem goodFrame_claimValue : (goodFrame s).claimValue = s.toolAfter (1000 * s.cfg.claim) := by
  simp [State.claimValue, ms]

@[simp] theorem goodFrame_silenceValue : (goodFrame s).silenceValue = s.toolAfter (1000 * s.cfg.silence) := by
  simp [State.silenceValue, ms]

theorem goodFrame_record (kind : ChangeKind) (name : Name) (identity : Option Identity) (detail : Nat) :
    (queueRecord kind name identity detail (goodFrame s)).changes = (queueRecord kind name identity detail s).changes :=
  queueRecord_changes_congr (by simp) (by simp) _ _ _ _

theorem goodFrame_record_ite (c : Prop) [Decidable c] (k k' : ChangeKind) (n n' : Name) (x x' : Option Identity) (d d' : Nat) :
    (if c then queueRecord k n x d (goodFrame s) else queueRecord k' n' x' d' (goodFrame s)).changes =
      (if c then queueRecord k n x d s else queueRecord k' n' x' d' s).changes := by
  split <;> exact goodFrame_record _ _ _ _

theorem goodFrame_record_unless (c : Prop) [Decidable c] (kind : ChangeKind) (name : Name) (identity : Option Identity)
    (detail : Nat) : (if c then goodFrame s else queueRecord kind name identity detail (goodFrame s)).changes =
      (if c then s else queueRecord kind name identity detail s).changes := by
  split
  · simp
  · exact goodFrame_record _ _ _ _

theorem RosterOk.goodFrame (ok : RosterOk s) : RosterOk (Machine.goodFrame s) := by
  rw [goodFrame_eq]
  exact ok

/-! ### An entry to HEARD and the census (R127, R131, R133) -/

theorem heardReported_eq (s : State) : heardReported s = { s with census := (heardReported s).census } := by
  apply State.eq_of_blocks <;> simp

theorem heardReported_census_congr (census : t.census = s.census) (time : t.time = s.time)
    (setup : t.order.setup = s.order.setup) : (heardReported t).census = (heardReported s).census := by
  have after (n : Nat) : t.toolAfter n = s.toolAfter n := by simp [State.toolAfter, time]
  have cfg : t.cfg = s.cfg := by simp [State.cfg, setup]
  unfold heardReported
  rw [census]
  split
  · split <;> simp [after, cfg]
  all_goals simp [after, cfg, census]

/-- The census has been told of an entry to HEARD (R127, R131, R133). -/
theorem censusReopened_of (active : s.census.state.lineActive = true)
    (census : u.census = (heardReported (goodFrame s)).census) : CensusReopened s u := by
  rw [CensusReopened, census]
  have good := goodFrame_census s
  cases state : s.census.state with
  | absent => simp [state, CensusState.lineActive] at active
  | parked => simp [state, CensusState.lineActive] at active
  | quiet =>
    cases ret : s.census.returnState with
    | gathering =>
      cases deadline : s.census.deadline <;>
        simp [heardReported, State.censusHeard, state, ret, deadline, ms]
    | overdue => simp [heardReported, State.censusHeard, state, ret]
  | _ => simp [heardReported, State.censusHeard, state, ms]

/-- So it stands as the event closes, since that entry seeks a name. -/
theorem censusReopened_close (active : s.census.state.lineActive = true) (seeks : ¬ u.QuietHolds)
    (census : u.census = (heardReported (goodFrame s)).census) : CensusReopened s (close u) :=
  censusReopened_of active ((close_census_of_seeking seeks).trans census)

/-! ### Creation (R74, R75, R107) -/

theorem createHeard_of_slot {k : Nat} (free : s.freeSlot = some k) (x : Identity) (p : Name) (revision : Byte) :
    createHeard x p revision s = { s with
      roster := { s.roster with
        entries := insertBy (fun g => decide (k < g.slot)) (joiningEntry k x p revision s) s.roster.entries }
      census := (heardReported s).census
      changes := (queueRecord .joined 0 (some x) p s).changes } := by
  have census : (heardReported (insertEntry (joiningEntry k x p revision s) s)).census = (heardReported s).census :=
    heardReported_census_congr (by simp) (by simp) (by simp)
  have changes : (queueRecord .joined 0 (some x) p (heardReported (insertEntry (joiningEntry k x p revision s) s))).changes
      = (queueRecord .joined 0 (some x) p s).changes := queueRecord_changes_congr (by simp) (by simp) _ _ _ _
  have created : createHeard x p revision s =
      queueRecord .joined 0 (some x) p (heardReported (insertEntry (joiningEntry k x p revision s) s)) := by
    rw [createHeard, free]
    rfl
  rw [created]
  apply State.eq_of_blocks <;> simp [census, changes]
  rfl

theorem creationFails_eq (x : Identity) (s : State) : creationFails x s = { s with
    roster := { s.roster with fullLatch := true }
    changes := (if s.roster.fullLatch then s else queueRecord .full 0 (some x) 0 s).changes } := by
  have changes : (queueRecord .full 0 (some x) 0 (s.withRoster { s.roster with fullLatch := true })).changes
      = (queueRecord .full 0 (some x) 0 s).changes := queueRecord_changes_congr (by simp) (by simp) _ _ _ _
  unfold creationFails
  cases latch : s.roster.fullLatch with
  | false => apply State.eq_of_blocks <;> simp [changes]
  | true => apply State.eq_of_blocks <;> simp [← latch]

theorem createHeard_of_full (full : s.freeSlot = none) (x : Identity) (p : Name) (revision : Byte) :
    createHeard x p revision s = creationFails x s := by
  rw [createHeard, full]

/-! ### A name is left (R79, R80, R88) -/

/-- An entry has entered HEARD with a record. -/
theorem heardRecorded_eq (x : Identity) (f : Entry → Entry) (kind : ChangeKind) (name : Name) (identity : Option Identity)
    (detail : Nat) (s : State) : queueRecord kind name identity detail (heardReported (changeEntry x f s)) = { s with
      roster := { s.roster with entries := s.roster.entries.map (fun g => if g.identity = x then f g else g) }
      census := (heardReported s).census
      changes := (queueRecord kind name identity detail s).changes } := by
  have census : (heardReported (changeEntry x f s)).census = (heardReported s).census :=
    heardReported_census_congr (by simp) (by simp) (by simp)
  have changes : (queueRecord kind name identity detail (heardReported (changeEntry x f s))).changes
      = (queueRecord kind name identity detail s).changes := queueRecord_changes_congr (by simp) (by simp) _ _ _ _
  apply State.eq_of_blocks <;> simp [census, changes]
  simp [changeEntry, State.withEntries]

/-- The restart of a holder, before its stage goes (R79). -/
theorem restartEntry_eq (e : Entry) (f : Entry → Entry) (s : State) : restartEntry e f s =
    leaveName e.identity (e.name.getD 0) .stalled (queueRecord .restarted (e.name.getD 0) (some e.identity) 0
      (heardReported (changeEntry e.identity (fun g => f (g.leavesName s.claimValue)) s))) := by
  rw [restartEntry, changeEntry_heldToHeard]

/-- The return of a LOST entry, before its stage goes (R80). -/
theorem returnEntry_eq (e : Entry) (f : Entry → Entry) (s : State) : returnEntry e f s =
    leaveName e.identity (e.name.getD 0) .stalled (queueRecord .joined 0 (some e.identity) (f e).path
      (heardReported (changeEntry e.identity (fun g => f (g.leavesName s.claimValue)) s))) := by
  rw [returnEntry, changeEntry_heldToHeard]

/-- A conflict demotion, before the stage goes (R88). -/
theorem demoteEntry_eq (e : Entry) (recordName : Name) (detail : Nat) (s : State) : demoteEntry e recordName detail s =
    leaveName e.identity (e.name.getD 0) .stalled (queueRecord .conflict recordName (some e.identity) detail
      (heardReported (changeEntry e.identity (Entry.leavesName s.claimValue) s))) := by
  rw [demoteEntry, heldToHeard_eq]

/-- R and I without a name (R155). -/
theorem serviceLeft_eq (n : Name) (s : State) : serviceLeft n s = { s with service := { s.service with
    requests := s.service.requests.filter (fun r => r.name != n)
    inService := s.service.inService.filter (fun m => m != n) } } := rfl

theorem leaveName_of_not_bridge {x : Identity} (plain : isBridge x = false) (n : Name) (kind : ChangeKind) (s : State) :
    leaveName x n kind s = serviceLeft n s := by
  simp [leaveName, plain]

/-- A change of one entry of a table, said of each that has its identity. -/
theorem RosterOk.map_own (ok : RosterOk s) {e : Entry} (mem : e ∈ s.roster.entries) {f g : Entry → Entry}
    (same : f e = g e) : s.roster.entries.map (fun d => if d.identity = e.identity then f d else d) =
      s.roster.entries.map (fun d => if d.identity = e.identity then g d else d) := by
  refine List.map_congr_left fun d hd => ?_
  split
  · next own => rw [ok.eq_of_identity hd mem own, same]
  · rfl

theorem State.not_quietHolds_of_mem {e : Entry} (mem : e ∈ u.roster.entries) (heard : e.state = .heard) : ¬ u.QuietHolds :=
  fun quiet => (quiet.1 e mem).1 heard

theorem State.not_quietHolds_of_changed {x : Identity} {f : Entry → Entry} {e : Entry} {l : List Entry}
    (entries : u.roster.entries = l.map (fun g => if g.identity = x then f g else g)) (mem : e ∈ l)
    (own : e.identity = x) (heard : (f e).state = .heard) : ¬ u.QuietHolds :=
  State.not_quietHolds_of_mem (entries ▸ List.mem_map.mpr ⟨e, mem, if_pos own⟩) heard

end

end Sys2Proof.Machine

/-! Settles O30: an ANNOUNCE from an identity without an entry, and one whose path is refused (R74 to R77). -/

namespace Sys2Proof.Machine

section

variable {s : State} {x : Key} {path revision wish : Byte}

theorem exec_announceReceived (heard : s.hears ⟨x, .announce path revision wish⟩ = true)
    (ok : formOk s.ownIdentity ⟨x, .announce path revision wish⟩ = true) :
    exec (.announceReceived x path revision wish) s =
      .next (close (takeAnnounce x path.toNat revision (goodFrame s))) :=
  exec_received (f := ⟨x, .announce path revision wish⟩) rfl heard ok

theorem takeAnnounce_of_refused {p : Name} (refused : pathOk x p s = false) :
    takeAnnounce x p revision s = queueRecord .pathFault 0 (some x) p s := by
  simp [takeAnnounce, refused]

theorem takeAnnounce_of_stranger {p : Name} (passes : pathOk x p s = true) (stranger : s.entryOf x = none) :
    takeAnnounce x p revision s = createHeard x p revision s := by
  simp [takeAnnounce, passes, stranger]

/-- The path check of R76 looks for a bridge among the entries. -/
theorem pathPasses_iff {p : Name} (ok : RosterOk s) : pathOk x p s = true ↔ PathPasses s x p := by
  rw [pathOk_iff, PathPasses]
  refine or_congr_right (exists_congr fun b => ?_)
  have bridge : isBridge b.identity = true ↔ b.identity.extractLsb' 24 8 = 0x7E := by
    simp [isBridge, classOf, Config.bridgeClass]
  rw [State.holder_eq_some_iff ok, bridge]
  constructor
  · rintro ⟨⟨mem, held⟩, state, rest⟩
    exact ⟨mem, (Entry.holds_of_heldName held).2, state, rest⟩
  · rintro ⟨mem, name, state, rest⟩
    have holds : b.holds = true := by rcases state with state | state <;> simp [Entry.holds, state]
    exact ⟨⟨mem, by simp [Entry.heldName, holds, name]⟩, state, rest⟩

end

/-- Settles O30. -/
theorem announceOfStranger : Obligations.AnnounceOfStranger := by
  refine ⟨fun s x path revision wish heard active ok stranger => ⟨_, exec_announceReceived heard ok, ?_⟩,
    fun s x path revision wish heard ok refused => ⟨_, exec_announceReceived heard ok, ?_⟩, fun s x p ok => pathPasses_iff ok⟩
  · refine ⟨by simp, settles_close (by simp) (by simp), fun passes k free => ?_, fun passes full => ?_, fun refused => ?_, ?_⟩
    · rw [takeAnnounce_of_stranger (by simpa using passes) (by simpa using stranger), createHeard_of_slot (by simpa using free)]
      refine ⟨by simp [joiningEntry, newEntry], by simp [goodFrame_record], censusReopened_close active ?_ rfl⟩
      exact State.not_quietHolds_of_mem ((mem_insertBy _ _ _ _).mpr (.inl rfl)) rfl
    · rw [takeAnnounce_of_stranger (by simpa using passes) (by simpa using stranger), createHeard_of_full (by simpa using full),
        creationFails_eq]
      refine ⟨by simp, ?_, censusCloses_of (by simp) (by simp) (by simp)⟩
      cases latch : s.roster.fullLatch with
      | true => simp [latch]
      | false => simp [latch, goodFrame_record]
    · rw [takeAnnounce_of_refused (by simpa using refused)]
      exact ⟨by simp, by simp [goodFrame_record], censusCloses_of (by simp) (by simp) (by simp)⟩
    · have keeps : (takeAnnounce x path.toNat revision (goodFrame s)).service = s.service
          ∧ (takeAnnounce x path.toNat revision (goodFrame s)).naming = s.naming := by
        by_cases passes : pathOk x path.toNat (goodFrame s) = true
        · rw [takeAnnounce_of_stranger passes (by simpa using stranger)]
          simp
        · rw [takeAnnounce_of_refused (by simpa using passes)]
          simp
      obtain ⟨service, naming⟩ := keeps
      apply State.eq_of_blocks <;> simp [service, naming]
  · rw [takeAnnounce_of_refused (by simpa using refused)]
    refine ⟨by simp, settles_close (by simp) (by simp), by simp [goodFrame_record],
      censusCloses_of (by simp) (by simp) (by simp), ?_⟩
    apply State.eq_of_blocks <;> simp

end Sys2Proof.Machine

/-! Settles O31: an ANNOUNCE from an identity with an entry (R78 to R80, R92, R155). -/

namespace Sys2Proof.Machine

section

variable {s : State} {x : Identity} {p : Name} {revision : Byte} {e : Entry}

/-- An entry that seeks a name has the frame's path and revision, and a HEARD one its claim deadline anew (R78). -/
theorem takeAnnounce_of_seeking (passes : pathOk x p s = true) (entry : s.entryOf x = some e)
    (state : e.state = .heard ∨ e.state = .claiming) : takeAnnounce x p revision s = { s with
      roster := { s.roster with entries := s.roster.entries.map (fun g => if g.identity = x then
        { g with path := p, revision := revision, lastHeard := s.time.now,
                 claimDl := if e.state = .heard then some s.claimValue else g.claimDl }
        else g) } } := by
  rcases state with state | state <;>
    simp [takeAnnounce, passes, entry, state, changeEntry, State.withEntries, State.withRoster]

/-- A holder that is no bridge leaves its name (R79, R80). -/
theorem takeAnnounce_of_holder (ok : RosterOk s) (passes : pathOk x p s = true) (entry : s.entryOf x = some e)
    (plain : isBridge x = false) (holds : e.holds = true) {n : Name} (name : e.name = some n) :
    takeAnnounce x p revision s = { s with
      roster := { s.roster with entries := s.roster.entries.map (fun g => if g.identity = x then
        { g with state := .heard, name := none, prior := some n, path := p, revision := revision,
                 lastHeard := s.time.now, beatSeq := none, claimDl := some s.claimValue, silenceDl := none,
                 lossDl := none }
        else g) }
      census := (heardReported s).census
      changes := (if e.state = .lost then queueRecord .joined 0 (some x) p s
        else queueRecord .restarted n (some x) 0 s).changes
      service := { s.service with requests := s.service.requests.filter (fun r => r.name != n)
                                  inService := s.service.inService.filter (fun m => m != n) } } := by
  obtain ⟨mem, rfl⟩ := State.entryOf_eq_some entry
  have same := ok.map_own mem (f := fun g => (g.leavesName s.claimValue).announced p revision s.time.now)
    (g := fun g => { g with
      state := .heard, name := none, prior := some n, path := p, revision := revision, lastHeard := s.time.now,
      beatSeq := none, claimDl := some s.claimValue, silenceDl := none, lossDl := none })
    (by simp [Entry.leavesName, Entry.toHeard, Entry.announced, name])
  rw [← same]
  cases state : e.state with
  | heard => simp [Entry.holds, state] at holds
  | claiming => simp [Entry.holds, state] at holds
  | lost =>
    have returned : takeAnnounce e.identity p revision s = returnEntry e (Entry.announced p revision s.time.now) s := by
      simp only [takeAnnounce, passes, entry, state]
      rfl
    rw [returned, returnEntry_eq, leaveName_of_not_bridge plain, serviceLeft_eq, heardRecorded_eq, name]
    rfl
  | _ =>
    have restarted : takeAnnounce e.identity p revision s = restartEntry e (Entry.announced p revision s.time.now) s := by
      simp only [takeAnnounce, passes, entry, state]
      rfl
    rw [restarted, restartEntry_eq, leaveName_of_not_bridge plain, serviceLeft_eq, heardRecorded_eq, name]
    rfl

end

/-- Settles O31. -/
theorem announceOfKnown : Obligations.AnnounceOfKnown := by
  intro s x path revision wish e heard ok active formed passes entry plain
  refine ⟨_, exec_announceReceived heard formed, by simp, settles_close (by simp) (by simp), fun state => ?_, fun state n name => ?_,
    ?_⟩
  · rw [takeAnnounce_of_seeking (by simpa using passes) (by simpa using entry) state]
    exact ⟨by simp, by simp, by simp, censusCloses_of (by simp) (by simp) (by simp)⟩
  · obtain ⟨mem, own⟩ := State.entryOf_eq_some entry
    rw [takeAnnounce_of_holder ok.goodFrame (by simpa using passes) (by simpa using entry) plain
      (Entry.holds_iff.mpr state) name]
    refine ⟨by simp, by simp [goodFrame_record_ite], by simp, censusReopened_close active ?_ rfl⟩
    exact State.not_quietHolds_of_changed rfl (by simpa using mem) own rfl
  · have naming : (takeAnnounce x path.toNat revision (goodFrame s)).naming = s.naming := by
      by_cases holds : e.holds = true
      · obtain ⟨n, name, -⟩ := (ok.fits (State.entryOf_eq_some entry).1).exists_name_of_holds holds
        rw [takeAnnounce_of_holder ok.goodFrame (by simpa using passes) (by simpa using entry) plain holds name]
        simp
      · rw [takeAnnounce_of_seeking (by simpa using passes) (by simpa using entry) 
          (Entry.seeking_iff.mp (by simpa [Entry.holds_eq_not_seeking] using holds))]
        simp
    apply State.eq_of_blocks <;> simp [naming]

end Sys2Proof.Machine

/-! The sender report (R24, R82, R84), case by case. -/

namespace Sys2Proof.Machine

section

variable {s t u : State} {e o : Entry} {n : Name}

/-! ### Finding an entry that has been changed -/

theorem State.holder_map {F : Entry → Entry} (entries : t.roster.entries = s.roster.entries.map F)
    (keeps : ∀ g ∈ s.roster.entries, (F g).heldName = g.heldName) (n : Name) : t.holder n = (s.holder n).map F := by
  unfold State.holder
  rw [entries, List.find?_map]
  congr 1
  exact List.find?_congr fun g hg => by simp [keeps g hg]

theorem State.entryOf_map {F : Entry → Entry} (entries : t.roster.entries = s.roster.entries.map F)
    (keeps : ∀ g : Entry, (F g).identity = g.identity) (x : Identity) : t.entryOf x = (s.entryOf x).map F := by
  unfold State.entryOf
  rw [entries, List.find?_map]
  congr 1
  exact List.find?_congr fun g _ => by simp [keeps g]

/-! ### The sender report -/

theorem senderReport_of_lost (holder : s.holder n = some o) (lost : o.state = .lost ∧ s.behindLost o = true) :
    senderReport n s = countForeign s := by
  simp [senderReport, holder, lost]

theorem senderReport_of_holder (holder : s.holder n = some o) (open_ : ¬ (o.state = .lost ∧ s.behindLost o = true)) :
    senderReport n s = refreshHolder o s := by
  simp [senderReport, holder, open_]

theorem senderReport_of_stranger (stranger : s.holder n = none) : senderReport n s = askName n (countForeign s) := by
  simp [senderReport, stranger]

/-- The refresh of an entry (R82). -/
theorem refreshHolder_eq (holder : s.holder n = some o) : refreshHolder o s = { s with
    roster := { s.roster with entries := s.roster.entries.map (fun g => if g.identity = o.identity then
      { g with state := .named, lastHeard := s.time.now, claimDl := none, silenceDl := some s.silenceValue,
               lossDl := none } else g) }
    changes := (if o.state = .named then s else queueRecord .back n (some o.identity) 0 s).changes } := by
  obtain ⟨_, held⟩ := State.holder_eq_some holder
  have name : o.name.getD 0 = n := by simp [(Entry.holds_of_heldName held).2]
  have changes (f : Entry → Entry) : (queueRecord .back n (some o.identity) 0 (changeEntry o.identity f s)).changes
      = (queueRecord .back n (some o.identity) 0 s).changes := queueRecord_changes_congr (by simp) (by simp) _ _ _ _
  unfold refreshHolder
  rw [name]
  by_cases named : o.state = .named
  · apply State.eq_of_blocks <;> simp [named]
    simp [changeEntry, State.withEntries, Entry.toNamed]
  · apply State.eq_of_blocks <;> simp [named, changes]
    simp [changeEntry, State.withEntries, Entry.toNamed]

/-- The holder of a name once its entry has been refreshed. -/
theorem holder_refreshHolder (ok : RosterOk s) (holder : s.holder n = some o) : (refreshHolder o s).holder n =
    some { o with state := .named, lastHeard := s.time.now, claimDl := none, silenceDl := some s.silenceValue,
                  lossDl := none } := by
  obtain ⟨mem, held⟩ := State.holder_eq_some holder
  have keeps : ∀ g ∈ s.roster.entries, (if g.identity = o.identity then
      { g with state := .named, lastHeard := s.time.now, claimDl := none, silenceDl := some s.silenceValue,
               lossDl := none } else g).heldName = g.heldName := by
    intro g hg
    split
    · next own =>
      obtain rfl := ok.eq_of_identity hg mem own
      rw [held]
      exact (Entry.holds_of_heldName held).2
    · rfl
  rw [State.holder_map (by rw [refreshHolder_eq holder]) keeps, holder]
  simp

/-! ### A name is asked about (R84, R86) -/

/-- The asked set with a name in it, asked about for the first time or again. -/
def askedAnew (n : Name) (l : List Asked) (member : Asked) : List Asked :=
  if l.any (fun a => a.name == n) = true then l.map (fun a => if a.name = n then member else a) else l ++ [member]

theorem AskedOk.eq_of_name (asked : AskedOk s) {a b : Asked} (ha : a ∈ s.roster.asked) (hb : b ∈ s.roster.asked)
    (same : a.name = b.name) : a = b := List.inj_on_of_nodup_map asked.1 ha hb same

/-- A name that waits to be asked about, or is open, is left. -/
theorem askName_of_waiting (asked : AskedOk s)
    (waits : s.roster.asked.any (fun a => a.name == n && a.probe != .unsent) = true) : askName n s = s := by
  obtain ⟨a, mem, meets⟩ := List.any_eq_true.mp waits
  simp only [Bool.and_eq_true, beq_iff_eq, bne_iff_ne] at meets
  obtain ⟨name, sent⟩ := meets
  unfold askName
  cases found : s.roster.asked.find? (fun a => a.name == n) with
  | none => exact absurd (List.find?_eq_none.mp found a mem) (by simp [name])
  | some b =>
    have same : b.name = n := by simpa using List.find?_some found
    obtain rfl := asked.eq_of_name mem (List.mem_of_find?_eq_some found) (name.trans same.symm)
    simp [sent]

/-- Any other name is asked about with a PROBE. -/
theorem askName_of_unasked (unasked : s.roster.asked.any (fun a => a.name == n && a.probe != .unsent) = false) :
    askName n s = (offerFrame (.probe n) .roster (.adoptionProbe n) s).withAsked
      (askedAnew n s.roster.asked (askedMember n s)) := by
  rw [askedAnew]
  unfold askName
  cases found : s.roster.asked.find? (fun a => a.name == n) with
  | none =>
    have fresh : ¬ s.roster.asked.any (fun a => a.name == n) = true := by
      simpa [List.any_eq_true] using List.find?_eq_none.mp found
    rw [if_neg fresh]
    rfl
  | some a =>
    have name : a.name = n := by simpa using List.find?_some found
    have mem := List.mem_of_find?_eq_some found
    have there : s.roster.asked.any (fun a => a.name == n) = true := List.any_eq_true.mpr ⟨a, mem, by simp [name]⟩
    have unsent : a.probe = .unsent := by
      by_contra sent
      have waits : s.roster.asked.any (fun a => a.name == n && a.probe != .unsent) = true :=
        List.any_eq_true.mpr ⟨a, mem, by simp [name, sent]⟩
      simp [waits] at unasked
    rw [if_pos there]
    simp only [unsent, beq_self_eq_true, if_pos, beq_iff_eq]
    rfl

theorem offerOutcome_probe_full (full : 12 ≤ s.line.txList.length) : offerOutcome (.probe n) s = .dropped := by
  simp [offerOutcome, Config.txCapacity, Nat.not_lt.mpr full, TxBody.isObject, TxBody.kind]

/-- With room the PROBE enters the list. -/
theorem askName_of_room (unasked : s.roster.asked.any (fun a => a.name == n && a.probe != .unsent) = false)
    (room : s.line.txList.length < 12) : askName n s = { s with
      roster := { s.roster with
        asked := askedAnew n s.roster.asked { name := n, probe := .queued, window := none, tag := some s.line.nextTag } }
      line := { s.line with
        nextTag := s.line.nextTag + 1
        txList := insertFrame {
          tag := s.line.nextTag, body := .probe n, owner := .roster, ref := .adoptionProbe n, attempts := 0,
          started := false } s.line.txList } } := by
  rw [askName_of_unasked unasked, askedMember, offerFrame, offerOutcome_probe room]
  rfl

/-- On a full list it is dropped and counted. -/
theorem askName_of_full (unasked : s.roster.asked.any (fun a => a.name == n && a.probe != .unsent) = false)
    (full : 12 ≤ s.line.txList.length) : askName n s = { s with
      roster := { s.roster with
        asked := askedAnew n s.roster.asked { name := n, probe := .unsent, window := none, tag := none } }
      line := { s.line with txDrops := min 65535 (s.line.txDrops + 1) } } := by
  rw [askName_of_unasked unasked, askedMember, offerFrame, offerOutcome_probe_full full]
  rfl

theorem countForeign_goodFrame (s : State) : countForeign (goodFrame s) =
    { s with line := { s.line.afterGood with foreign := min 65535 (s.line.foreign + 1) }, census := s.censusHeard } := by
  rw [goodFrame_eq]
  rfl

theorem nameAsked (asked : AskedOk s) (n : Name) : NameAsked n s (askName n (countForeign (goodFrame s))) := by
  have roster : (countForeign (goodFrame s)).roster = s.roster := by simp
  have line : (countForeign (goodFrame s)).line =
      { s.line.afterGood with foreign := min 65535 (s.line.foreign + 1) } := by rw [countForeign_goodFrame]
  have list : (countForeign (goodFrame s)).line.txList = s.line.txList := by simp
  refine ⟨fun waits => ?_, fun unasked => ⟨fun room => ?_, fun full => ?_⟩⟩
  · rw [askName_of_waiting (asked.congr (by rw [roster])) (by rw [roster]; exact waits)]
    exact ⟨roster, line⟩
  · rw [askName_of_room (by rw [roster]; exact unasked) (by rw [list]; exact room), roster, line]
    exact ⟨by simp [askedAnew], by simp⟩
  · rw [askName_of_full (by rw [roster]; exact unasked) (by rw [list]; exact full), roster, line]
    exact ⟨by simp [askedAnew], by simp⟩

/-- The sender report of a good frame (R24, R82, R84). -/
theorem senderReported (asked : AskedOk s) (n : Name) : SenderReported n s (senderReport n (goodFrame s)) := by
  refine ⟨by apply State.eq_of_blocks <;> simp, fun o holder open_ => ?_, fun o holder lost => ?_, fun stranger => ?_⟩
  · have holder' : (goodFrame s).holder n = some o := by simpa using holder
    rw [senderReport_of_holder holder' (by simpa using open_), refreshHolder_eq holder']
    exact ⟨by simp, by simp, goodFrame_record_unless _ _ _ _ _⟩
  · rw [senderReport_of_lost (by simpa using holder) (by simpa using lost), countForeign_goodFrame]
    exact ⟨rfl, rfl, rfl⟩
  · rw [senderReport_of_stranger (by simpa using stranger)]
    exact ⟨nameAsked asked n, by simp⟩

end

end Sys2Proof.Machine

/-! Settles O32: BEAT and PROBE of the holder of a name (R82, R83, R85). -/

namespace Sys2Proof.Machine

section

variable {s t : State} {key : Key} {e : Entry} {n : Name} {sequence window target cause : Byte}

/-! ### The census once a holder has been refreshed -/

theorem State.censusHeard_of_heard (heard : s.census.state ≠ .powering) : s.censusHeard = s.census := if_neg heard

theorem State.quietHolds_map {F : Entry → Entry} (entries : t.roster.entries = s.roster.entries.map F)
    (seeking : ∀ g ∈ s.roster.entries, (F g).seeking = g.seeking) (claims : t.naming.claims = s.naming.claims) :
    t.QuietHolds ↔ s.QuietHolds := by
  have seeks (g : Entry) : (g.state ≠ .heard ∧ g.state ≠ .claiming) ↔ ¬ g.seeking = true := by
    rw [Entry.seeking_iff]
    tauto
  simp only [State.QuietHolds, entries, claims, seeks, List.forall_mem_map]
  exact and_congr_left fun _ => forall₂_congr fun g hg => by rw [seeking g hg]

theorem CensusAgrees.of_quiet (h : CensusAgrees s) (state : t.census.state = s.census.state)
    (quiet : t.QuietHolds ↔ s.QuietHolds) : CensusAgrees t := by
  rw [censusAgrees_iff, quiet, state]
  exact censusAgrees_iff.mp h

/-- A holder that is NAMED again leaves the census as it is (R125, R129). -/
theorem CensusAgrees.holder_changed (h : CensusAgrees s) (ok : RosterOk s) (holder : s.holder n = some e)
    {f : Entry → Entry} (state : t.census.state = s.census.state)
    (entries : t.roster.entries = s.roster.entries.map (fun g => if g.identity = e.identity then f g else g))
    (named : (f e).state = .named) (claims : t.naming.claims = s.naming.claims) : CensusAgrees t := by
  obtain ⟨mem, held⟩ := State.holder_eq_some holder
  refine h.of_quiet state (State.quietHolds_map entries (fun g hg => ?_) claims)
  split
  · next own =>
    obtain rfl := ok.eq_of_identity hg mem own
    have rests : g.seeking = false := by simpa [Entry.holds_eq_not_seeking] using (Entry.holds_of_heldName held).1
    rw [rests]
    simp [Entry.seeking, named]
  · rfl

/-! ### The beat sequence (R83) -/

theorem Entry.checkBeat_eq (q : Byte) (g : Entry) : g.checkBeat q = { g with
    beatSeq := some q
    gaps := if g.beatSeq = none ∨ g.beatSeq = some (q - 1) then g.gaps else min 255 (g.gaps + 1) } := by
  unfold Entry.checkBeat
  split
  · next none => simp [none]
  · next h some =>
    have next : q = h + 1 ↔ h = q - 1 := by constructor <;> rintro rfl <;> simp
    simp only [next, some, Option.some.injEq, reduceCtorEq, false_or]
    split <;> rfl

theorem takeBeat_of_lost (holder : s.holder n = some e) (lost : e.state = .lost) : takeBeat n sequence s = s := by
  simp [takeBeat, holder, lost]

theorem takeBeat_of_holder (holder : s.holder n = some e) (living : e.state ≠ .lost) :
    takeBeat n sequence s = changeEntry e.identity (Entry.checkBeat sequence) s := by
  simp [takeBeat, holder, living]

/-- A BEAT of a holder refreshes it and checks its sequence (R82, R83). -/
theorem takeBeat_refreshHolder (ok : RosterOk s) (holder : s.holder n = some e) :
    takeBeat n sequence (refreshHolder e s) = { s with
      roster := { s.roster with entries := s.roster.entries.map (fun g => if g.identity = e.identity then
        { g with state := .named, lastHeard := s.time.now, claimDl := none, silenceDl := some s.silenceValue,
                 lossDl := none, beatSeq := some sequence
                 gaps := if g.beatSeq = none ∨ g.beatSeq = some (sequence - 1) then g.gaps
                   else min 255 (g.gaps + 1) }
        else g) }
      changes := (if e.state = .named then s else queueRecord .back n (some e.identity) 0 s).changes } := by
  rw [takeBeat_of_holder (holder_refreshHolder ok holder) (by simp), refreshHolder_eq holder]
  apply State.eq_of_blocks <;> simp
  simp only [changeEntry, State.withEntries, State.withRoster_roster, List.map_map]
  congr 1
  refine List.map_congr_left fun g _ => ?_
  by_cases own : g.identity = e.identity
  · simp [own, Entry.checkBeat_eq]
  · simp [own]

theorem exec_beatReceived (heard : s.hears ⟨key, .beat sequence window⟩ = true) (sender : senderKeyOk key = true) :
    exec (.beatReceived key sequence window) s =
      .next (close (takeBeat key.toNat sequence (senderReport key.toNat (goodFrame s)))) :=
  exec_received (f := ⟨key, .beat sequence window⟩) rfl heard sender

theorem exec_probeReceived (heard : s.hears ⟨key, .probe target⟩ = true) (sender : senderKeyOk key = true)
    (range : 1 ≤ target.toNat ∧ target.toNat ≤ 62) :
    exec (.probeReceived key target) s = .next (close (senderReport key.toNat (goodFrame s))) := by
  have tool : target ≠ 0#8 := by
    rintro rfl
    exact absurd range.1 (by decide)
  have ok : formOk s.ownIdentity ⟨key, .probe target⟩ = true := by simp [formOk, sender, byteIn, range.2]
  rw [exec_received (c := .probeReceived key target) rfl heard ok]
  simp [dispatch, tool, senderOf]

end

/-- Settles O32. -/
theorem frameOfHolderRefreshes : Obligations.FrameOfHolderRefreshes := by
  intro s key e ok agrees heard sender holder
  have holder' : (goodFrame s).holder key.toNat = some e := by simpa using holder
  have kept : s.censusHeard = s.census := State.censusHeard_of_heard heard
  have agrees' : CensusAgrees (goodFrame s) := agrees.congr (by simp [kept]) (by simp) (by simp)
  refine ⟨fun sequence window hears => ⟨_, exec_beatReceived hears sender, ?_⟩,
    fun target hears low high => ⟨_, exec_probeReceived hears sender ⟨low, high⟩, ?_⟩⟩
  · split
    · next lost =>
      have same : (countForeign (goodFrame s)).holder key.toNat = some e := holder' ▸ State.holder_congr (by simp) _
      rw [senderReport_of_lost holder' (by simpa using lost), takeBeat_of_lost same lost.1]
      exact foreignCounted_close rfl
    · next open_ =>
      rw [senderReport_of_holder holder' (by simpa using open_), takeBeat_refreshHolder ok.goodFrame holder',
        close_of_agrees (by exact agrees'.holder_changed ok.goodFrame holder' rfl rfl rfl rfl)]
      refine ⟨by simp, by simp, ?_, settles_refreshNotices (by simp) (by simp), ?_⟩
      · exact (refreshNotices_changes _).trans (goodFrame_record_unless _ _ _ _ _)
      · apply State.eq_of_blocks <;> simp [kept]
  · split
    · next lost =>
      rw [senderReport_of_lost holder' (by simpa using lost)]
      exact foreignCounted_close rfl
    · next open_ =>
      rw [senderReport_of_holder holder' (by simpa using open_), refreshHolder_eq holder',
        close_of_agrees (by exact agrees'.holder_changed ok.goodFrame holder' rfl rfl rfl rfl)]
      refine ⟨by simp, by simp, ?_, settles_refreshNotices (by simp) (by simp), ?_⟩
      · exact (refreshNotices_changes _).trans (goodFrame_record_unless _ _ _ _ _)
      · apply State.eq_of_blocks <;> simp [kept]

end Sys2Proof.Machine

/-! Settles O33: BEAT, PROBE and CALL keyed with a name nobody holds (R84, R86). -/

namespace Sys2Proof.Machine

section

variable {s : State} {key : Key} {n : Name} {sequence window target cause : Byte}

theorem exec_callReceived (heard : s.hears ⟨key, .call cause⟩ = true) (sender : senderKeyOk key = true) :
    exec (.callReceived key cause) s =
      .next (close (takeCall key.toNat cause (senderReport key.toNat (goodFrame s)))) :=
  exec_received (f := ⟨key, .call cause⟩) rfl heard sender

theorem takeBeat_of_stranger (stranger : s.holder n = none) : takeBeat n sequence s = s := by simp [takeBeat, stranger]

theorem takeCall_of_stranger (stranger : s.holder n = none) : takeCall n cause s = s := by simp [takeCall, stranger]

/-- A member asked about again, in its own place of the asked set (R86). -/
theorem AskedOk.askedAnew_of_member (asked : AskedOk s) {a : Asked} (mem : a ∈ s.roster.asked) (name : a.name = n)
    {f : Asked → Asked} {member : Asked} (same : f a = member) :
    askedAnew n s.roster.asked member = s.roster.asked.map (fun b => if b.name = n then f b else b) := by
  have there : s.roster.asked.any (fun a => a.name == n) = true := List.any_eq_true.mpr ⟨a, mem, by simp [name]⟩
  rw [askedAnew, if_pos there]
  refine List.map_congr_left fun b hb => ?_
  split
  · next own => rw [← asked.eq_of_name mem hb (name.trans own.symm), same]
  · rfl

theorem AskedOk.window_of_unsent (asked : AskedOk s) {a : Asked} (mem : a ∈ s.roster.asked) (unsent : a.probe = .unsent) :
    a.window = none := by
  have armed := (asked.2 a mem).2
  rw [unsent] at armed
  exact Option.isSome_eq_false_iff.mp armed |> Option.isNone_iff_eq_none.mp

/-- No other member has the name of an UNSENT one, so that the name does not wait (R86). -/
theorem AskedOk.unasked_of_unsent (asked : AskedOk s) {a : Asked} (mem : a ∈ s.roster.asked) (name : a.name = n)
    (unsent : a.probe = .unsent) : s.roster.asked.any (fun a => a.name == n && a.probe != .unsent) = false := by
  rw [List.any_eq_false]
  intro b hb meets
  simp only [Bool.and_eq_true, beq_iff_eq, bne_iff_ne] at meets
  exact meets.2 (asked.eq_of_name mem hb (name.trans meets.1.symm) ▸ unsent)

theorem unasked_of_fresh {l : List Asked} (fresh : l.all (fun a => a.name != n) = true) :
    l.any (fun a => a.name == n && a.probe != .unsent) = false := by
  rw [List.any_eq_false]
  intro a mem meets
  simp only [Bool.and_eq_true, beq_iff_eq] at meets
  exact absurd meets.1 (by simpa using List.all_eq_true.mp fresh a mem)

theorem askedAnew_of_fresh {l : List Asked} (fresh : l.all (fun a => a.name != n) = true) (member : Asked) :
    askedAnew n l member = l ++ [member] := by
  have absent : ¬ l.any (fun a => a.name == n) = true := by simpa using fresh
  rw [askedAnew, if_neg absent]

/-- What the sender report of a stranger's frame leaves (R84, R86). -/
theorem senderReport_of_stranger_holder (stranger : s.holder n = none) :
    (senderReport n (goodFrame s)).holder n = none :=
  stranger ▸ State.holder_congr (by rw [senderReport_of_stranger (by simpa using stranger)]; simp) n

end

/-- Settles O33. -/
theorem strangerIsAsked : Obligations.StrangerIsAsked := by
  intro s key asked sender stranger c which
  have stranger' := senderReport_of_stranger_holder stranger
  have acts : exec c s = .next (close (askName key.toNat (countForeign (goodFrame s)))) := by
    rw [← senderReport_of_stranger (by simpa using stranger)]
    rcases which with ⟨q, w, heard, rfl⟩ | ⟨b, heard, low, high, rfl⟩ | ⟨b, heard, rfl⟩
    · rw [exec_beatReceived heard sender, takeBeat_of_stranger stranger']
    · rw [exec_probeReceived heard sender ⟨low, high⟩]
    · rw [exec_callReceived heard sender, takeCall_of_stranger stranger']
  obtain ⟨waiting, unasked⟩ := nameAsked asked key.toNat
  refine ⟨_, acts, by simp [countForeign_goodFrame], by simp, by simp, by simp, censusCloses_of (by simp) (by simp) (by simp),
    settles_close (by simp) (by simp), fun waits => ?_, fun fresh room => ?_, fun fresh full => ?_,
    fun a mem name unsent => ⟨fun room => ?_, fun full => ?_⟩, by apply State.eq_of_blocks <;> simp⟩
  · obtain ⟨roster, line⟩ := waiting waits
    simp [roster, line]
  · obtain ⟨roster, line⟩ := (unasked (unasked_of_fresh fresh)).1 room
    simp only [close_frame]
    rw [roster, line]
    exact ⟨askedAnew_of_fresh fresh _, rfl, rfl⟩
  · obtain ⟨roster, line⟩ := (unasked (unasked_of_fresh fresh)).2 full.ge
    simp only [close_frame]
    rw [roster, line]
    exact ⟨askedAnew_of_fresh fresh _, rfl, rfl⟩
  · obtain ⟨roster, line⟩ := (unasked (asked.unasked_of_unsent mem name unsent)).1 room
    simp only [close_frame]
    rw [roster, line]
    exact ⟨asked.askedAnew_of_member mem name (by simp [name, asked.window_of_unsent mem unsent]), rfl, rfl⟩
  · obtain ⟨roster, line⟩ := (unasked (asked.unasked_of_unsent mem name unsent)).2 full.ge
    simp only [close_frame]
    rw [roster, line]
    exact ⟨asked.askedAnew_of_member mem name (f := fun b => { b with tag := none })
      (by simp [name, unsent, asked.window_of_unsent mem unsent]), rfl, rfl⟩

end Sys2Proof.Machine

/-! Settles O34: a PROBE of name 0 is answered with a HOLD (R24, R25, R82, R84). -/

namespace Sys2Proof.Machine

section

variable {s : State} {key : Key} {v : Setup}

/-! ### The answer of the arm end (R25) -/

theorem answerProbe_of_waiting (waits : s.line.txList.any TxFrame.isHold = true) : answerProbe s = s := by
  simp [answerProbe, waits]

theorem answerProbe_of_room (setup : s.order.setup = some v) (free : s.line.txList.any TxFrame.isHold = false)
    (room : s.line.txList.length < 12) : answerProbe s = { s with line := { s.line with
      nextTag := s.line.nextTag + 1
      txList := insertFrame {
        tag := s.line.nextTag, body := .hold v.identity, owner := .line, ref := .none, attempts := 0, started := false }
        s.line.txList } } := by
  have inserted : offerOutcome (.hold v.identity) s = .inserted := by simp [offerOutcome, room, Config.txCapacity]
  have cfg : s.cfg = v := by simp [State.cfg, setup]
  simp [answerProbe, free, cfg, offerFrame, inserted, State.withLine]

theorem answerProbe_of_full (free : s.line.txList.any TxFrame.isHold = false) (full : 12 ≤ s.line.txList.length) :
    answerProbe s = { s with line := { s.line with txDrops := min 65535 (s.line.txDrops + 1) } } := by
  have dropped : offerOutcome (.hold s.cfg.identity) s = .dropped := by
    simp [offerOutcome, Config.txCapacity, Nat.not_lt.mpr full, TxBody.isObject, TxBody.kind]
  simp [answerProbe, free, offerFrame, dropped, countTxDrop, State.withLine, satAdd, Config.maxCount16]

theorem exec_probeOfArmEnd (heard : s.hears ⟨key, .probe 0⟩ = true) (sender : senderKeyOk key = true) :
    exec (.probeOfArmEnd key) s = .next (close (answerProbe (senderReport key.toNat (goodFrame s)))) := by
  have ok : formOk s.ownIdentity ⟨key, .probe 0⟩ = true := by simp [formOk, sender, byteIn]
  rw [exec_received (c := .probeOfArmEnd key) rfl heard ok]
  rfl

end

/-- Settles O34. -/
theorem armEndAnswersProbe : Obligations.ArmEndAnswersProbe := by
  refine ⟨fun s key v e heard sender setup holder named => ?_, fun s key v heard ok asked sender setup => ?_⟩
  · have holder' : (goodFrame s).holder key.toNat = some e := by simpa using holder
    have reported : senderReport key.toNat (goodFrame s) = refreshHolder e (goodFrame s) :=
      senderReport_of_holder holder' (by simp [named])
    have setup' : (refreshHolder e (goodFrame s)).order.setup = some v := by simp [setup]
    have changes : (refreshHolder e (goodFrame s)).changes = s.changes := by
      rw [refreshHolder_eq holder', if_pos named]
      simp
    refine ⟨_, exec_probeOfArmEnd heard sender, ?_⟩
    rw [reported]
    refine ⟨fun free room => ?_, fun waits => ?_, fun free full => ?_, by simp, by simp, ?_, by simp [changes],
      censusCloses_of (by simp) (by simp) (by simp), settles_close (by simp) (by simp),
      by apply State.eq_of_blocks <;> simp [changes]⟩
    · rw [answerProbe_of_room setup' (by simpa using free) (by simpa using room)]
      simp
    · rw [answerProbe_of_waiting (by simpa using waits)]
      simp
    · rw [answerProbe_of_full (by simpa using free) (by simpa using full)]
      simp
    · rw [refreshHolder_eq holder']
      simp
  · have setup' : (senderReport key.toNat (goodFrame s)).order.setup = some v := by simp [setup]
    refine ⟨_, _, exec_probeOfArmEnd heard sender, settles_close (by simp) (by simp), senderReported asked _, fun waits => ?_,
      fun free room => ?_, fun free full => ?_, censusCloses_of (by simp) (by simp) (by simp),
      by apply State.eq_of_blocks <;> simp⟩
    · rw [answerProbe_of_waiting waits]
      simp
    · rw [answerProbe_of_room setup' free room]
      simp
    · rw [answerProbe_of_full free full]
      simp

end Sys2Proof.Machine

/-! Claims judged and objections raised (06 sections 6.3 and 6.4): what each makes of the state as a whole. -/

namespace Sys2Proof.Machine

section

variable {s t u : State} {x : Identity} {n : Name} {e : Entry} {reason : Reason} {counter : Name}

/-! ### Two states whose entries have the same names -/

theorem Entry.heldName_congr {g e : Entry} (state : g.state = e.state) (name : g.name = e.name) : g.heldName = e.heldName := by
  unfold Entry.heldName Entry.holds
  rw [state, name]

theorem Entry.claimedName_congr_of_same {g e : Entry} (state : g.state = e.state) (name : g.name = e.name) :
    g.claimedName = e.claimedName := by
  unfold Entry.claimedName
  rw [state, name]

section

variable {F : Entry → Entry} (entries : t.roster.entries = s.roster.entries.map F)
  (same : ∀ g, (F g).identity = g.identity ∧ (F g).state = g.state ∧ (F g).name = g.name ∧ (F g).prior = g.prior)

include entries same

theorem State.holder_map_of_same (n : Name) : t.holder n = (s.holder n).map F :=
  State.holder_map entries (fun g _ => Entry.heldName_congr (same g).2.1 (same g).2.2.1) n

theorem State.entryOf_map_of_same (x : Identity) : t.entryOf x = (s.entryOf x).map F :=
  State.entryOf_map entries (fun g => (same g).1) x

variable (plan : t.naming.plan = s.naming.plan)

include plan

theorem State.freeFor_map (x : Identity) (n : Name) : t.freeFor x n = s.freeFor x n := by
  have stands (p : PlanEntry) : t.naming.standsAgainst x p = s.naming.standsAgainst x p := by
    simp [Naming.standsAgainst, Naming.exactFor, Naming.boundTo, plan]
  have claimed : t.claimedByOther x n = s.claimedByOther x n := by
    simp [State.claimedByOther, entries, List.any_map, Function.comp_def, Entry.claimedName, same]
  simp [State.freeFor, State.holder_map_of_same entries same, claimed, Naming.reservedAgainst, plan, stands]

theorem State.freeReserved_map (x : Identity) : t.freeReserved x = s.freeReserved x := by
  have reserved : t.naming.reservation x = s.naming.reservation x := by simp [Naming.reservation, plan]
  simp [State.freeReserved, reserved, State.freeFor_map entries same plan]

theorem State.freePrior_map (x : Identity) : t.freePrior x = s.freePrior x := by
  unfold State.freePrior
  rw [State.entryOf_map_of_same entries same]
  cases s.entryOf x with
  | none => rfl
  | some e => simp [same e, State.freeFor_map entries same plan]

theorem State.counterOffer_map (x : Identity) : t.counterOffer x = s.counterOffer x := by
  have free : t.freeFor x = s.freeFor x := funext (State.freeFor_map entries same plan x)
  simp [State.counterOffer, State.freeReserved_map entries same plan, State.freePrior_map entries same plan, free]

theorem claimTest_map (claims : t.naming.claims = s.naming.claims) (x : Identity) (n : Name) :
    claimTest x n t = claimTest x n s := by
  have stands (p : PlanEntry) : t.naming.standsAgainst x p = s.naming.standsAgainst x p := by
    simp [Naming.standsAgainst, Naming.exactFor, Naming.boundTo, plan]
  have claimed : t.roster.entries.any (fun e => e.claimedName == some n)
      = s.roster.entries.any (fun e => e.claimedName == some n) := by
    simp [entries, List.any_map, Function.comp_def, Entry.claimedName, same]
  unfold claimTest
  rw [State.counterOffer_map entries same plan, State.freeReserved_map entries same plan,
    State.freePrior_map entries same plan, claimed, claims]
  simp [State.holder_map_of_same entries same, State.entryOf_map_of_same entries same, Naming.reservedAgainst, plan, stands]

end

/-! ### Counting an objection (R111) -/

/-- The entry with one objection more. -/
def Entry.objected (g : Entry) : Entry :=
  { g with objections := min 15 (g.objections + 1), storm := g.storm || decide (g.objections + 1 = 8) }

/-- x has one entry at most. -/
def State.Single (s : State) (x : Identity) : Prop := ∀ g ∈ s.roster.entries, g.identity = x → s.entryOf x = some g

theorem RosterOk.single (ok : RosterOk s) (x : Identity) : s.Single x := by
  intro g hg own
  obtain ⟨e, entry⟩ : ∃ e, s.entryOf x = some e := Option.isSome_iff_exists.mp
    (List.find?_isSome.mpr ⟨g, hg, by simp [own]⟩)
  obtain ⟨mem, same⟩ := State.entryOf_eq_some entry
  rw [entry, ok.eq_of_identity mem hg (same.trans own.symm)]

theorem map_own_of_absent (absent : s.entryOf x = none) (f : Entry → Entry) :
    s.roster.entries.map (fun g => if g.identity = x then f g else g) = s.roster.entries := by
  conv_rhs => rw [← List.map_id s.roster.entries]
  refine List.map_congr_left fun g hg => ?_
  rw [if_neg (State.not_mem_of_entryOf_eq_none absent g hg)]
  rfl

theorem countObjection_of_absent (absent : s.entryOf x = none) : countObjection x s = s := by
  simp [countObjection, absent]

/-- One objection more against an entry; the eighth is recorded (R111). -/
theorem countObjection_of_entry (single : s.Single x) (entry : s.entryOf x = some e) : countObjection x s = { s with
    roster := { s.roster with entries := s.roster.entries.map (fun g => if g.identity = x then g.objected else g) }
    changes := (if e.objections + 1 = 8 ∧ e.storm = false then queueRecord .storm (e.name.getD 0) (some x) 8 s
      else s).changes } := by
  have counted (f : Entry → Entry) (same : f e = e.objected) : (changeEntry x f s).roster = { s.roster with
      entries := s.roster.entries.map (fun g => if g.identity = x then g.objected else g) } := by
    refine congrArg (fun l => { s.roster with entries := l }) (List.map_congr_left fun g hg => ?_)
    by_cases own : g.identity = x
    · have found : g = e := Option.some.inj ((single g hg own).symm.trans entry)
      rw [if_pos (by simp [own]), if_pos own, found, same]
    · simp [own]
  have changes (f : Entry → Entry) : (queueRecord .storm (e.name.getD 0) (some x) 8 (changeEntry x f s)).changes
      = (queueRecord .storm (e.name.getD 0) (some x) 8 s).changes := queueRecord_changes_congr (by simp) (by simp) _ _ _ _
  have level : (satAdd Config.maxObjections e.objections 1 == Config.stormLevel && !e.storm) = true ↔
      e.objections + 1 = 8 ∧ e.storm = false := by
    simp [satAdd, Config.maxObjections, Config.stormLevel]
    omega
  unfold countObjection
  rw [entry]
  dsimp only
  by_cases storms : e.objections + 1 = 8 ∧ e.storm = false
  · rw [if_pos (level.mpr storms), if_pos storms]
    have roster := counted (fun g => { g with objections := satAdd Config.maxObjections e.objections 1, storm := true })
      (by simp [Entry.objected, satAdd, Config.maxObjections, storms])
    apply State.eq_of_blocks <;> simp [changes, roster]
  · have storm : (e.storm || decide (e.objections + 1 = 8)) = e.storm := by
      cases set : e.storm
      · simpa [set] using storms
      · simp
    rw [if_neg fun h => storms (level.mp h), if_neg storms]
    have roster := counted (fun g => { g with objections := satAdd Config.maxObjections e.objections 1 })
      (by rw [Entry.objected, storm]; rfl)
    apply State.eq_of_blocks <;> simp [roster]

/-! ### An objection to a claim (R109, R112) -/

/-- An OBJECT enters a list with room, and takes the room of a BEAT that does not fly (R28, R29). -/
theorem objection_entered_iff : (offerOutcome (.object x n reason counter) s).entered = true ↔
    s.line.txList.length < 12 ∨ ∃ g ∈ s.line.txList, g.isBeat = true ∧ s.line.flies g = false := by
  have object : TxBody.isObject (.object x n reason counter) = true := rfl
  simp only [offerOutcome, Config.txCapacity, object]
  by_cases room : s.line.txList.length < 12
  · simp [room, Offer.entered]
  · cases displaced : s.line.displaceable with
    | some g =>
      have mem := List.mem_of_find?_eq_some displaced
      have meets := List.find?_some displaced
      simp only [Bool.and_eq_true, Bool.not_eq_true'] at meets
      simp only [room, Offer.entered, false_or]
      exact ⟨fun _ => ⟨g, mem, meets.1, meets.2⟩, fun _ => by simp⟩
    | none =>
      have none_ := List.find?_eq_none.mp displaced
      simpa [room, Offer.entered] using none_

/-- The tickets once an objection has been raised (R112). -/
theorem offerObjection_naming : (offerObjection x n reason counter s).naming = { s.naming with
    tickets := s.naming.tickets ++ if s.line.txList.length < 12 ∨ (∃ g ∈ s.line.txList, g.isBeat = true ∧ s.line.flies g = false)
      then [{ tag := s.line.nextTag, claimant := x, deadline := s.after s.cfg.window }] else [] } := by
  unfold offerObjection
  dsimp only
  simp only [objection_entered_iff]
  split <;> simp

theorem State.Single.congr (single : s.Single x) (entries : t.roster.entries = s.roster.entries) : t.Single x := by
  intro g hg own
  rw [State.entryOf_congr entries]
  exact single g (entries ▸ hg) own

/-- An OBJECT against a claim, and its ticket, as the state has them. -/
theorem offerObjection_eq (x : Identity) (n : Name) (reason : Reason) (counter : Name) (s : State) :
    offerObjection x n reason counter s = { s with
      line := (offerFrame (.object x n reason counter) .naming (.claimObjection x (s.after s.cfg.window)) s).line
      naming := { s.naming with tickets := s.naming.tickets ++
        if s.line.txList.length < 12 ∨ (∃ g ∈ s.line.txList, g.isBeat = true ∧ s.line.flies g = false) then
          [{ tag := s.line.nextTag, claimant := x, deadline := s.after s.cfg.window }] else [] } } := by
  have naming := offerObjection_naming (x := x) (n := n) (reason := reason) (counter := counter) (s := s)
  rw [← naming, ← offerObjection_line]
  unfold offerObjection
  dsimp only
  split <;> apply State.eq_of_blocks <;> simp

theorem raiseObjection_of_absent (absent : s.entryOf x = none) :
    raiseObjection x n reason counter s = offerObjection x n reason counter s := by
  rw [raiseObjection_eq, countObjection_of_absent (absent ▸ State.entryOf_congr (by simp) x)]

/-- An objection to a claim of an identity with an entry (R109, R111, R112). -/
theorem raiseObjection_of_entry (single : s.Single x) (entry : s.entryOf x = some e) (nameless : e.name = none) :
    raiseObjection x n reason counter s = { offerObjection x n reason counter s with
      roster := { s.roster with entries := s.roster.entries.map (fun g => if g.identity = x then g.objected else g) }
      changes := (if e.objections + 1 = 8 ∧ e.storm = false then queueRecord .storm 0 (some x) 8 s else s).changes } := by
  have entry' : (offerObjection x n reason counter s).entryOf x = some e := entry ▸ State.entryOf_congr (by simp) x
  have time : (offerObjection x n reason counter s).time = s.time := by rw [offerObjection_eq]
  have changes : (offerObjection x n reason counter s).changes = s.changes := by rw [offerObjection_eq]
  have record : (queueRecord .storm 0 (some x) 8 (offerObjection x n reason counter s)).changes
      = (queueRecord .storm 0 (some x) 8 s).changes :=
    queueRecord_changes_congr changes (congrArg TimeBase.now time) _ _ _ _
  rw [raiseObjection_eq, countObjection_of_entry (single.congr (by simp)) entry', nameless]
  apply State.eq_of_blocks <;> simp
  split <;> simp [record]

/-! ### A claim judged (R108 to R112) -/

theorem judgeClaim_of_test (test : claimTest x n s = some (reason, counter)) :
    judgeClaim x n s = raiseObjection x n reason counter s := by simp [judgeClaim, test]

theorem judgeClaim_of_passed (passed : claimTest x n s = none) : judgeClaim x n s = acceptClaim x n s := by
  simp [judgeClaim, passed]

theorem Line.no_room {l : Line} (full : 12 ≤ l.txList.length) (fly : ∀ g ∈ l.txList, g.isBeat = true → l.flies g = true) :
    ¬ (l.txList.length < 12 ∨ ∃ g ∈ l.txList, g.isBeat = true ∧ l.flies g = false) := by
  rintro (room | ⟨g, mem, beat, rests⟩)
  · omega
  · simp [fly g mem beat] at rests

/-- The claim of an identity whose entry, if it has one, has no name, as it stands once the event has closed. -/
theorem claimJudged (single : s.Single x) (nameless : ∀ e, s.entryOf x = some e → e.name = none) :
    ClaimJudged x n s (close (judgeClaim x n s)) := by
  refine ⟨fun passed => ?_, fun reason counter test => ?_⟩
  · rw [judgeClaim_of_passed passed, acceptClaim_eq]
    simp [changeEntry, State.withEntries, Entry.claiming, newClaim, State.after]
  · rw [judgeClaim_of_test test]
    cases entry : s.entryOf x with
    | none =>
      rw [raiseObjection_of_absent entry, offerObjection_eq]
      simp only [close_frame]
      refine ⟨rfl, fun room => by simp [if_pos room, State.after], fun full fly => ?_, ?_, nofun, by simp⟩
      · simp [Line.no_room full fly]
      · exact congrArg (fun l => { s.roster with entries := l }) (map_own_of_absent entry _).symm
    | some e =>
      rw [raiseObjection_of_entry single entry (nameless e entry), offerObjection_eq]
      simp only [close_frame]
      refine ⟨rfl, fun room => by simp [if_pos room, State.after], fun full fly => ?_, rfl, ?_, nofun⟩
      · simp [Line.no_room full fly]
      · intro d same
        rw [Option.some.inj same]

/-- Once a claim of a HEARD entry has been judged, its claimant seeks a name, or has a claim that is pending. -/
theorem judgeClaim_seeks (single : s.Single x) (entry : s.entryOf x = some e) (state : e.state = .heard)
    (nameless : e.name = none) : ¬ (judgeClaim x n s).QuietHolds := by
  obtain ⟨mem, own⟩ := State.entryOf_eq_some entry
  cases test : claimTest x n s with
  | none =>
    rw [judgeClaim_of_passed test, acceptClaim_eq]
    exact fun quiet => absurd quiet.2 (by simp)
  | some failed =>
    obtain ⟨reason, counter⟩ := failed
    rw [judgeClaim_of_test test, raiseObjection_of_entry single entry nameless]
    exact State.not_quietHolds_of_changed rfl mem own state

/-- A claim judged while its claimant seeks a name: what the event's close adds to the state it was judged on. -/
theorem close_judgeClaim (seeks : ¬ (judgeClaim x n u).QuietHolds) : close (judgeClaim x n u) = { u with
    pins := (close (judgeClaim x n u)).pins, line := (close (judgeClaim x n u)).line
    roster := (close (judgeClaim x n u)).roster, naming := (close (judgeClaim x n u)).naming
    changes := (close (judgeClaim x n u)).changes, notices := (close (judgeClaim x n u)).notices } := by
  have census := close_census_of_seeking seeks
  apply State.eq_of_blocks <;> simp [census]

/-- A record that may be queued, in two states with one change queue and one time base. -/
theorem record_if_congr (c : Prop) [Decidable c] (changes : t.changes = s.changes) (now : t.time.now = s.time.now)
    (kind : ChangeKind) (name : Name) (identity : Option Identity) (detail : Nat) :
    (if c then queueRecord kind name identity detail t else t).changes =
      (if c then queueRecord kind name identity detail s else s).changes := by
  split
  · exact queueRecord_changes_congr changes now _ _ _ _
  · exact changes

/-- The line after an offer is made of the line before it. -/
theorem offerFrame_line_congr {b : TxBody} {owner : Owner} {ref : OwnerRef} (line : t.line = s.line) :
    (offerFrame b owner ref t).line = (offerFrame b owner ref s).line := by
  have outcome : offerOutcome b t = offerOutcome b s := by simp [offerOutcome, line]
  unfold offerFrame
  rw [outcome, line]
  cases offerOutcome b s <;> simp [countTxDrop, line]

theorem State.Single.map {F : Entry → Entry} (single : s.Single x) (entries : t.roster.entries = s.roster.entries.map F)
    (keeps : ∀ g : Entry, (F g).identity = g.identity) : t.Single x := by
  intro g hg own
  obtain ⟨h, hh, rfl⟩ := List.mem_map.mp (entries ▸ hg)
  rw [State.entryOf_map entries keeps, single h hh (keeps h ▸ own)]
  rfl

/-- Two changes of the entry of one identity are one. -/
theorem map_own_map_own {f g : Entry → Entry} (keeps : ∀ e : Entry, (g e).identity = e.identity) (l : List Entry) :
    (l.map (fun e => if e.identity = x then g e else e)).map (fun e => if e.identity = x then f e else e) =
      l.map (fun e => if e.identity = x then f (g e) else e) := by
  rw [List.map_map]
  refine List.map_congr_left fun e _ => ?_
  by_cases own : e.identity = x
  · simp [own, keeps]
  · simp [own]

theorem changeEntry_eq (x : Identity) (f : Entry → Entry) (s : State) : changeEntry x f s = { s with
    roster := { s.roster with entries := s.roster.entries.map (fun g => if g.identity = x then f g else g) } } := by
  simp [changeEntry, State.withEntries, State.withRoster]

end

end Sys2Proof.Machine

/-! Settles O36: a CLAIM of an identity with an entry that seeks a name (R107 to R112). -/

namespace Sys2Proof.Machine

section

variable {s : State} {x : Key} {n tryCount : Byte} {e : Entry} {m : Name}

theorem exec_claimReceived (heard : s.hears ⟨x, .claim n tryCount⟩ = true)
    (ok : formOk s.ownIdentity ⟨x, .claim n tryCount⟩ = true) :
    exec (.claimReceived x n tryCount) s = .next (close (takeClaim x n.toNat (goodFrame s))) :=
  exec_received (f := ⟨x, .claim n tryCount⟩) rfl heard ok

theorem takeClaim_of_heard (entry : s.entryOf x = some e) (state : e.state = .heard) :
    takeClaim x m s = judgeClaim x m (changeEntry x (Entry.heardAt s.time.now) s) := by
  simp only [takeClaim, entry, state]
  rfl

theorem takeClaim_of_claiming (entry : s.entryOf x = some e) (state : e.state = .claiming) : takeClaim x m s =
    judgeClaim x m (entryToHeard x (dropClaim x (changeEntry x (Entry.heardAt s.time.now) s))) := by
  simp only [takeClaim, entry, state]
  rfl

theorem takeClaim_of_lost (entry : s.entryOf x = some e) (state : e.state = .lost) (behind : s.behindLost e = true) :
    takeClaim x m s = countForeign s := by
  simp [takeClaim, entry, state, behind]

/-- A claimant that gives up its claim has entered HEARD (R81, R107). -/
theorem entryToHeard_dropClaim (x : Identity) (s : State) : entryToHeard x (dropClaim x s) = { s with
    roster := { s.roster with entries := s.roster.entries.map (fun g => if g.identity = x then
      g.toHeard s.claimValue else g) }
    naming := { s.naming with claims := s.naming.claims.filter (fun c => c.claimant != x) }
    census := (heardReported s).census } := by
  have census : (heardReported (changeEntry x (Entry.toHeard (dropClaim x s).claimValue) (dropClaim x s))).census
      = (heardReported s).census := heardReported_census_congr (by simp) (by simp) (by simp)
  have value : (dropClaim x s).claimValue = s.claimValue := rfl
  rw [entryToHeard, heardReported_eq, census, value, changeEntry_eq]
  rfl

/-- What a CLAIMING entry is brought to by a good CLAIM of its own (R107). -/
theorem reclaimed_eq (x : Identity) (s : State) :
    entryToHeard x (dropClaim x (changeEntry x (Entry.heardAt s.time.now) (goodFrame s))) = { s with
      line := s.line.afterGood
      roster := { s.roster with entries := s.roster.entries.map (fun g => if g.identity = x then
        { g with state := .heard, name := none, lastHeard := s.time.now, beatSeq := none,
                 claimDl := some (s.toolAfter (1000 * s.cfg.claim)), silenceDl := none, lossDl := none } else g) }
      naming := { s.naming with claims := s.naming.claims.filter (fun c => c.claimant != x) }
      census := (heardReported (goodFrame s)).census } := by
  have census : (heardReported (changeEntry x (Entry.heardAt s.time.now) (goodFrame s))).census
      = (heardReported (goodFrame s)).census := heardReported_census_congr (by simp) (by simp) (by simp)
  have value : (changeEntry x (Entry.heardAt s.time.now) (goodFrame s)).claimValue = s.toolAfter (1000 * s.cfg.claim) := by
    simp [State.claimValue, ms, State.toolAfter, State.cfg]
  rw [entryToHeard_dropClaim, census, value, changeEntry_eq]
  dsimp only
  rw [map_own_map_own (g := Entry.heardAt s.time.now) fun _ => rfl]
  apply State.eq_of_blocks <;> simp [Entry.toHeard, Entry.heardAt]

theorem RosterOk.name_of_heard (ok : RosterOk s) (entry : s.entryOf x = some e) (state : e.state = .heard) : e.name = none :=
  (ok.fits (State.entryOf_eq_some entry).1).name_eq_none_iff.mpr state

end

/-- Settles O36. -/
theorem claimIsJudged : Obligations.ClaimIsJudged := by
  refine ⟨fun s x n tryCount e heard ok formed entry state => ⟨_, exec_claimReceived heard formed, ?_⟩,
    fun s x n tryCount e heard ok active formed entry state => ?_,
    fun s x n tryCount e heard formed entry state behind => ⟨_, exec_claimReceived heard formed, ?_⟩⟩
  · have time : (goodFrame s).time = s.time := by simp
    rw [takeClaim_of_heard (by simpa using entry) state, time]
    have entries : (changeEntry x (Entry.heardAt s.time.now) (goodFrame s)).roster.entries =
        s.roster.entries.map (fun g => if g.identity = x then g.heardAt s.time.now else g) := by simp
    have single := (ok.single x).map entries (fun g => by split <;> rfl)
    have found : (changeEntry x (Entry.heardAt s.time.now) (goodFrame s)).entryOf x = some (e.heardAt s.time.now) := by
      obtain ⟨_, own⟩ := State.entryOf_eq_some entry
      rw [State.entryOf_map entries (fun g => by split <;> rfl), entry]
      simp [own]
    have test : claimTest x n.toNat (changeEntry x (Entry.heardAt s.time.now) (goodFrame s)) = claimTest x n.toNat s :=
      claimTest_map entries (fun g => by split <;> exact ⟨rfl, rfl, rfl, rfl⟩) (by simp) (by simp) x n.toNat
    have judged := claimJudged (n := n.toNat) single (fun d hd => by
      rw [← Option.some.inj (found.symm.trans hd)]
      exact (ok.name_of_heard entry state :))
    obtain ⟨passes, fails⟩ := judged
    rw [test] at passes fails
    refine ⟨settles_close (by simp) (by simp), by simp, by simp, by simp, by simp, fun passed => ?_,
      fun reason counter failed => ?_, by apply State.eq_of_blocks <;> simp⟩
    · obtain ⟨roster, naming, changes, line⟩ := passes passed
      refine ⟨?_, ?_, ?_, ?_⟩
      · rw [roster]
        dsimp only
        rw [entries, map_own_map_own (g := Entry.heardAt s.time.now) fun _ => rfl]
        simp [Entry.heardAt]
      · rw [naming]
        simp [State.cfg]
      · rw [changes]
        simp
      · rw [line]
        simp
    · obtain ⟨line, roomy, full, roster, record, -⟩ := fails reason counter failed
      have claims : (judgeClaim x n.toNat (changeEntry x (Entry.heardAt s.time.now) (goodFrame s))).naming.claims
          = s.naming.claims := by
        rw [judgeClaim_of_test (test.trans failed), raiseObjection_eq]
        simp
      refine ⟨by simpa using claims, by simp, ?_, fun room => ?_, fun noRoom fly => ?_, ?_, ?_⟩
      · rw [line]
        simp only [changeEntry_frame, goodFrame_frame, State.cfg]
        exact offerFrame_line_congr (by simp)
      · rw [roomy (by simpa [Line.flies] using room)]
        simp [State.cfg]
      · rw [full (by simpa using noRoom) (by simpa [Line.flies] using fly)]
        simp
      · rw [roster]
        dsimp only
        rw [entries, map_own_map_own (g := Entry.heardAt s.time.now) fun _ => rfl]
        simp [Entry.heardAt]
      · rw [record _ found]
        exact record_if_congr _ (by simp) (by simp) _ _ _ _
  · have time : (goodFrame s).time = s.time := by simp
    have brought := reclaimed_eq x s
    have acts := exec_claimReceived heard formed
    rw [takeClaim_of_claiming (by simpa using entry) state, time] at acts
    generalize entryToHeard x (dropClaim x (changeEntry x (Entry.heardAt s.time.now) (goodFrame s))) = u at brought acts
    have entries := congrArg (fun v : State => v.roster.entries) brought
    have single := (ok.single x).map entries (fun g => by split <;> rfl)
    have found := State.entryOf_map entries (fun g => by split <;> rfl) x
    rw [entry, Option.map_some, if_pos (State.entryOf_eq_some entry).2] at found
    have seeks := judgeClaim_seeks (n := n.toNat) single found rfl rfl
    have census : u.census = (heardReported (goodFrame s)).census := by rw [brought]
    refine ⟨_, u, acts, claimJudged single fun d hd => ?_, by rw [brought], censusReopened_of active census,
      settles_close (by simp [brought]) (by simp [brought]), close_judgeClaim seeks⟩
    rw [← Option.some.inj (found.symm.trans hd)]
  · rw [takeClaim_of_lost (by simpa using entry) state (by simpa using behind)]
    exact foreignCounted_close rfl

end Sys2Proof.Machine

/-! Settles O38: a CLAIM of an identity without an entry (R74, R75, R107, R108). -/

namespace Sys2Proof.Machine

section

variable {s t u : State} {x : Identity} {n : Name} {e : Entry} {k : Nat}

theorem takeClaim_of_stranger (stranger : s.entryOf x = none) : takeClaim x n s = judgeClaim x n (createHeard x 0 0 s) := by
  simp [takeClaim, stranger]

/-! ### The entry of an identity that has just joined -/

theorem State.entryOf_of_unique (mem : e ∈ s.roster.entries) (own : e.identity = x)
    (unique : ∀ g ∈ s.roster.entries, g.identity = x → g = e) : s.entryOf x = some e := by
  obtain ⟨g, entry⟩ : ∃ g, s.entryOf x = some g := Option.isSome_iff_exists.mp
    (List.find?_isSome.mpr ⟨e, mem, by simp [own]⟩)
  obtain ⟨memg, same⟩ := State.entryOf_eq_some entry
  rw [entry, unique g memg same]

theorem mem_joined {g : Entry} (stranger : s.entryOf x = none) (entries : t.roster.entries =
    insertBy (fun g => decide (k < g.slot)) e s.roster.entries) (hg : g ∈ t.roster.entries) (own : g.identity = x) : g = e := by
  rcases (mem_insertBy _ _ _ _).mp (entries ▸ hg) with rfl | old
  · rfl
  · exact absurd own (State.not_mem_of_entryOf_eq_none stranger g old)

theorem State.entryOf_joined (stranger : s.entryOf x = none) (own : e.identity = x) (entries : t.roster.entries =
    insertBy (fun g => decide (k < g.slot)) e s.roster.entries) : t.entryOf x = some e :=
  State.entryOf_of_unique (entries ▸ (mem_insertBy _ _ _ _).mpr (.inl rfl)) own fun _ => mem_joined stranger entries

theorem State.single_joined (stranger : s.entryOf x = none) (own : e.identity = x) (entries : t.roster.entries =
    insertBy (fun g => decide (k < g.slot)) e s.roster.entries) : t.Single x := by
  intro g hg same
  rw [mem_joined stranger entries hg same]
  exact State.entryOf_joined stranger own entries

theorem State.single_of_absent (absent : s.entryOf x = none) : s.Single x :=
  fun g hg own => absurd own (State.not_mem_of_entryOf_eq_none absent g hg)

/-- The other entries once the one of x has changed. -/
theorem filter_map_own {f : Entry → Entry} (keeps : ∀ g : Entry, (f g).identity = g.identity) (l : List Entry) :
    (l.map (fun g => if g.identity = x then f g else g)).filter (fun g => g.identity != x) =
      l.filter (fun g => g.identity != x) := by
  induction l with
  | nil => rfl
  | cons g l ih =>
    by_cases own : g.identity = x
    · simp [own, keeps, ih]
    · simp [own, ih]

theorem filter_joined (stranger : s.entryOf x = none) (own : e.identity = x) :
    (insertBy (fun g => decide (k < g.slot)) e s.roster.entries).filter (fun g => g.identity != x) = s.roster.entries := by
  rw [filter_insertBy_of_failing (by simp [own])]
  exact List.filter_eq_self.mpr fun g hg => by simpa using State.not_mem_of_entryOf_eq_none stranger g hg

/-- A claim judged changes the claimant's entry to CLAIMING, or counts an objection in it (R110, R111). -/
theorem ClaimJudged.entries (judged : ClaimJudged x n u t) : ∃ f : Entry → Entry,
    t.roster.entries = u.roster.entries.map (fun g => if g.identity = x then f g else g)
      ∧ ∀ g, (f g).slot = g.slot ∧ (f g).identity = g.identity ∧ (f g).path = g.path ∧ (f g).revision = g.revision
        ∧ ((f g).state = g.state ∨ ((f g).state = .claiming ∧ (f g).name = some n)) := by
  obtain ⟨passes, fails⟩ := judged
  cases test : claimTest x n u with
  | none =>
    obtain ⟨roster, -⟩ := passes test
    rw [roster]
    exact ⟨fun g => _, rfl, fun g => ⟨rfl, rfl, rfl, rfl, .inr ⟨rfl, rfl⟩⟩⟩
  | some failed =>
    obtain ⟨reason, counter⟩ := failed
    obtain ⟨-, -, -, roster, -⟩ := fails reason counter test
    rw [roster]
    exact ⟨fun g => _, rfl, fun g => ⟨rfl, rfl, rfl, rfl, .inl rfl⟩⟩

/-- No claim of an entry that has just joined brings a storm (R111). -/
theorem ClaimJudged.changes (judged : ClaimJudged x n u t) (entry : u.entryOf x = some e) (few : e.objections = 0) :
    t.changes = u.changes := by
  obtain ⟨passes, fails⟩ := judged
  cases test : claimTest x n u with
  | none =>
    obtain ⟨-, -, changes, -⟩ := passes test
    exact changes
  | some failed =>
    obtain ⟨reason, counter⟩ := failed
    obtain ⟨-, -, -, -, changes, -⟩ := fails reason counter test
    rw [changes e entry, few]
    rfl

theorem claimTest_of_absent (absent : s.entryOf x = none) (low : 1 ≤ n) (high : n ≤ 62) : claimTest x n s = some (.full, 0) := by
  have range : ¬ (n = 0 ∨ n = Config.noneName) := by
    rintro (rfl | rfl)
    · exact absurd low (by decide)
    · exact absurd high (by decide)
  simp [claimTest, range, absent]

/-- An identity joins at a good frame (R74, R107). -/
theorem created_of_slot (free : s.freeSlot = some k) (x : Identity) : createHeard x 0 0 (goodFrame s) = { s with
    line := s.line.afterGood
    roster := { s.roster with
      entries := insertBy (fun g => decide (k < g.slot)) (joiningEntry k x 0 0 (goodFrame s)) s.roster.entries }
    census := (heardReported (goodFrame s)).census
    changes := (queueRecord .joined 0 (some x) 0 s).changes } := by
  rw [createHeard_of_slot (by simpa using free), goodFrame_record]
  apply State.eq_of_blocks <;> simp

/-- An identity finds the roster full (R75). -/
theorem created_of_full (full : s.freeSlot = none) (x : Identity) : createHeard x 0 0 (goodFrame s) = { s with
    line := s.line.afterGood
    roster := { s.roster with fullLatch := true }
    census := s.censusHeard
    changes := (if s.roster.fullLatch then s else queueRecord .full 0 (some x) 0 s).changes } := by
  rw [createHeard_of_full (by simpa using full), creationFails_eq]
  apply State.eq_of_blocks <;> simp
  exact goodFrame_record_unless _ _ _ _ _

end

/-- Settles O38. -/
theorem claimOfStrangerJoins : Obligations.ClaimOfStrangerJoins := by
  refine ⟨fun s x n tryCount heard formed stranger => ?_, fun s x n tryCount heard active formed stranger => ?_⟩
  · have acts := exec_claimReceived heard formed
    rw [takeClaim_of_stranger (by simpa using stranger)] at acts
    refine ⟨_, acts, settles_close (by simp) (by simp), fun k free => ?_, fun full low high => ?_, ?_⟩
    · have made := created_of_slot free x
      generalize createHeard x 0 0 (goodFrame s) = u at made
      have entries := congrArg (fun v : State => v.roster.entries) made
      have entry := State.entryOf_joined stranger rfl entries
      have judged := claimJudged (n := n.toNat) (State.single_joined stranger rfl entries) fun d hd => by
        rw [← Option.some.inj (entry.symm.trans hd)]
        rfl
      obtain ⟨f, changed, keeps⟩ := judged.entries
      obtain ⟨slot, identity, path, revision, state⟩ := keeps (joiningEntry k x 0 0 (goodFrame s))
      refine ⟨(judged.changes entry rfl).trans (by rw [made]), f (joiningEntry k x 0 0 (goodFrame s)), ?_, slot, identity, path,
        revision, state, ?_⟩
      · rw [changed, entries]
        exact List.mem_map.mpr ⟨_, (mem_insertBy _ _ _ _).mpr (.inl rfl), if_pos rfl⟩
      · rw [changed, entries, filter_map_own fun g => (keeps g).2.1, filter_joined stranger rfl]
    · have made := created_of_full full x
      generalize createHeard x 0 0 (goodFrame s) = u at made
      have absent : u.entryOf x = none := stranger ▸ State.entryOf_congr (by rw [made]) x
      rw [judgeClaim_of_test (claimTest_of_absent absent low high), raiseObjection_of_absent absent, offerObjection_eq]
      refine ⟨by simp [made], by simp [made], by simp [made], fun room => ?_⟩
      have inserted : offerOutcome (.object x n.toNat .full 0) u = .inserted := by
        simp [offerOutcome, made, room, Config.txCapacity]
      simp only [close_frame]
      rw [offerFrame_inserted inserted]
      simp [made, State.after, State.cfg]
    · apply State.eq_of_blocks <;> simp
  · have acts := exec_claimReceived heard formed
    rw [takeClaim_of_stranger (by simpa using stranger)] at acts
    cases free : s.freeSlot with
    | some k =>
      have made := created_of_slot free x
      generalize createHeard x 0 0 (goodFrame s) = u at made acts
      have entries := congrArg (fun v : State => v.roster.entries) made
      have entry := State.entryOf_joined stranger rfl entries
      have single := State.single_joined stranger rfl entries
      have nameless : ∀ d, u.entryOf x = some d → d.name = none := fun d hd => by
        rw [← Option.some.inj (entry.symm.trans hd)]
        rfl
      have seeks := judgeClaim_seeks (n := n.toNat) single entry rfl rfl
      refine ⟨_, u, acts, claimJudged single nameless, fun j hj => ?_, nofun, by rw [made],
        settles_close (by simp [made]) (by simp [made]), ?_⟩
      · obtain rfl := Option.some.inj hj
        exact ⟨by simp [made, joiningEntry, newEntry], by rw [made], censusReopened_of active (by rw [made]),
          (close_census_of_seeking seeks).trans (by simp)⟩
      · apply State.eq_of_blocks <;> simp
    | none =>
      have made := created_of_full free x
      generalize createHeard x 0 0 (goodFrame s) = u at made acts
      have absent : u.entryOf x = none := stranger ▸ State.entryOf_congr (by rw [made]) x
      refine ⟨_, u, acts, claimJudged (State.single_of_absent absent) (by simp [absent]), nofun, fun _ => ⟨by rw [made],
        by rw [made], censusCloses_of (by simp [made]) (by simp [made]) (by simp [made])⟩, by rw [made],
        settles_close (by simp [made]) (by simp [made]), ?_⟩
      apply State.eq_of_blocks <;> simp

end Sys2Proof.Machine

/-! Objections heard (R111, R114, R115): what another station's OBJECT makes of the state as a whole. Settles O39. -/

namespace Sys2Proof.Machine

section

variable {s t u : State} {x : Identity} {d n : Name} {reason : Byte} {e : Entry}

/-- An OBJECT heard, but for the demotion of a holder (R111, R114). -/
def objectionTaken (x : Identity) (d : Name) (reason : Byte) (s : State) : State :=
  countObjection x (withdrawObjections x d (reason.toNat == Reason.conflict.code)
    (match s.claimOf x with
      | some _ => entryToHeard x (dropClaim x s)
      | none => s))

@[simp] theorem objectionTaken_frame (x : Identity) (d : Name) (reason : Byte) (s : State) :
    (objectionTaken x d reason s).pins = s.pins ∧ (objectionTaken x d reason s).time = s.time
      ∧ (objectionTaken x d reason s).line.txDrops = s.line.txDrops
      ∧ (objectionTaken x d reason s).coupling = s.coupling ∧ (objectionTaken x d reason s).service = s.service
      ∧ (objectionTaken x d reason s).notices = s.notices ∧ (objectionTaken x d reason s).order = s.order
      ∧ (objectionTaken x d reason s).snapshot = s.snapshot ∧ (objectionTaken x d reason s).draws = s.draws
      ∧ (objectionTaken x d reason s).pending = s.pending
      ∧ (objectionTaken x d reason s).naming.plan = s.naming.plan := by
  unfold objectionTaken
  split <;> simp

theorem takeObject_eq (x : Identity) (d : Name) (reason : Byte) (s : State) : takeObject x d reason.toNat s =
    if reason.toNat == Reason.conflict.code then heardConflict x d (objectionTaken x d reason s)
    else objectionTaken x d reason s := rfl

theorem withdrawObjections_eq (x : Identity) (d : Name) (reason : Byte) (s : State) :
    withdrawObjections x d (reason.toNat == Reason.conflict.code) s = { s with
      line := { s.line with txList := s.line.txList.filter (fun f => !Withdrawn x d reason f) }
      naming := { s.naming with
        tickets := s.naming.tickets.filter
          (fun k => !s.line.txList.any (fun f => Withdrawn x d reason f && f.tag == k.tag)) } } := by
  have yields : TxFrame.yieldsTo x d (reason.toNat == Reason.conflict.code) = Withdrawn x d reason :=
    funext (yieldsTo_eq_withdrawn x d reason)
  simp [withdrawObjections, yields, withdraw, State.withLine, State.withNaming]

theorem objectionTaken_of_unclaimed (unclaimed : s.claimOf x = none) :
    objectionTaken x d reason s = countObjection x (withdrawObjections x d (reason.toNat == Reason.conflict.code) s) := by
  rw [objectionTaken, unclaimed]

theorem objectionTaken_of_claimed {c : PendingClaim} (claim : s.claimOf x = some c) : objectionTaken x d reason s =
    countObjection x (withdrawObjections x d (reason.toNat == Reason.conflict.code) (entryToHeard x (dropClaim x s))) := by
  rw [objectionTaken, claim]

theorem State.filter_claims_of_unclaimed (unclaimed : s.claimOf x = none) :
    s.naming.claims.filter (fun c => c.claimant != x) = s.naming.claims :=
  List.filter_eq_self.mpr fun c hc => by simpa using List.find?_eq_none.mp unclaimed c hc

/-- The entry of x once an OBJECT against it has been heard. -/
def Entry.afterObject (claimed : Bool) (claim : Time) (g : Entry) : Entry :=
  if claimed then (g.toHeard claim).objected else g.objected

/-- What an OBJECT heard makes of an identity with an entry (R111, R114). -/
theorem objectionTaken_of_entry (single : s.Single x) (entry : s.entryOf x = some e) : objectionTaken x d reason s = { s with
    line := { s.line with txList := s.line.txList.filter (fun f => !Withdrawn x d reason f) }
    naming := { s.naming with
      claims := s.naming.claims.filter (fun c => c.claimant != x)
      tickets := s.naming.tickets.filter
        (fun k => !s.line.txList.any (fun f => Withdrawn x d reason f && f.tag == k.tag)) }
    roster := { s.roster with entries := s.roster.entries.map (fun g => if g.identity = x then
      g.afterObject (s.claimOf x).isSome s.claimValue else g) }
    census := if (s.claimOf x).isSome then (heardReported s).census else s.census
    changes := (if e.objections + 1 = 8 ∧ e.storm = false then
      queueRecord .storm (if s.claimOf x = none then e.name.getD 0 else 0) (some x) 8 s else s).changes } := by
  obtain ⟨mem, own⟩ := State.entryOf_eq_some entry
  cases claim : s.claimOf x with
  | none =>
    have entry' : (withdrawObjections x d (reason.toNat == Reason.conflict.code) s).entryOf x = some e :=
      (State.entryOf_congr (by rw [withdrawObjections_eq]) x).trans entry
    have record := record_if_congr (e.objections + 1 = 8 ∧ e.storm = false)
      (s := s) (t := withdrawObjections x d (reason.toNat == Reason.conflict.code) s) (by rw [withdrawObjections_eq])
      (by rw [withdrawObjections_eq]) .storm (e.name.getD 0) (some x) 8
    rw [objectionTaken_of_unclaimed claim, countObjection_of_entry (single.congr (by rw [withdrawObjections_eq])) entry', record,
      withdrawObjections_eq]
    apply State.eq_of_blocks <;> simp [State.filter_claims_of_unclaimed claim, Entry.afterObject]
  | some c =>
    have entries : (entryToHeard x (dropClaim x s)).roster.entries =
        s.roster.entries.map (fun g => if g.identity = x then g.toHeard s.claimValue else g) := by
      rw [entryToHeard_dropClaim]
    have single' := single.map entries (fun g => by split <;> rfl)
    have found := State.entryOf_map entries (fun g => by split <;> rfl) x
    rw [entry, Option.map_some, if_pos own] at found
    have entry' : (withdrawObjections x d (reason.toNat == Reason.conflict.code)
        (entryToHeard x (dropClaim x s))).entryOf x = some (e.toHeard s.claimValue) :=
      (State.entryOf_congr (by rw [withdrawObjections_eq]) x).trans found
    have record := record_if_congr
      ((e.toHeard s.claimValue).objections + 1 = 8 ∧ (e.toHeard s.claimValue).storm = false) (s := s)
      (t := withdrawObjections x d (reason.toNat == Reason.conflict.code) (entryToHeard x (dropClaim x s)))
      (by rw [withdrawObjections_eq, entryToHeard_dropClaim]) (by rw [withdrawObjections_eq, entryToHeard_dropClaim])
      .storm ((e.toHeard s.claimValue).name.getD 0) (some x) 8
    rw [objectionTaken_of_claimed claim, countObjection_of_entry (single'.congr (by rw [withdrawObjections_eq])) entry', record,
      withdrawObjections_eq, entryToHeard_dropClaim]
    dsimp only
    rw [map_own_map_own (g := Entry.toHeard s.claimValue) fun _ => rfl]
    apply State.eq_of_blocks <;> simp [Entry.afterObject, Entry.toHeard]

theorem objectionTaken_of_absent (absent : s.entryOf x = none) (unclaimed : s.claimOf x = none) :
    objectionTaken x d reason s = { s with
      line := { s.line with txList := s.line.txList.filter (fun f => !Withdrawn x d reason f) }
      naming := { s.naming with
        tickets := s.naming.tickets.filter
          (fun k => !s.line.txList.any (fun f => Withdrawn x d reason f && f.tag == k.tag)) } } := by
  rw [objectionTaken_of_unclaimed unclaimed, countObjection_of_absent
    (absent ▸ State.entryOf_congr (by rw [withdrawObjections_eq]) x), withdrawObjections_eq]

/-! ### The claimant of a pending claim (R88, R103) -/

theorem ClaimsInStep.claiming {c : PendingClaim} (inStep : ClaimsInStep s) (claim : s.claimOf x = some c) :
    ∃ e ∈ s.roster.entries, e.identity = x ∧ e.state = .claiming := by
  obtain ⟨e, mem, own, claimed⟩ := inStep.2.2.1 c (List.mem_of_find?_eq_some claim)
  have same : c.claimant = x := by simpa using List.find?_some claim
  exact ⟨e, mem, own.trans same, (Entry.claimedName_eq_some_iff.mp claimed).2⟩

theorem ClaimsInStep.unclaimed_of_absent (inStep : ClaimsInStep s) (absent : s.entryOf x = none) : s.claimOf x = none := by
  cases claim : s.claimOf x with
  | none => rfl
  | some c =>
    obtain ⟨e, mem, own, -⟩ := inStep.claiming claim
    exact absurd own (State.not_mem_of_entryOf_eq_none absent e mem)

theorem ClaimsInStep.state_of_claimed (inStep : ClaimsInStep s) (single : s.Single x) {g : Entry}
    (mem : g ∈ s.roster.entries) (own : g.identity = x) (claimed : (s.claimOf x).isSome = true) : g.state = .claiming := by
  obtain ⟨c, claim⟩ := Option.isSome_iff_exists.mp claimed
  obtain ⟨e, he, same, state⟩ := inStep.claiming claim
  rw [Option.some.inj ((single g mem own).symm.trans (single e he same)), state]

/-! ### The state an OBJECT leaves, before a demotion -/

/-- The entries once an OBJECT against x has been heard. -/
theorem objectionTaken_entries (single : s.Single x) (inStep : ClaimsInStep s) :
    (objectionTaken x d reason s).roster.entries = s.roster.entries.map (fun g => if g.identity = x then
      g.afterObject (s.claimOf x).isSome s.claimValue else g) := by
  cases entry : s.entryOf x with
  | none =>
    rw [objectionTaken_of_absent entry (inStep.unclaimed_of_absent entry), map_own_of_absent entry]
  | some e => rw [objectionTaken_of_entry single entry]

theorem objectionTaken_census (single : s.Single x) (inStep : ClaimsInStep s) :
    (objectionTaken x d reason s).census = if (s.claimOf x).isSome then (heardReported s).census else s.census := by
  cases entry : s.entryOf x with
  | none =>
    have unclaimed := inStep.unclaimed_of_absent entry
    rw [objectionTaken_of_absent entry unclaimed, unclaimed]
    rfl
  | some e => rw [objectionTaken_of_entry single entry]

theorem objectionHeard (single : s.Single x) (inStep : ClaimsInStep s) :
    ObjectionHeard x d reason s (close (objectionTaken x d reason s)) := by
  cases entry : s.entryOf x with
  | none =>
    have unclaimed := inStep.unclaimed_of_absent entry
    rw [ObjectionHeard, entry, objectionTaken_of_absent entry unclaimed]
    simp only [close_frame]
    refine ⟨trivial, ?_, ?_, nofun, by simp⟩
    · rw [State.filter_claims_of_unclaimed unclaimed]
    · rw [map_own_of_absent entry]
  | some e =>
    rw [ObjectionHeard, entry, objectionTaken_of_entry single entry]
    simp only [close_frame]
    refine ⟨trivial, trivial, ?_, fun f same => ?_, nofun⟩
    · cases s.claimOf x <;> rfl
    · rw [Option.some.inj same]

/-! ### The demotion of a holder (R115) -/

theorem heardConflict_of_other (other : ∀ e, s.holder d = some e → e.identity = x → e.state = .lost ∧ s.behindLost e = true) :
    heardConflict x d s = s := by
  unfold heardConflict
  split
  · next e holder => rw [if_neg fun ⟨own, open_⟩ => open_ (other e holder own)]
  · rfl

theorem State.behindLost_map {F : Entry → Entry} (entries : t.roster.entries = s.roster.entries.map F)
    (keeps : ∀ g ∈ s.roster.entries, (F g).heldName = g.heldName)
    (state : ∀ g ∈ s.roster.entries, g.holds = true → (F g).state = g.state) (path : (F e).path = e.path) :
    t.behindLost (F e) = s.behindLost e := by
  have above : t.bridgeAbove (F e) = (s.bridgeAbove e).map F := by
    unfold State.bridgeAbove
    rw [path]
    split
    · rfl
    · exact State.holder_map entries keeps _
  unfold State.behindLost
  rw [above]
  cases bridge : s.bridgeAbove e with
  | none => rfl
  | some b =>
    have holder : s.holder e.path = some b := by
      unfold State.bridgeAbove at bridge
      split at bridge
      · simp at bridge
      · exact bridge
    obtain ⟨mem, held⟩ := State.holder_eq_some holder
    simp [state b mem (Entry.holds_of_heldName held).1]

theorem Entry.afterObject_path (g : Entry) (claimed : Bool) (claim : Time) : (g.afterObject claimed claim).path = g.path := by
  cases claimed <;> rfl

theorem Entry.afterObject_identity (g : Entry) (claimed : Bool) (claim : Time) :
    (g.afterObject claimed claim).identity = g.identity := by
  cases claimed <;> rfl

section

variable (inStep : ClaimsInStep s) (single : s.Single x)

include inStep single

theorem Entry.afterObject_heldName {g : Entry} (mem : g ∈ s.roster.entries) (own : g.identity = x) (claim : Time) :
    (g.afterObject (s.claimOf x).isSome claim).heldName = g.heldName := by
  cases claimed : (s.claimOf x).isSome with
  | false => exact Entry.heldName_congr rfl rfl
  | true =>
    have state := inStep.state_of_claimed single mem own claimed
    simp [Entry.afterObject, Entry.heldName, Entry.holds, state, Entry.toHeard, Entry.objected]

theorem Entry.afterObject_state {g : Entry} (mem : g ∈ s.roster.entries) (own : g.identity = x) (holds : g.holds = true)
    (claim : Time) : (g.afterObject (s.claimOf x).isSome claim).state = g.state := by
  cases claimed : (s.claimOf x).isSome with
  | false => rfl
  | true =>
    have state := inStep.state_of_claimed single mem own claimed
    simp [Entry.holds, state] at holds

/-- The holder of d once an OBJECT has been heard. -/
theorem objectionTaken_holder (n : Name) : (objectionTaken x d reason s).holder n =
    (s.holder n).map (fun g => if g.identity = x then g.afterObject (s.claimOf x).isSome s.claimValue else g) :=
  State.holder_map (objectionTaken_entries single inStep) (fun g hg => by
    split
    · next own => exact Entry.afterObject_heldName inStep single hg own _
    · rfl) n

theorem objectionTaken_behindLost (e : Entry) : (objectionTaken x d reason s).behindLost
    (if e.identity = x then e.afterObject (s.claimOf x).isSome s.claimValue else e) = s.behindLost e :=
  State.behindLost_map (F := fun g => if g.identity = x then g.afterObject (s.claimOf x).isSome s.claimValue else g)
    (objectionTaken_entries single inStep)
    (fun g hg => by
      split
      · next own => exact Entry.afterObject_heldName inStep single hg own _
      · rfl)
    (fun g hg holds => by
      split
      · next own => exact Entry.afterObject_state inStep single hg own holds _
      · rfl)
    (by split <;> simp [Entry.afterObject_path])

end

end

end Sys2Proof.Machine

/-! Settles O39: another station's OBJECT drops a claim (R24, R82, R84, R86, R111, R114). -/

namespace Sys2Proof.Machine

section

variable {s t u : State} {key : Key} {x : Identity} {d reason counter : Byte} {o e : Entry}

theorem exec_objectReceived (heard : s.hears ⟨key, .object x d reason counter⟩ = true)
    (ok : formOk s.ownIdentity ⟨key, .object x d reason counter⟩ = true) :
    exec (.objectReceived key x d reason counter) s =
      .next (close (takeObject x d.toNat reason.toNat (senderReport key.toNat (goodFrame s)))) :=
  exec_received (f := ⟨key, .object x d reason counter⟩) rfl heard ok

theorem senderKeyOk_of_object (ok : formOk s.ownIdentity ⟨key, .object x d reason counter⟩ = true) :
    senderKeyOk key = true := by
  simp only [formOk, Bool.and_eq_true] at ok
  exact ok.1.1.1.1

/-- The sender report keeps the roster a table, and the claims in step with it. -/
theorem senderReport_moved (ok : RosterOk s) (sender : senderKeyOk key = true) :
    Moves True False (goodFrame s) (senderReport key.toNat (goodFrame s)) :=
  senderReport_moves (inRange_of_senderKeyOk sender) fun _ => ok.goodFrame

theorem RosterOk.senderReport (ok : RosterOk s) (sender : senderKeyOk key = true) :
    RosterOk (Machine.senderReport key.toNat (Machine.goodFrame s)) :=
  (senderReport_moved ok sender).rosterOk (fun _ => ok.goodFrame) trivial

theorem ClaimsInStep.senderReport (inStep : ClaimsInStep s) (ok : RosterOk s) (sender : senderKeyOk key = true) :
    ClaimsInStep (Machine.senderReport key.toNat (goodFrame s)) :=
  (senderReport_moved ok sender).claimsInStep (inStep.congr (by simp) (by simp))

/-- Where the OBJECT demotes no holder. -/
theorem takeObject_of_no_demotion (single : u.Single x) (inStep : ClaimsInStep u)
    (other : reason = 7 → ∀ e, u.holder d.toNat = some e → e.identity = x → e.state = .lost ∧ u.behindLost e = true) :
    takeObject x d.toNat reason.toNat u = objectionTaken x d.toNat reason u := by
  rw [takeObject_eq]
  split
  · next conflict =>
    have seven : reason = 7 := by
      rw [← BitVec.toNat_inj]
      exact beq_iff_eq.mp conflict
    refine heardConflict_of_other fun e holder own => ?_
    rw [objectionTaken_holder inStep single, Option.map_eq_some_iff] at holder
    obtain ⟨h, found, rfl⟩ := holder
    obtain ⟨mem, held⟩ := State.holder_eq_some found
    have own' : h.identity = x := by
      by_contra not
      rw [if_neg not] at own
      exact not own
    obtain ⟨lost, behind⟩ := other seven h found own'
    refine ⟨?_, (objectionTaken_behindLost inStep single h).trans behind⟩
    rw [if_pos own', Entry.afterObject_state inStep single mem own' (Entry.holds_of_heldName held).1, lost]
  · rfl

theorem State.claimOf_congr (claims : t.naming.claims = s.naming.claims) (x : Identity) : t.claimOf x = s.claimOf x := by
  simp [State.claimOf, claims]

/-- Without a claim the census has only heard a good frame. -/
theorem objectionTaken_closes (single : u.Single x) (inStep : ClaimsInStep u) (unclaimed : u.claimOf x = none)
    (time : u.time = s.time) (order : u.order = s.order) (census : u.census = s.censusHeard) (d : Name) :
    CensusCloses s s.censusHeard (close (objectionTaken x d reason u)) :=
  censusCloses_of (by simp [objectionTaken, unclaimed, time]) (by simp [objectionTaken, unclaimed, order])
    (by rw [objectionTaken_census single inStep, unclaimed]; exact census)

/-- A claimant that loses its claim seeks a name again, and the census is reopened. -/
theorem objectionTaken_reopens (single : u.Single x) (inStep : ClaimsInStep u) (claimed : u.claimOf x ≠ none)
    (active : s.census.state.lineActive = true) (time : u.time = s.time) (order : u.order = s.order)
    (census : u.census = s.censusHeard) (d : Name) : CensusReopened s (close (objectionTaken x d reason u)) := by
  obtain ⟨c, claim⟩ := Option.ne_none_iff_exists'.mp claimed
  obtain ⟨e, mem, own, -⟩ := inStep.claiming claim
  refine censusReopened_close active (State.not_quietHolds_of_changed (objectionTaken_entries single inStep) mem own ?_) ?_
  · rw [claim]
    rfl
  · rw [objectionTaken_census single inStep, claim]
    exact heardReported_census_congr (by simp [census]) (by simp [time]) (by simp [order])

/-! ### The withdrawals of R114 -/

theorem withdrawn_claimObjection {f : TxFrame} {w : Time} (ref : f.ref = .claimObjection x w) (n : Name) :
    Withdrawn x n reason f = true := by
  simp [Withdrawn, ref]

theorem not_withdrawn_of_ref {f : TxFrame} (claim : ∀ w, f.ref ≠ .claimObjection x w) (hold : ∀ y, f.ref ≠ .holdObjection y)
    (n : Name) : Withdrawn x n reason f = false := by
  unfold Withdrawn
  split
  · next y w ref =>
    rw [beq_eq_false_iff_ne]
    rintro rfl
    exact claim w ref
  · next y _ _ _ _ ref _ => exact absurd ref (hold y)
  · rfl

/-- A ticket stays where no frame under its number is withdrawn. -/
theorem withdrawn_tickets (l : List TxFrame) (w : TxFrame → Bool) (k : Ticket) :
    (!l.any (fun f => w f && f.tag == k.tag)) = l.all (fun f => f.tag != k.tag || (l.filter (fun f => !w f)).contains f) := by
  rw [Bool.eq_iff_iff]
  simp only [Bool.not_eq_true', List.any_eq_false, List.all_eq_true, Bool.and_eq_true, not_and, beq_iff_eq, Bool.or_eq_true,
    bne_iff_ne, List.contains_iff_mem, List.mem_filter]
  refine forall₂_congr fun f mem => ?_
  cases w f <;> simp [mem]

end

/-- Settles O39. -/
theorem objectDropsClaim : Obligations.ObjectDropsClaim := by
  refine ⟨fun s key x d reason counter o e c heard ok inStep formed holder open_ claim entry => ?_,
    fun s key x d reason counter heard ok inStep asked formed => ?_⟩
  · have sender := senderKeyOk_of_object formed
    have single := (ok.senderReport sender).single x
    have inStep' := inStep.senderReport ok sender
    have holder' : (goodFrame s).holder key.toNat = some o := by simpa using holder
    have reported : senderReport key.toNat (goodFrame s) = refreshHolder o (goodFrame s) :=
      senderReport_of_holder holder' fun ⟨lost, behind⟩ => by simp [open_ lost] at behind
    have claim' : (senderReport key.toNat (goodFrame s)).claimOf x = some c :=
      (State.claimOf_congr (s := s) (by simp) x).trans claim
    have claimed : (s.claimOf x).isSome = true := by rw [claim]; rfl
    obtain ⟨mem, own⟩ := State.entryOf_eq_some entry
    obtain ⟨memo, held⟩ := State.holder_eq_some holder
    have state := inStep.state_of_claimed (ok.single x) mem own claimed
    have apart : e.identity ≠ o.identity := by
      intro same
      obtain rfl := ok.eq_of_identity mem memo same
      simpa [Entry.holds, state] using (Entry.holds_of_heldName held).1
    have entries : (senderReport key.toNat (goodFrame s)).roster.entries = s.roster.entries.map (fun g =>
        if g.identity = o.identity then
          { g with state := .named, lastHeard := s.time.now, claimDl := none,
                   silenceDl := some (s.toolAfter (1000 * s.cfg.silence)), lossDl := none } else g) := by
      rw [reported, refreshHolder_eq holder']
      simp
    have entry' : (senderReport key.toNat (goodFrame s)).entryOf x = some e := by
      rw [State.entryOf_map entries (fun g => by split <;> rfl), entry, Option.map_some, if_neg apart]
    have value : (senderReport key.toNat (goodFrame s)).claimValue = s.toolAfter (1000 * s.cfg.claim) := by
      simp [State.claimValue, State.toolAfter, State.cfg, ms]
    have undemoted : ∀ h, (senderReport key.toNat (goodFrame s)).holder d.toNat = some h → h.identity ≠ x := by
      intro h found same
      obtain ⟨memh, heldh⟩ := State.holder_eq_some found
      have claiming := inStep'.state_of_claimed single memh same (by rw [claim']; rfl)
      simpa [Entry.holds, claiming] using (Entry.holds_of_heldName heldh).1
    have acts := exec_objectReceived heard formed
    rw [takeObject_of_no_demotion single inStep' (fun _ h found same => absurd same (undemoted h found))] at acts
    refine ⟨_, acts, settles_close (by simp) (by simp), ?_⟩
    have taken := objectionTaken_of_entry (d := d.toNat) (reason := reason) single entry'
    have list : (objectionTaken x d.toNat reason (senderReport key.toNat (goodFrame s))).line.txList =
        s.line.txList.filter (fun f => !Withdrawn x d.toNat reason f) := by
      rw [taken, reported, refreshHolder_eq holder']
      simp
    simp only [close_frame]
    rw [list]
    refine ⟨?_, ?_, fun f hf => ?_, fun f hf other hold => ?_, ?_, ?_, ?_, ?_, fun u hu => ?_, ?_, ?_⟩
    · rw [taken]
      simp
    · simp
    · obtain ⟨there, kept⟩ := List.mem_filter.mp hf
      exact ⟨there, fun w ref => by simp [withdrawn_claimObjection ref] at kept⟩
    · exact List.mem_filter.mpr ⟨hf, by simp [not_withdrawn_of_ref other hold]⟩
    · rw [taken, reported, refreshHolder_eq holder']
      simp only [goodFrame_frame]
      exact List.filter_congr fun k _ => withdrawn_tickets _ _ k
    · rw [reported]
      simp [refreshHolder_eq holder']
    · have found := State.entryOf_map (objectionTaken_entries (d := d.toNat) (reason := reason) single inStep')
        (fun g => by split <;> simp [Entry.afterObject_identity]) x
      rw [State.entryOf_congr (s := objectionTaken x d.toNat reason (senderReport key.toNat (goodFrame s))) (by simp), found,
        entry', Option.map_some, if_pos own, claim']
      simp [value, Entry.afterObject, Entry.toHeard, Entry.objected]
    · rw [taken]
      dsimp only
      rw [entries, claim', value, List.map_map]
      have apart' : x ≠ o.identity := own ▸ apart
      have lists : (senderReport key.toNat (goodFrame s)).roster.asked = s.roster.asked
          ∧ (senderReport key.toNat (goodFrame s)).roster.fullLatch = s.roster.fullLatch := by
        rw [reported]
        simp
      rw [lists.1, lists.2]
      congr 1
      refine List.map_congr_left fun g _ => ?_
      by_cases ownx : g.identity = x
      · simp [ownx, apart', Entry.afterObject, Entry.toHeard, Entry.objected]
      · by_cases ofo : g.identity = o.identity
        · simp [ofo, apart'.symm]
        · simp [ownx, ofo]
    · subst hu
      rw [taken]
      dsimp only
      rw [claim', if_neg (Option.some_ne_none c)]
      refine record_if_congr _ ?_ ?_ _ _ _ _
      · rw [reported, refreshHolder_eq holder']
        exact goodFrame_record_unless _ _ _ _ _
      · split <;> simp
    · rw [taken]
      simp
    · apply State.eq_of_blocks <;> simp
  · have sender := senderKeyOk_of_object formed
    have single := (ok.senderReport sender).single x
    have inStep' := inStep.senderReport ok sender
    have claims := State.claimOf_congr (t := senderReport key.toNat (goodFrame s)) (s := s) (by simp) x
    refine ⟨_, _, exec_objectReceived heard formed, settles_close (by simp) (by simp), senderReported asked key.toNat,
      fun other => ?_⟩
    rw [takeObject_of_no_demotion single inStep' other]
    refine ⟨objectionHeard single inStep', fun unclaimed => ?_, fun claimed active => ?_, ?_⟩
    · exact objectionTaken_closes single inStep' (claims.trans unclaimed) (by simp) (by simp) (by simp) _
    · exact objectionTaken_reopens single inStep' (claims ▸ claimed) active (by simp) (by simp) (by simp) _
    · apply State.eq_of_blocks <;> simp

end Sys2Proof.Machine

/-! Holds (06 section 6.6): the state in which a HOLD is judged, origin and binding, and what each judgement makes of it. -/

namespace Sys2Proof.Machine

section

variable {s t u : State} {x : Identity} {n : Name} {e : Entry} {key : Key}

/-! ### Origin and binding (R121) -/

theorem findIdx?_front_cons {α : Type} {p : α → Bool} {front back : List α} {a : α} (front_fails : ∀ q ∈ front, p q = false)
    (meets : p a = true) : (front ++ a :: back).findIdx? p = some front.length := by
  induction front with
  | nil => simp [List.findIdx?_cons, meets]
  | cons b front ih =>
    obtain ⟨fails, rest⟩ := List.forall_mem_cons.mp front_fails
    simp [List.findIdx?_cons, fails, ih rest]

theorem modify_front_cons {α : Type} (f : α → α) (front back : List α) (a : α) :
    (front ++ a :: back).modify front.length f = front ++ f a :: back := by
  induction front with
  | nil => rfl
  | cons b front ih => simp [ih]

/-- The origin and the binding are of the first plan entry that reserves the name and is open to x. -/
theorem originAndBinding (m : Naming) (x : Identity) (n : Name) :
    OriginAndBinding m x n (m.originOf x n) (m.bind x n).plan := by
  have open_ (q : PlanEntry) : (q.name == n && !m.standsAgainst x q) = true ↔ q.name = n ∧ ¬ StandsAgainst m x q := by
    rw [← Naming.standsAgainst_iff]
    simp
  refine ⟨fun front p back plan name free closed => ?_, fun none_open => ?_⟩
  · have index : m.originIndex x n = some front.length := by
      rw [Naming.originIndex, plan]
      refine findIdx?_front_cons (fun q hq => ?_) ((open_ p).mpr ⟨name, free⟩)
      rw [← Bool.not_eq_true, open_]
      exact fun ⟨named, unheld⟩ => unheld (closed q hq named)
    simp only [Naming.originOf, Naming.bind, index, plan, modify_front_cons]
    refine ⟨trivial, ?_⟩
    simp
  · have index : m.originIndex x n = none := by
      rw [Naming.originIndex, List.findIdx?_eq_none_iff]
      intro p hp
      rw [← Bool.not_eq_true, open_]
      exact fun ⟨named, free⟩ => free (none_open p hp named)
    simp [Naming.originOf, Naming.bind, index]

/-! ### The state in which a HOLD is judged (R87, R177) -/

/-- A good HOLD has been received: its name has left the asked set, and a PING that awaits it has ended. -/
def holdTaken (x : Identity) (n : Name) (s : State) : State := pingAnswered x n (leaveAsked n (goodFrame s))

theorem pingAnswered_order_congr (entries : t.roster.entries = s.roster.entries) (order : t.order = s.order) (x : Identity)
    (n : Name) : (pingAnswered x n t).order = (pingAnswered x n s).order := by
  have running : t.pingRunning = s.pingRunning := by simp [State.pingRunning, order]
  unfold pingAnswered
  rw [running, order, State.holder_congr entries]
  split
  · split <;> simp [order]
  · exact order

theorem holdTaken_eq (x : Identity) (n : Name) (s : State) : holdTaken x n s = { s with
    line := s.line.afterGood
    roster := { s.roster with asked := s.roster.asked.filter (fun a => a.name != n) }
    census := s.censusHeard
    order := (pingAnswered x n s).order } := by
  have order : (pingAnswered x n (leaveAsked n (goodFrame s))).order = (pingAnswered x n s).order :=
    pingAnswered_order_congr (by simp) (by simp) x n
  unfold holdTaken
  apply State.eq_of_blocks <;> simp [order]
  simp [leaveAsked, State.withAsked]

theorem holdAnswersPing_of (order : t.order = (holdTaken x n s).order) : HoldAnswersPing n x s t := by
  have answered := holdAnswersPing_pingAnswered x n s
  rw [HoldAnswersPing] at answered ⊢
  rw [order, holdTaken_eq]
  exact answered

theorem exec_holdReceived (heard : s.hears ⟨key, .hold x⟩ = true) (ok : formOk s.ownIdentity ⟨key, .hold x⟩ = true) :
    exec (.holdReceived key x) s = .next (close (judgeHold x key.toNat (holdTaken x key.toNat s))) :=
  exec_received (f := ⟨key, .hold x⟩) rfl heard ok

@[simp] theorem holdTaken_frame (x : Identity) (n : Name) (s : State) :
    (holdTaken x n s).pins = s.pins ∧ (holdTaken x n s).time = s.time ∧ (holdTaken x n s).line = s.line.afterGood
      ∧ (holdTaken x n s).coupling = s.coupling ∧ (holdTaken x n s).roster.entries = s.roster.entries
      ∧ (holdTaken x n s).roster.asked = s.roster.asked.filter (fun a => a.name != n)
      ∧ (holdTaken x n s).roster.fullLatch = s.roster.fullLatch ∧ (holdTaken x n s).naming = s.naming
      ∧ (holdTaken x n s).census = s.censusHeard ∧ (holdTaken x n s).service = s.service
      ∧ (holdTaken x n s).changes = s.changes ∧ (holdTaken x n s).notices = s.notices
      ∧ (holdTaken x n s).order.setup = s.order.setup ∧ (holdTaken x n s).snapshot = s.snapshot
      ∧ (holdTaken x n s).draws = s.draws ∧ (holdTaken x n s).pending = s.pending := by
  rw [holdTaken_eq]
  simp

theorem RosterOk.holdTaken (ok : RosterOk s) : RosterOk (Machine.holdTaken x n s) := by
  rw [holdTaken_eq]
  exact ok

end

end Sys2Proof.Machine

/-! Settles O43: a HOLD ends a PING whose window is armed (R177). -/

namespace Sys2Proof.Machine

/-- Settles O43. -/
theorem holdEndsPing : Obligations.HoldEndsPing := by
  have answers (s : State) (key : Key) (x : Identity) :
      HoldAnswersPing key.toNat x s (close (judgeHold x key.toNat (holdTaken x key.toNat s))) :=
    holdAnswersPing_of (by simp)
  refine ⟨fun s key x y heard running armed awaits recorded formed => ?_, fun s key x heard formed => ?_⟩
  · have order := answers s key x
    rw [HoldAnswersPing, if_pos ⟨running, awaits, armed⟩] at order
    obtain ⟨-, -, level, -⟩ := levelsFollow_close (judgeHold x key.toNat (holdTaken x key.toNat s))
    refine ⟨_, exec_holdReceived heard formed, ?_⟩
    generalize close (judgeHold x key.toNat (holdTaken x key.toNat s)) = t at order level
    rw [level, order]
    refine ⟨rfl, rfl, rfl, ?_, ?_, fun other => ?_⟩
    · rintro rfl
      simp only [recorded, if_true]
      refine ⟨trivial, fun e holder => ?_⟩
      rw [holder]
      cases state : e.state <;> simp [state, EntryState.code]
    · rintro rfl holder
      simp [recorded, holder]
    · have differs : s.order.pingIdentity ≠ some x := by
        rw [recorded]
        exact fun same => other (Option.some.inj same).symm
      simp [differs]
  · refine ⟨_, exec_holdReceived heard formed, answers s key x, settles_close (by simp) (by simp), ?_⟩
    apply State.eq_of_blocks <;> simp

end Sys2Proof.Machine

/-! Settles O40: a HOLD is accepted, or refreshes its holder, or is foreign (R87, R100, R117, R118, R121, R129). -/

namespace Sys2Proof.Machine

section

variable {s t : State} {x : Identity} {n : Name} {e : Entry}

@[simp] theorem holdTaken_entryOf : (holdTaken x n s).entryOf x = s.entryOf x := State.entryOf_congr (by simp) x

@[simp] theorem holdTaken_behindLost : (holdTaken x n s).behindLost e = s.behindLost e := State.behindLost_congr (by simp) e

@[simp] theorem holdTaken_freeFor : (holdTaken x n s).freeFor x n = s.freeFor x n := State.freeFor_congr (by simp) (by simp) x n

@[simp] theorem holdTaken_acceptable : (holdTaken x n s).acceptable x n = s.acceptable x n := by
  have claim : (holdTaken x n s).claimOf x = s.claimOf x := State.claimOf_congr (by simp) x
  simp [State.acceptable, claim, State.objectionState]

@[simp] theorem holdTaken_toolAfter (m : Nat) : (holdTaken x n s).toolAfter m = s.toolAfter m := by simp [State.toolAfter]

@[simp] theorem holdTaken_cfg : (holdTaken x n s).cfg = s.cfg := by simp [State.cfg]

@[simp] theorem holdTaken_claimValue : (holdTaken x n s).claimValue = s.toolAfter (1000 * s.cfg.claim) := by
  simp [State.claimValue, ms]

@[simp] theorem holdTaken_silenceValue : (holdTaken x n s).silenceValue = s.toolAfter (1000 * s.cfg.silence) := by
  simp [State.silenceValue, ms]

theorem holdTaken_holder (ok : RosterOk s) (entry : s.entryOf x = some e) (held : e.heldName = some n) :
    (holdTaken x n s).holder n = some e :=
  (State.holder_congr (by simp) n).trans ((State.holder_eq_some_iff ok).mpr ⟨(State.entryOf_eq_some entry).1, held⟩)

/-- The state a HOLD is judged in is one a good frame leaves (R14, R87, R177). -/
theorem holdTaken_eq_goodFrame (x : Identity) (n : Name) (s : State) : holdTaken x n s = goodFrame { s with
    roster := { s.roster with asked := s.roster.asked.filter (fun a => a.name != n) }
    order := (pingAnswered x n s).order } := by
  have heard : State.censusHeard { s with
      roster := { s.roster with asked := s.roster.asked.filter (fun a => a.name != n) }
      order := (pingAnswered x n s).order } = s.censusHeard := by
    simp [State.censusHeard, State.toolAfter, State.cfg]
  rw [holdTaken_eq, goodFrame_eq, heard]

theorem holdTaken_record (kind : ChangeKind) (name : Name) (identity : Option Identity) (detail : Nat) :
    (queueRecord kind name identity detail (holdTaken x n s)).changes = (queueRecord kind name identity detail s).changes :=
  queueRecord_changes_congr (by simp) (by simp) _ _ _ _

/-! ### The cases of the judgement (R117) -/

theorem judgeHold_of_lost (entry : s.entryOf x = some e) (state : e.state = .lost) (behind : s.behindLost e = true) :
    judgeHold x n s = countForeign s := by
  simp [judgeHold, entry, state, behind]

theorem judgeHold_of_acceptable (acceptable : s.acceptable x n = true) : judgeHold x n s = acceptHold x n s := by
  obtain ⟨e, c, entry, claim, claimed, -⟩ := State.acceptable_iff.mp acceptable
  have state := (Entry.claimedName_eq_some_iff.mp claimed).2
  simp [judgeHold, entry, state, acceptable]

theorem State.not_acceptable_of_state (entry : s.entryOf x = some e) (state : e.state ≠ .claiming) :
    s.acceptable x n = false := by
  by_contra accepts
  obtain ⟨d, c, found, -, claimed, -⟩ := State.acceptable_iff.mp (by simpa using accepts)
  rw [← Option.some.inj (entry.symm.trans found)] at claimed
  exact state (Entry.claimedName_eq_some_iff.mp claimed).2

theorem judgeHold_of_held (entry : s.entryOf x = some e) (held : e.heldName = some n)
    (open_ : e.state = .lost → s.behindLost e = false) : judgeHold x n s = refreshHolder e s := by
  have holds := (Entry.holds_of_heldName held).1
  have resting : e.state ≠ .claiming := by
    rintro state
    simp [Entry.holds, state] at holds
  have unaccepted := State.not_acceptable_of_state (n := n) entry resting
  have living : ¬ (e.state = .lost ∧ s.behindLost e = true) := fun ⟨lost, behind⟩ => by simp [open_ lost] at behind
  simp [judgeHold, entry, unaccepted, held, living]

theorem Naming.bind_dropped (m : Naming) (claims : List PendingClaim) :
    ({ m with claims := claims }).bind x n = { m.bind x n with claims := claims } := by
  have index : ({ m with claims := claims }).originIndex x n = m.originIndex x n := rfl
  unfold Naming.bind
  rw [index]
  split <;> rfl

/-- An accepted hold (R117, R121). -/
theorem acceptHold_eq (x : Identity) (n : Name) (s : State) : acceptHold x n s = { s with
    roster := { s.roster with entries := s.roster.entries.map (fun g => if g.identity = x then
      { g with state := .named, name := some n, prior := none, origin := s.naming.originOf x n, lastHeard := s.time.now,
               claimDl := none, silenceDl := some s.silenceValue, lossDl := none } else g) }
    naming := ({ s.naming with claims := s.naming.claims.filter (fun c => c.claimant != x) }).bind x n
    changes := (queueRecord .named n (some x) 0 s).changes } := by
  have changes : (queueRecord .named n (some x) 0 (nameEntry x n (dropClaim x s))).changes
      = (queueRecord .named n (some x) 0 s).changes := queueRecord_changes_congr (by simp) (by simp) _ _ _ _
  rw [acceptHold]
  apply State.eq_of_blocks <;> simp [changes]
  · rw [nameEntry_eq, changeEntry_eq]
    rfl
  · rw [nameEntry_eq]
    rfl

end

/-- Settles O40. -/
theorem holdIsAccepted : Obligations.HoldIsAccepted := by
  refine ⟨fun s key x heard ok formed acceptable => ⟨_, exec_holdReceived heard formed, ?_⟩,
    fun s key x e heard ok formed entry held open_ => ⟨_, exec_holdReceived heard formed, ?_⟩,
    fun s key x e heard formed entry state behind => ⟨_, exec_holdReceived heard formed, ?_⟩⟩
  · refine ⟨settles_close (by simp) (by simp), holdAnswersPing_of (by simp), ?_⟩
    rw [judgeHold_of_acceptable (by simpa using acceptable), acceptHold_eq]
    refine ⟨by simp, ?_, by simp, ?_, ?_, censusCloses_of (by simp) (by simp) (by simp), ?_⟩
    · simp
    · rw [Naming.bind_dropped]
      simpa using originAndBinding s.naming x key.toNat
    · simp [holdTaken_record]
    · apply State.eq_of_blocks <;> simp
  · refine ⟨settles_close (by simp) (by simp), holdAnswersPing_of (by simp), ?_⟩
    rw [judgeHold_of_held (by simpa using entry) held (by simpa using open_),
      refreshHolder_eq (holdTaken_holder ok entry held), (State.entryOf_eq_some entry).2]
    refine ⟨by simp, by simp, ?_, censusCloses_of (by simp) (by simp) (by simp), ?_⟩
    · simp only [close_frame]
      split
      · simp
      · exact holdTaken_record _ _ _ _
    · apply State.eq_of_blocks <;> simp
  · refine ⟨holdAnswersPing_of (by simp), ?_⟩
    rw [judgeHold_of_lost (by simpa using entry) state (by simpa using behind)]
    have order : (close (countForeign (holdTaken x key.toNat s))).order = (pingAnswered x key.toNat s).order := by
      rw [holdTaken_eq]
      simp
    rw [order]
    exact foreignCounted_close (by rw [holdTaken_eq_goodFrame])

end Sys2Proof.Machine

/-! Settles O41: a HOLD is adopted (R29, R74, R75, R119, R121, R129, R134). -/

namespace Sys2Proof.Machine

section

variable {s t : State} {x : Identity} {n : Name} {e : Entry} {k : Nat}

/-! ### The cases of the judgement (R117, R119) -/

theorem judgeHold_of_seeking (entry : s.entryOf x = some e)
    (state : e.state = .heard ∨ (e.state = .claiming ∧ s.acceptable x n = false)) :
    judgeHold x n s = if s.freeFor x n then adoptHold x n s else conflictHold x n s := by
  have unaccepted : s.acceptable x n = false := by
    rcases state with heard | ⟨-, unaccepted⟩
    · exact State.not_acceptable_of_state entry (by simp [heard])
    · exact unaccepted
  have seeks : e.seeking = true := by
    rcases state with state | ⟨state, -⟩ <;> simp [Entry.seeking, state]
  have holds : e.holds = false := by simp [Entry.holds_eq_not_seeking, seeks]
  have living : e.state ≠ .lost := by
    intro lost
    simp [Entry.holds, lost] at holds
  simp [judgeHold, entry, unaccepted, living, Entry.heldName, holds, seeks]

theorem judgeHold_of_stranger (stranger : s.entryOf x = none) :
    judgeHold x n s = if s.freeFor x n then adoptHold x n s else conflictHold x n s := by
  simp [judgeHold, stranger]

/-! ### Adoption -/

theorem adoptionReported_census (s : State) : (adoptionReported s).census = s.censusAdopted s.census := by
  unfold adoptionReported State.censusAdopted
  cases census : s.census with
  | mk state => cases state <;> simp [census, ms]

/-- A hold is adopted: the entry is named, the adoption recorded, the census told (R119, R134). -/
theorem adopted_eq (x : Identity) (n : Name) (s : State) : adopted x n s = { s with
    roster := (nameEntry x n s).roster
    naming := s.naming.bind x n
    census := s.censusAdopted s.census
    changes := (queueRecord .adopted n (some x) 0 s).changes } := by
  have changes : (queueRecord .adopted n (some x) 0 (nameEntry x n s)).changes
      = (queueRecord .adopted n (some x) 0 s).changes := queueRecord_changes_congr (by simp) (by simp) _ _ _ _
  have census : (adopted x n s).census = s.censusAdopted s.census := by
    rw [adopted, adoptionReported_census]
    simp [State.censusAdopted, State.toolAfter, State.cfg]
  have naming : (nameEntry x n s).naming = s.naming.bind x n := by
    rw [nameEntry_eq]
    rfl
  apply State.eq_of_blocks
  case census => exact census
  all_goals simp [adopted, changes, naming]

theorem Naming.bind_eq (m : Naming) (x : Identity) (n : Name) : m.bind x n = { m with plan := (m.bind x n).plan } := by
  unfold Naming.bind
  split <;> rfl

/-- The hold of an entry that seeks a name is adopted, its pending claim removed first (R119). -/
theorem adoptHold_of_entry (entry : s.entryOf x = some e) : adoptHold x n s = { s with
    roster := { s.roster with entries := s.roster.entries.map (fun g => if g.identity = x then
      { g with state := .named, name := some n, prior := none, origin := s.naming.originOf x n, lastHeard := s.time.now,
               claimDl := none, silenceDl := some s.silenceValue, lossDl := none } else g) }
    naming := { s.naming.bind x n with claims := s.naming.claims.filter (fun c => c.claimant != x) }
    census := s.censusAdopted s.census
    changes := (queueRecord .adopted n (some x) 0 s).changes } := by
  have adopts : adoptHold x n s = adopted x n (dropClaim x s) := by simp [adoptHold, entry]
  have changes : (queueRecord .adopted n (some x) 0 (dropClaim x s)).changes = (queueRecord .adopted n (some x) 0 s).changes :=
    queueRecord_changes_congr (by simp) (by simp) _ _ _ _
  rw [adopts, adopted_eq, changes, nameEntry_eq, changeEntry_eq, dropClaim_naming, Naming.bind_dropped]
  rfl

/-- The hold of an identity without an entry is adopted in a free slot (R74, R119). -/
theorem adoptHold_of_slot (stranger : s.entryOf x = none) (free : s.freeSlot = some k) : adoptHold x n s = { s with
    roster := { s.roster with
      entries := insertBy (fun g => decide (k < g.slot)) (adoptedEntry k x n s) s.roster.entries }
    naming := s.naming.bind x n
    census := s.censusAdopted s.census
    changes := (queueRecord .adopted n (some x) 0 s).changes } := by
  have adopts : adoptHold x n s =
      adopted x n (insertEntry { newEntry k x 0 0 s.time.now with state := .named, name := some n } s) := by
    simp [adoptHold, stranger, free]
  have changes (e : Entry) : (queueRecord .adopted n (some x) 0 (insertEntry e s)).changes
      = (queueRecord .adopted n (some x) 0 s).changes := queueRecord_changes_congr (by simp) (by simp) _ _ _ _
  rw [adopts, adopted_eq, changes, nameEntry_insertEntry stranger]
  rfl

/-- On a full roster the hold is disputed (R75, R119). -/
theorem adoptHold_of_full (stranger : s.entryOf x = none) (full : s.freeSlot = none) :
    adoptHold x n s = disputeHold x n .full 0 (creationFails x s) := by
  simp [adoptHold, stranger, full]

@[simp] theorem holdTaken_freeSlot : (holdTaken x n s).freeSlot = s.freeSlot := State.freeSlot_congr (by simp)

@[simp] theorem holdTaken_adopted (c : Census) : (holdTaken x n s).censusAdopted c = s.censusAdopted c := by
  simp [State.censusAdopted]

end

/-- Settles O41. -/
theorem holdIsAdopted : Obligations.HoldIsAdopted := by
  intro s key x heard ok formed free
  have acts := exec_holdReceived heard formed
  have free' : (holdTaken x key.toNat s).freeFor x key.toNat = true := by simpa using free
  have bound := originAndBinding s.naming x key.toNat
  refine ⟨fun e entry state => ?_, fun k stranger slot => ?_, fun stranger full => ?_⟩
  · have entry' : (holdTaken x key.toNat s).entryOf x = some e := by simpa using entry
    rw [judgeHold_of_seeking entry' (by simpa using state), if_pos free', adoptHold_of_entry entry'] at acts
    refine ⟨_, acts, settles_close (by simp) (by simp), holdAnswersPing_of (by simp), by simp, by simp, by simp, by simpa using bound,
      by simp [holdTaken_record], by simp, censusCloses_of (by simp) (by simp) (by simp), ?_⟩
    apply State.eq_of_blocks <;> simp
  · have stranger' : (holdTaken x key.toNat s).entryOf x = none := by simpa using stranger
    rw [judgeHold_of_stranger stranger', if_pos free', adoptHold_of_slot stranger' (by simpa using slot)] at acts
    refine ⟨_, acts, settles_close (by simp) (by simp), holdAnswersPing_of (by simp), by simp,
      by simp [adoptedEntry, newEntry, Entry.toNamed],
      by simpa using Naming.bind_eq s.naming x key.toNat, by simpa using bound,
      by simp [holdTaken_record], by simp, censusCloses_of (by simp) (by simp) (by simp), ?_⟩
    apply State.eq_of_blocks <;> simp
  · have stranger' : (holdTaken x key.toNat s).entryOf x = none := by simpa using stranger
    rw [judgeHold_of_stranger stranger', if_pos free', adoptHold_of_full stranger' (by simpa using full),
      creationFails_eq] at acts
    have disputed := holdDisputed_disputeHold x key.toNat .full 0 { holdTaken x key.toNat s with
      roster := { (holdTaken x key.toNat s).roster with fullLatch := true }
      changes := (if (holdTaken x key.toNat s).roster.fullLatch then holdTaken x key.toNat s
        else queueRecord .full 0 (some x) 0 (holdTaken x key.toNat s)).changes }
    refine ⟨_, acts, settles_close (by simp) (by simp), holdAnswersPing_of (by simp), by simp, by simp, ?_, by simp, ?_, by simp,
      censusCloses_of (by simp) (by simp) (by simp), ?_⟩
    · simpa using disputed
    · simp only [close_frame, disputeHold_frame, holdTaken_frame]
      split
      · simp
      · exact holdTaken_record _ _ _ _
    · apply State.eq_of_blocks <;> simp

end Sys2Proof.Machine

/-! Settles O42: a HOLD of a name that is not free for its sender (R29, R111, R120). -/

namespace Sys2Proof.Machine

section

variable {s t v : State} {x : Identity} {n : Name} {e : Entry}

/-- The part's dispute of a hold of x, on the state that the conflict leaves. -/
def disputed (x : Identity) (n : Name) (s : State) : State :=
  countObjection x (disputeHold x n .conflict (s.counterOffer x) s)

theorem conflictHold_of_stranger (stranger : s.entryOf x = none) :
    conflictHold x n s = disputed x n (queueRecord .conflict n (some x) 0 s) := by
  simp only [conflictHold, stranger]
  rfl

theorem conflictHold_of_heard (entry : s.entryOf x = some e) (state : e.state = .heard) :
    conflictHold x n s = disputed x n (queueRecord .conflict n (some x) 0 s) := by
  simp only [conflictHold, entry, state]
  rfl

theorem conflictHold_of_claiming (entry : s.entryOf x = some e) (state : e.state = .claiming) :
    conflictHold x n s = disputed x n (queueRecord .conflict n (some x) 0 (entryToHeard x (dropClaim x s))) := by
  simp only [conflictHold, entry, state]
  rfl

theorem conflictHold_of_holds (entry : s.entryOf x = some e) (holds : e.holds = true) :
    conflictHold x n s = disputed x n (demoteEntry e n (e.name.getD 0) s) := by
  rcases Entry.holds_iff.mp holds with state | state | state
  all_goals
    simp only [conflictHold, entry, state]
    rfl

theorem disputeHold_eq (x : Identity) (n : Name) (reason : Reason) (counter : Name) (s : State) :
    disputeHold x n reason counter s = { s with line := (disputeHold x n reason counter s).line } := by
  apply State.eq_of_blocks <;> simp

/-- The dispute of the hold of an identity with an entry counts the objection (R111, R120). -/
theorem disputed_of_entry (single : s.Single x) (entry : s.entryOf x = some e) : disputed x n s = { s with
    line := (disputeHold x n .conflict (s.counterOffer x) s).line
    roster := { s.roster with entries := s.roster.entries.map (fun g => if g.identity = x then g.objected else g) }
    changes := (if e.objections + 1 = 8 ∧ e.storm = false then queueRecord .storm (e.name.getD 0) (some x) 8 s
      else s).changes } := by
  have offered := disputeHold_eq x n .conflict (s.counterOffer x) s
  have entry' : (disputeHold x n .conflict (s.counterOffer x) s).entryOf x = some e :=
    (State.entryOf_congr (by simp) x).trans entry
  have record := record_if_congr (e.objections + 1 = 8 ∧ e.storm = false) (s := s)
    (t := disputeHold x n .conflict (s.counterOffer x) s) (by simp) (by simp) .storm (e.name.getD 0) (some x) 8
  rw [disputed, countObjection_of_entry (single.congr (by simp)) entry', record]
  apply State.eq_of_blocks <;> simp

theorem disputed_of_stranger (stranger : s.entryOf x = none) :
    disputed x n s = disputeHold x n .conflict (s.counterOffer x) s := by
  rw [disputed, countObjection_of_absent (stranger ▸ State.entryOf_congr (by simp) x)]

/-- The counter-offer is the same once the objection has been counted. -/
theorem disputed_counterOffer (single : s.Single x) : (disputed x n s).counterOffer x = s.counterOffer x := by
  cases entry : s.entryOf x with
  | none => rw [disputed_of_stranger entry]; exact State.counterOffer_congr (by simp) (by simp) x
  | some e =>
    rw [disputed_of_entry single entry]
    refine State.counterOffer_map (F := fun g => if g.identity = x then g.objected else g) ?_ (fun g => ?_) ?_ x
    · rfl
    · split <;> exact ⟨rfl, rfl, rfl, rfl⟩
    · rfl

/-- The OBJECT that answers the hold, as the event has closed. -/
theorem holdDisputed_disputed (single : s.Single x) :
    HoldDisputed x n .conflict ((close (disputed x n s)).counterOffer x) s.line (close (disputed x n s)).line := by
  have counter : (close (disputed x n s)).counterOffer x = s.counterOffer x :=
    (State.counterOffer_congr (s := disputed x n s) (by simp) (by simp) x).trans (disputed_counterOffer single)
  have line : (close (disputed x n s)).line = (disputeHold x n .conflict (s.counterOffer x) s).line := by
    simp [disputed]
  rw [counter, line]
  exact holdDisputed_disputeHold x n .conflict (s.counterOffer x) s

end

/-- Settles O42. -/
theorem holdConflicts : Obligations.HoldConflicts := by
  intro s key x heard ok formed taken
  have acts := exec_holdReceived heard formed
  have taken' : ¬ (holdTaken x key.toNat s).freeFor x key.toNat = true := by simp [taken]
  refine ⟨fun e entry state => ?_, fun stranger => ?_⟩
  · have entry' : (holdTaken x key.toNat s).entryOf x = some e := by simpa using entry
    have taken_ok := ok.holdTaken (x := x) (n := key.toNat)
    have judged := judgeHold_of_seeking (n := key.toNat) entry' (state.imp_right fun ⟨claiming, unaccepted, _⟩ =>
      ⟨claiming, by simpa using unaccepted⟩)
    rw [judged, if_neg taken'] at acts
    rcases state with state | ⟨state, -, active⟩
    · have nameless := ok.name_of_heard entry state
      have recorded : (queueRecord .conflict key.toNat (some x) 0 (holdTaken x key.toNat s)).entryOf x = some e :=
        (State.entryOf_congr (by simp) x).trans entry'
      have single := (taken_ok.single x).congr
        (t := queueRecord .conflict key.toNat (some x) 0 (holdTaken x key.toNat s)) (by simp)
      have disputes := holdDisputed_disputed (n := key.toNat) single
      rw [conflictHold_of_heard entry' state] at acts
      refine ⟨_, acts, settles_close (by simp [disputed]) (by simp [disputed]), holdAnswersPing_of (by simp [disputed]), ?_,
        by simpa using disputes, by simp [disputed], by simp [disputed], ?_, ?_, fun _ => ?_, by simp [state], ?_⟩
      · rw [disputed_of_entry single recorded]
        simp [holdTaken_eq, state, Entry.objected]
      · rw [disputed_of_entry single recorded]
        simp [state]
      · rintro u rfl
        rw [disputed_of_entry single recorded]
        simp only [close_frame, nameless, Option.getD_none]
        exact record_if_congr _ (holdTaken_record _ _ _ _) (by simp) _ _ _ _
      · exact censusCloses_of (by simp [disputed]) (by simp [disputed]) (by simp [disputed])
      · rw [disputed_of_entry single recorded]
        apply State.eq_of_blocks <;> simp
    · rw [conflictHold_of_claiming entry' state] at acts
      have brought := entryToHeard_dropClaim x (holdTaken x key.toNat s)
      generalize entryToHeard x (dropClaim x (holdTaken x key.toNat s)) = v at brought acts
      have entries := congrArg (fun w : State => w.roster.entries) brought
      have own := (State.entryOf_eq_some entry').2
      have found := State.entryOf_map entries (fun g => by split <;> rfl) x
      rw [entry', Option.map_some, if_pos own] at found
      have recorded := (State.entryOf_congr (t := queueRecord .conflict key.toNat (some x) 0 v) (by simp) x).trans found
      have single := ((taken_ok.single x).map entries (fun g => by split <;> rfl)).congr
        (t := queueRecord .conflict key.toNat (some x) 0 v) (by simp)
      have disputes := holdDisputed_disputed (n := key.toNat) single
      have counted := disputed_of_entry (n := key.toNat) single recorded
      have record : (queueRecord .conflict key.toNat (some x) 0 v).changes
          = (queueRecord .conflict key.toNat (some x) 0 s).changes :=
        queueRecord_changes_congr (by simp [brought]) (by simp [brought]) _ _ _ _
      have heard_census : (heardReported (holdTaken x key.toNat s)).census = (heardReported (goodFrame s)).census :=
        heardReported_census_congr (by simp) (by simp) (by simp)
      refine ⟨_, acts, settles_close (by simp [disputed, brought]) (by simp [disputed, brought]),
        holdAnswersPing_of (by simp [disputed, brought]), ?_, by simpa [brought] using disputes,
        by simp [disputed, brought], by simp [disputed, brought], ?_, ?_, by simp [state], fun _ => ?_, ?_⟩
      · rw [counted]
        simp only [close_frame, queueRecord_frame]
        rw [brought]
        dsimp only
        rw [map_own_map_own (g := Entry.toHeard _) fun _ => rfl]
        simp [holdTaken_eq, state, Entry.objected, Entry.toHeard, State.claimValue, State.toolAfter, State.cfg, ms]
      · rw [counted]
        simp [brought, state]
      · rintro u rfl
        rw [counted]
        simp only [close_frame]
        exact record_if_congr _ record (by simp [brought]) _ _ _ _
      · refine censusReopened_close active ?_ (by simp [disputed, brought, heard_census])
        have mem : e.toHeard (holdTaken x key.toNat s).claimValue ∈ v.roster.entries :=
          entries ▸ List.mem_map.mpr ⟨e, (State.entryOf_eq_some entry').1, if_pos own⟩
        rw [counted]
        exact State.not_quietHolds_of_changed (f := Entry.objected) (l := v.roster.entries) (by simp) mem own rfl
      · rw [counted]
        apply State.eq_of_blocks <;> simp [brought]
  · have stranger' : (holdTaken x key.toNat s).entryOf x = none := by simpa using stranger
    have recorded : (queueRecord .conflict key.toNat (some x) 0 (holdTaken x key.toNat s)).entryOf x = none :=
      (State.entryOf_congr (by simp) x).trans stranger'
    have disputes := holdDisputed_disputed (n := key.toNat) (State.single_of_absent recorded)
    rw [judgeHold_of_stranger stranger', if_neg taken', conflictHold_of_stranger stranger'] at acts
    refine ⟨_, acts, settles_close (by simp [disputed]) (by simp [disputed]), holdAnswersPing_of (by simp [disputed]), ?_,
      by simpa using disputes, by simp [disputed], by simp [disputed], ?_, ?_, ?_⟩
    · rw [disputed_of_stranger recorded]
      simp [holdTaken_eq]
    · rw [disputed_of_stranger recorded]
      simp [holdTaken_record]
    · exact censusCloses_of (by simp [disputed]) (by simp [disputed]) (by simp [disputed])
    · rw [disputed_of_stranger recorded]
      apply State.eq_of_blocks <;> simp

end Sys2Proof.Machine

/-! Settles O44: a CALL joins the requests (R24, R82, R84, R144). -/

namespace Sys2Proof.Machine

section

variable {s : State} {v : Service} {n : Name} {cause : Byte} {e : Entry}

theorem Service.call_of_waiting (waits : v.requests.any (fun r => r.name == n) = true) : v.call n cause = { v with
    requests := v.requests.map (fun r => if r.name = n then { r with cause := cause, overrun := true } else r) } := by
  simp [Service.call, waits]

theorem Service.call_of_fresh (fresh : v.requests.any (fun r => r.name == n) = false) : v.call n cause = { v with
    requests := insertBy (fun r => decide (n < r.name)) { name := n, cause := cause, overrun := false } v.requests } := by
  simp [Service.call, fresh]

@[simp] theorem Service.call_frame (v : Service) (n : Name) (cause : Byte) : (v.call n cause).inService = v.inService
    ∧ (v.call n cause).mask = v.mask ∧ (v.call n cause).bottom = v.bottom := by
  unfold Service.call
  split <;> simp

theorem takeCall_of_lost (holder : s.holder n = some e) (lost : e.state = .lost) : takeCall n cause s = s := by
  simp [takeCall, holder, lost]

theorem takeCall_of_holder (holder : s.holder n = some e) (living : e.state ≠ .lost) :
    takeCall n cause s = s.withService (s.service.call n cause) := by
  simp [takeCall, holder, living]

/-- A CALL of a holder that is in reach is taken, whatever its state was (R82, R144). -/
theorem takeCall_senderReport (ok : RosterOk s) (holder : s.holder n = some e)
    (open_ : ¬ (e.state = .lost ∧ s.behindLost e = true)) :
    takeCall n cause (senderReport n s) = (refreshHolder e s).withService (s.service.call n cause) := by
  rw [senderReport_of_holder holder open_, takeCall_of_holder (holder_refreshHolder ok holder) (by simp)]
  simp

/-- A CALL of a holder LOST behind a LOST bridge is not taken (R84). -/
theorem takeCall_senderReport_of_lost (holder : s.holder n = some e) (lost : e.state = .lost ∧ s.behindLost e = true) :
    takeCall n cause (senderReport n s) = senderReport n s := by
  rw [senderReport_of_lost holder lost]
  exact takeCall_of_lost ((State.holder_congr (by simp) n).trans holder) lost.1

end

/-- Settles O44. -/
theorem callJoinsRequests : Obligations.CallJoinsRequests := by
  refine ⟨fun s key cause e heard ok sender holder state => ?_, fun s key cause heard ok asked sender => ?_⟩
  · have acts := exec_callReceived heard sender
    have living : e.state ≠ .lost := by rcases state with state | state <;> simp [state]
    rw [takeCall_senderReport ok.goodFrame (by simpa using holder) (fun lost => living lost.1)] at acts
    refine ⟨_, acts, settles_close (by simp) (by simp), by simp, by simp, by simp, by simp, fun fresh => ?_,
      fun waits => ?_, by apply State.eq_of_blocks <;> simp⟩
    · simp [Service.call_of_fresh fresh]
    · simp [Service.call_of_waiting waits]
  · have acts := exec_callReceived heard sender
    refine ⟨_, _, acts, settles_close (by simp) (by simp), senderReported asked _, fun e holder open_ => ?_,
      fun unheld => ?_, censusCloses_of (by simp) (by simp) (by simp), by apply State.eq_of_blocks <;> simp⟩
    · rw [takeCall_senderReport ok.goodFrame (by simpa using holder) (by simpa using open_)]
      by_cases waits : s.service.requests.any (fun r => r.name == key.toNat) = true
      · simp [Service.call_of_waiting waits, waits]
      · simp [Service.call_of_fresh (Bool.not_eq_true _ ▸ waits), waits]
    · cases holder : s.holder key.toNat with
      | none => rw [takeCall_of_stranger (senderReport_of_stranger_holder holder)]; simp
      | some e =>
        rw [takeCall_senderReport_of_lost (by simpa using holder) (by simpa using unheld e holder)]
        simp

end Sys2Proof.Machine

/-! Settles O46: the deadlines that end a watch (R87, R104, R105, R112, R177). -/

namespace Sys2Proof.Machine

section

variable {s : State} {x : Identity} {c : PendingClaim} {n : Name} {a : Asked} {k : Ticket}

theorem exec_objectionWindowEnd (claim : s.claimOf x = some c) (opened : c.windowEnded = false)
    (due : s.toolDue (some c.windowEnd) = true) :
    exec (.objectionWindowEnd x) s = .next (refreshNotices (s.withNaming { s.naming with
        claims := s.naming.claims.map (fun d => if d.claimant = x then { d with windowEnded := true } else d) })) := by
  change execObjectionWindowEnd x s = _
  simp [execObjectionWindowEnd, claim, opened, due]

theorem exec_holdDeadline (claim : s.claimOf x = some c) (due : s.toolDue (some c.hold) = true) :
    exec (.holdDeadline x) s = .next (close (entryToHeard x (dropClaim x s))) := by
  change execHoldDeadline x s = _
  simp [execHoldDeadline, claim, due]

theorem exec_probeWindowEnd (asked : s.roster.asked.find? (fun b => b.name == n) = some a)
    (due : s.toolDue a.window = true) : exec (.probeWindowEnd n) s = .next (refreshNotices (leaveAsked n s)) := by
  change execProbeWindowEnd n s = _
  simp [execProbeWindowEnd, asked, due]

theorem exec_pingProbeWindow (running : s.pingRunning = true) (due : s.toolDue s.order.pingWindow = true) :
    exec .pingProbeWindow s = .next (refreshNotices (endOrder (some .noAnswer) 0 s)) := by
  have running' : (s.withOrder { s.order with pingWindow := none }).pingRunning = true := running
  change execPingProbeWindow s = _
  simp only [execPingProbeWindow, due, if_true, endPingOrder, running']
  rfl

theorem exec_objectionTicketDeadline (ticket : s.naming.tickets.find? (fun b => b.tag == k.tag) = some k)
    (due : s.toolDue (some k.deadline) = true) :
    exec (.objectionTicketDeadline k.tag) s = .next (refreshNotices (withdrawLate k.tag (s.withNaming { s.naming with
      tickets := s.naming.tickets.filter (fun b => b.tag != k.tag) }))) := by
  change execObjectionTicketDeadline k.tag s = _
  simp [execObjectionTicketDeadline, ticket, due]

/-- An OBJECT that has not begun is withdrawn and counted (R112). -/
theorem withdrawLate_line (tag : Nat) (s : State) : (withdrawLate tag s).line =
    if s.line.txList.any (fun f => f.tag == tag && !f.started) then
      { s.line with txList := s.line.txList.filter (fun f => f.tag != tag), txDrops := min 65535 (s.line.txDrops + 1) }
    else s.line := by
  unfold withdrawLate
  split <;> rfl

end

/-- Settles O46. -/
theorem windowDeadlinesEndTheirWatch : Obligations.WindowDeadlinesEndTheirWatch := by
  refine ⟨fun s x c claim opened due => ⟨_, exec_objectionWindowEnd claim opened due, ?_⟩,
    fun s x c claim due => ⟨_, exec_holdDeadline claim due, ?_⟩,
    fun s n a asked due => ⟨_, exec_probeWindowEnd asked due, ?_⟩,
    fun s running due => ⟨_, exec_pingProbeWindow running due, ?_⟩,
    fun s k ticket due => ⟨_, exec_objectionTicketDeadline ticket due, ?_⟩⟩
  · refine ⟨settles_refreshNotices (by simp) (by simp), by simp, by apply State.eq_of_blocks <;> simp⟩
  · rw [entryToHeard_dropClaim]
    refine ⟨settles_close (by simp) (by simp), by simp, ?_, by apply State.eq_of_blocks <;> simp⟩
    simp [Entry.toHeard, State.claimValue, ms]
  · refine ⟨settles_refreshNotices (by simp) (by simp), ?_, by apply State.eq_of_blocks <;> simp⟩
    simp [leaveAsked, State.withAsked]
  · refine ⟨settles_refreshNotices (by simp) (by simp), ?_, by apply State.eq_of_blocks <;> simp⟩
    simp [endOrder]
    rfl
  · refine ⟨settles_refreshNotices (by simp) (by simp), by simp, ?_, by apply State.eq_of_blocks <;> simp⟩
    simp [withdrawLate_line]

end Sys2Proof.Machine

/-! Settles O47: the census deadlines (R128, R130, R132). -/

namespace Sys2Proof.Machine

section

variable {s : State} {c : Instr}

theorem exec_firstFrameDeadline (due : s.toolDue s.census.firstFrame = true) (powering : s.census.state = .powering) :
    exec .firstFrameDeadline s = .next (refreshNotices (enterComplete (s.withCensus { s.census with firstFrame := none }))) := by
  change execFirstFrameDeadline s = _
  simp [execFirstFrameDeadline, due, powering]

theorem exec_quietDeadline (due : s.toolDue s.census.quiet = true) (quiet : s.census.state = .quiet) :
    exec .quietDeadline s = .next (refreshNotices (enterComplete (s.withCensus { s.census with quiet := none }))) := by
  change execQuietDeadline s = _
  simp [execQuietDeadline, due, quiet]

theorem exec_censusDeadline (due : s.toolDue s.census.deadline = true) :
    exec .censusDeadline s = .next (refreshNotices (censusOverrun (s.withCensus { s.census with deadline := none }))) := by
  change execCensusDeadline s = _
  simp [execCensusDeadline, due]

/-- A census that completes (R128, R132). -/
theorem enterComplete_eq (s : State) : enterComplete s = { s with
    census := { s.census with
      state := .complete, firstFrame := none, quiet := none, deadline := none
      generation := s.census.generation + 1, settling := s.time.now - s.coupling.mateCapture }
    changes := (queueRecord .census 0 none s.namedCount s).changes
    notices := { s.notices with census := true, censusSeen := false } } := by
  have changes (v : Census) : (queueRecord .census 0 none s.namedCount (s.withCensus v)).changes
      = (queueRecord .census 0 none s.namedCount s).changes := queueRecord_changes_congr (by simp) (by simp) _ _ _ _
  unfold enterComplete setCensusFlag
  apply State.eq_of_blocks <;> simp [changes]

/-- What the overrun of the census deadline records (R130). -/
theorem censusOverrun_of_gathering (gathering : s.census.state = .gathering) : censusOverrun s = { s with
    census := { s.census with state := .overdue }
    changes := (queueRecord .overdue 0 none s.seekers s).changes } := by
  have changes (v : Census) : (queueRecord .overdue 0 none s.seekers (s.withCensus v)).changes
      = (queueRecord .overdue 0 none s.seekers s).changes := queueRecord_changes_congr (by simp) (by simp) _ _ _ _
  unfold censusOverrun
  apply State.eq_of_blocks <;> simp [gathering, changes]

theorem censusOverrun_of_quiet (quiet : s.census.state = .quiet) : censusOverrun s = { s with
    census := { s.census with returnState := .overdue }
    changes := (queueRecord .overdue 0 none 0 s).changes } := by
  have changes (v : Census) : (queueRecord .overdue 0 none 0 (s.withCensus v)).changes
      = (queueRecord .overdue 0 none 0 s).changes := queueRecord_changes_congr (by simp) (by simp) _ _ _ _
  unfold censusOverrun
  apply State.eq_of_blocks <;> simp [quiet, changes]

end

/-- Settles O47. -/
theorem censusDeadlines : Obligations.CensusDeadlines := by
  refine ⟨fun s c which => ?_, fun s due gathering => ⟨_, exec_censusDeadline due, ?_⟩,
    fun s due quiet => ⟨_, exec_censusDeadline due, ?_⟩⟩
  · obtain ⟨v, acts, fits⟩ : ∃ v : Census, exec c s = .next (refreshNotices (enterComplete (s.withCensus v)))
        ∧ v = { s.census with firstFrame := v.firstFrame, quiet := v.quiet } := by
      rcases which with ⟨rfl, due, powering⟩ | ⟨rfl, due, quiet⟩
      · exact ⟨_, exec_firstFrameDeadline due powering, rfl⟩
      · exact ⟨_, exec_quietDeadline due quiet, rfl⟩
    have changes : (queueRecord .census 0 none (s.withCensus v).namedCount (s.withCensus v)).changes
        = (queueRecord .census 0 none s.namedCount s).changes := queueRecord_changes_congr (by simp) (by simp) _ _ _ _
    refine ⟨_, acts, ?_⟩
    rw [enterComplete_eq, changes]
    refine ⟨?_, ?_, by simp, by simp, by simp, by simp, keepsPins_refreshNotices (by simp),
      levelsFollow_refreshNotices _, by apply State.eq_of_blocks <;> simp⟩
    · rw [fits]; simp
    · exact refreshNotices_changes _
  · have changes : (queueRecord .overdue 0 none s.seekers (s.withCensus { s.census with deadline := none })).changes
        = (queueRecord .overdue 0 none s.seekers s).changes := queueRecord_changes_congr (by simp) (by simp) _ _ _ _
    rw [censusOverrun_of_gathering (s := s.withCensus { s.census with deadline := none }) gathering]
    exact ⟨settles_refreshNotices (by simp) (by simp), by simp, (refreshNotices_changes _).trans changes,
      by apply State.eq_of_blocks <;> simp⟩
  · have changes : (queueRecord .overdue 0 none 0 (s.withCensus { s.census with deadline := none })).changes
        = (queueRecord .overdue 0 none 0 s).changes := queueRecord_changes_congr (by simp) (by simp) _ _ _ _
    rw [censusOverrun_of_quiet (s := s.withCensus { s.census with deadline := none }) quiet]
    exact ⟨settles_refreshNotices (by simp) (by simp), by simp, (refreshNotices_changes _).trans changes,
      by apply State.eq_of_blocks <;> simp⟩

end Sys2Proof.Machine

/-! Settles O48: how a frame enters the transmit list, and the beat comparator (R27, R28, R29, R48, R49). -/

namespace Sys2Proof.Machine

section

variable {s : State} {b : TxBody} {v : Time}

/-- In a list where what stands behind an element stays behind it, an insertion cuts the list at one place. -/
theorem insertBy_splits {α : Type} {behind : α → Bool} (x : α) {l : List α}
    (ordered : l.Pairwise fun y z => behind y = true → behind z = true) : ∃ front back, l = front ++ back
      ∧ insertBy behind x l = front ++ x :: back ∧ (∀ y ∈ front, behind y = false) ∧ ∀ y ∈ back, behind y = true := by
  induction l with
  | nil => exact ⟨[], [], rfl, rfl, nofun, nofun⟩
  | cons y l ih =>
    obtain ⟨head, tail⟩ := List.pairwise_cons.mp ordered
    by_cases first : behind y = true
    · exact ⟨[], y :: l, rfl, by simp [insertBy, first], nofun,
        List.forall_mem_cons.mpr ⟨first, fun z hz => head z hz first⟩⟩
    · obtain ⟨front, back, rfl, inserted, ahead, after⟩ := ih tail
      exact ⟨y :: front, back, rfl, by simp [insertBy, first, inserted],
        List.forall_mem_cons.mpr ⟨by simpa using first, ahead⟩, after⟩

/-- A frame enters a list in order behind those of its own and of lower kind, and ahead of those of higher kind (R27). -/
theorem insertFrame_splits (f : TxFrame) {l : List TxFrame}
    (ordered : l.Pairwise fun g h => g.body.kind.code ≤ h.body.kind.code) : ∃ front back, l = front ++ back
      ∧ insertFrame f l = front ++ f :: back ∧ (∀ g ∈ front, g.body.kind.code ≤ f.body.kind.code)
      ∧ ∀ g ∈ back, f.body.kind.code < g.body.kind.code := by
  have steps : l.Pairwise fun g h => decide (f.body.kind.code < g.body.kind.code) = true
      → decide (f.body.kind.code < h.body.kind.code) = true :=
    ordered.imp fun le lt => by simp only [decide_eq_true_iff] at lt ⊢; omega
  obtain ⟨front, back, list, inserted, ahead, after⟩ := insertBy_splits f steps
  exact ⟨front, back, list, inserted, fun g hg => by simpa using ahead g hg, fun g hg => by simpa using after g hg⟩

/-! ### What becomes of an offer (R28, R29) -/

theorem offerOutcome_of_waiting (beat : b = .beat) (waits : s.line.txList.any TxFrame.isBeat = true) :
    offerOutcome b s = .refused := by
  simp [offerOutcome, beat, waits]

theorem offerOutcome_of_room (admits : b ≠ .beat ∨ s.line.txList.any TxFrame.isBeat = false)
    (room : s.line.txList.length < 12) : offerOutcome b s = .inserted := by
  have admitted : (b == .beat && s.line.txList.any TxFrame.isBeat) = false := by
    rcases admits with other | free
    · simp [other]
    · simp [free]
  simp [offerOutcome, admitted, Config.txCapacity, room]

theorem offerOutcome_of_full (admits : b ≠ .beat ∨ s.line.txList.any TxFrame.isBeat = false)
    (full : 12 ≤ s.line.txList.length) (other : b.kind ≠ .object) : offerOutcome b s = .dropped := by
  have admitted : (b == .beat && s.line.txList.any TxFrame.isBeat) = false := by
    rcases admits with other | free
    · simp [other]
    · simp [free]
  simp [offerOutcome, admitted, Config.txCapacity, Nat.not_lt.mpr full, TxBody.isObject, other]

theorem TxBody.ne_beat_of_object (object : b.kind = .object) : b ≠ .beat := by
  rintro rfl
  exact absurd object (by decide)

theorem offerOutcome_of_displaceable {g : TxFrame} (full : 12 ≤ s.line.txList.length) (object : b.kind = .object)
    (found : s.line.displaceable = some g) : offerOutcome b s = .displaces g.tag := by
  simp [offerOutcome, TxBody.ne_beat_of_object object, Config.txCapacity, Nat.not_lt.mpr full, TxBody.isObject, object, found]

theorem offerOutcome_of_undisplaceable (full : 12 ≤ s.line.txList.length) (object : b.kind = .object)
    (found : s.line.displaceable = none) : offerOutcome b s = .dropped := by
  simp [offerOutcome, TxBody.ne_beat_of_object object, Config.txCapacity, Nat.not_lt.mpr full, TxBody.isObject, object, found]

theorem TxListOk.eq_of_beat (ok : TxListOk s) {f g : TxFrame} (hf : f ∈ s.line.txList) (hg : g ∈ s.line.txList)
    (beat_f : f.isBeat = true) (beat_g : g.isBeat = true) : f = g := by
  obtain ⟨_, _, single, _, _⟩ := ok
  have mem_f : f ∈ s.line.txList.filter TxFrame.isBeat := List.mem_filter.mpr ⟨hf, beat_f⟩
  have mem_g : g ∈ s.line.txList.filter TxFrame.isBeat := List.mem_filter.mpr ⟨hg, beat_g⟩
  generalize s.line.txList.filter TxFrame.isBeat = l at single mem_f mem_g
  match l, single with
  | [h], _ => rw [List.mem_singleton.mp mem_f, List.mem_singleton.mp mem_g]
  | [], _ => exact absurd mem_f List.not_mem_nil

theorem TxListOk.displaceable_eq (ok : TxListOk s) {g : TxFrame} (hg : g ∈ s.line.txList) (beat : g.isBeat = true)
    (rests : s.line.flies g = false) : s.line.displaceable = some g := by
  cases found : s.line.displaceable with
  | none => exact absurd (List.find?_eq_none.mp found g hg) (by simp [beat, rests])
  | some f =>
    have test := List.find?_some (p := fun f : TxFrame => f.isBeat && !s.line.flies f) found
    rw [Bool.and_eq_true] at test
    rw [ok.eq_of_beat (List.mem_of_find?_eq_some found) hg test.1 beat]

theorem Line.displaceable_eq_none {l : Line} (flying : ∀ g ∈ l.txList, g.isBeat = true → l.flies g = true) :
    l.displaceable = none :=
  List.find?_eq_none.mpr fun g hg meets => by
    rw [Bool.and_eq_true] at meets
    simp [flying g hg meets.1] at meets

theorem countTxDrop_line (s : State) :
    (countTxDrop s).line = { s.line with txDrops := min 65535 (s.line.txDrops + 1) } := rfl

theorem exec_beatComparatorMatch (armed : s.time.beat = some v) (due : s.toolDue (some v) = true) :
    exec .beatComparatorMatch s = .next (refreshNotices (offerFrame .beat .timeBase .none
      (s.withTime { s.time with beat := some (v + BitVec.ofNat 32 (ms s.cfg.beat)) }))) := by
  change execBeatComparatorMatch s = _
  simp [execBeatComparatorMatch, armed, due]

end

/-- Settles O48. -/
theorem offersAndTheBeatComparator : Obligations.OffersAndTheBeatComparator := by
  refine ⟨fun s b owner ref ok => ?_, fun s v armed due => ?_⟩
  · have ordered := ok.2.1
    refine ⟨fun beat waits => offerFrame_refused (offerOutcome_of_waiting beat waits), fun admits room => ?_,
      fun full object => ⟨fun g hg beat rests => ?_, fun flying => ?_⟩, by simp, fun full other notBeat => ?_⟩
    · rw [offerFrame_inserted (offerOutcome_of_room admits room)]
      exact ⟨insertFrame_splits _ ordered, rfl⟩
    · rw [offerFrame_displaces (offerOutcome_of_displaceable full.ge object (ok.displaceable_eq hg beat rests))]
      exact ⟨insertFrame_splits _ (ordered.filter _), rfl, rfl⟩
    · rw [offerFrame_dropped (offerOutcome_of_undisplaceable full.ge object (Line.displaceable_eq_none flying)),
        countTxDrop_line]
    · rw [offerFrame_dropped (offerOutcome_of_full (.inl notBeat) full.ge other), countTxDrop_line]
  · have acts := exec_beatComparatorMatch armed due
    generalize made : TimeBase.mk _ _ _ _ = later at acts
    refine ⟨_, acts, settles_refreshNotices (by simp) (by simp), by simp [← made, ms],
      fun waits => ?_, fun free room => ?_, fun free full => ?_, by simp, by apply State.eq_of_blocks <;> simp⟩
    · have outcome := offerOutcome_of_waiting (s := s.withTime later) rfl waits
      simp [offerFrame_refused outcome]
    · have outcome := offerOutcome_of_room (b := .beat) (s := s.withTime later) (.inr free) room
      simp [offerFrame_inserted outcome, any_insertFrame, TxFrame.isBeat]
    · have outcome := offerOutcome_of_full (b := .beat) (s := s.withTime later) (.inr free) full (by decide)
      simp [offerFrame_dropped outcome, countTxDrop_line]

end Sys2Proof.Machine

/-! Settles O58: what a TAKE hands out (R146 to R149). -/

namespace Sys2Proof.Machine

section

variable {s u : State} {reply : List Byte} {b n m : Name} {c : Setup} {v : Service} {r : Request}

/-! ### A transaction of the port closes (R169) -/

theorem levelsFollow_clockOut (h : LevelsFollow u) : LevelsFollow (clockOut s reply u) := by
  obtain ⟨changes, service, order, attn⟩ := h
  exact ⟨changes, service, order, attn⟩

theorem keepsLatched_clockOut (h : KeepsLatched s u) : KeepsLatched s (clockOut s reply u) := h

@[simp] theorem clockOut_sdo (s u : State) (reply : List Byte) : (clockOut s reply u).pins.sdo = statusByte s :: reply := rfl

/-! ### The choice of a request (R140, R147) -/

theorem highest_of_lowest {l : List Name} (mem : n ∈ l) (lowest : ∀ m ∈ l, m ≠ n → rank b n < rank b m) :
    highest b l = some n := by
  cases best : highest b l with
  | none => exact absurd mem (by simp [highest_eq_none_iff.mp best])
  | some k =>
    obtain ⟨mem_k, least⟩ := highest_spec best
    by_contra other
    exact absurd (least n mem) (Nat.not_le.mpr (lowest k mem_k fun same => other (same ▸ rfl)))

theorem State.takeChoice_eq_none (outranked : ∀ r ∈ s.service.requests, s.masked r.name = false →
    ∃ m ∈ s.service.inService, rank s.service.bottom m ≤ rank s.service.bottom r.name) : s.takeChoice = none := by
  cases choice : s.takeChoice with
  | none => rfl
  | some n =>
    obtain ⟨best, outranks⟩ := State.takeChoice_eq_some_iff.mp choice
    obtain ⟨⟨r, hr, rfl⟩, unmasked⟩ := State.mem_openRequests_iff.mp (highest_spec best).1
    obtain ⟨m, hm, le⟩ := outranked r hr unmasked
    exact absurd (Service.outranksService_iff.mp outranks m hm) (Nat.not_lt.mpr le)

/-! ### The service unit after a TAKE (R147, R148) -/

@[simp] theorem Service.taken_kept (v : Service) (c : Setup) (n : Name) :
    (v.taken c n).requests = v.requests.filter (fun q => q.name != n) ∧ (v.taken c n).mask = v.mask := by
  unfold Service.taken Service.serve Service.dropRequest
  dsimp only
  repeat' split
  all_goals exact ⟨rfl, rfl⟩

theorem Service.taken_of_manual (manual : c.autoDone = false) :
    (m ∈ (v.taken c n).inService ↔ m = n ∨ m ∈ v.inService) ∧ (v.taken c n).bottom = v.bottom := by
  by_cases serves : n ∈ v.inService
  · simp only [Service.taken, manual, Service.serve, Service.dropRequest, List.contains_iff_mem, serves]
    exact ⟨⟨.inr, fun h => h.elim (fun same => same ▸ serves) id⟩, rfl⟩
  · simp [Service.taken, manual, Service.serve, Service.dropRequest, serves]

theorem Service.taken_of_autoDone (auto : c.autoDone = true) : (v.taken c n).inService = v.inService
    ∧ (v.taken c n).bottom = if c.rotation then n else v.bottom := by
  cases rotates : c.rotation <;> simp [Service.taken, auto, rotates, Service.dropRequest]

theorem exec_take_of_choice (choice : s.takeChoice = some n) : exec .take s =
    .next (clockOut s (s.service.takeReply n) (refreshNotices (s.withService (s.service.taken s.cfg n)))) := by
  change execTake s = _
  simp [execTake, choice]

theorem exec_take_of_none (none : s.takeChoice = none) : exec .take s = .next (clockOut s [0x3F, 0x00, 0x00] s) := by
  change execTake s = _
  simp [execTake, none]

end

/-- Settles O58. -/
theorem takeHandsOutHighest : Obligations.TakeHandsOutHighest := by
  refine ⟨fun s n r request unmasked ahead outranks => ?_, fun s outranked => exec_take_of_none (State.takeChoice_eq_none outranked)⟩
  have mem := List.mem_of_find?_eq_some request
  have name : r.name = n := by simpa using List.find?_some request
  have isOpen : n ∈ s.openRequests := State.mem_openRequests_iff.mpr ⟨⟨r, mem, name⟩, unmasked⟩
  have choice : s.takeChoice = some n := by
    refine State.takeChoice_eq_some_iff.mpr ⟨highest_of_lowest isOpen fun m hm other => ?_,
      Service.outranksService_iff.mpr outranks⟩
    obtain ⟨⟨q, hq, rfl⟩, unmasked_q⟩ := State.mem_openRequests_iff.mp hm
    exact ahead q hq other unmasked_q
  refine ⟨_, exec_take_of_choice choice, by simp, by simp,
    fun manual => ⟨fun m => by simpa using (Service.taken_of_manual manual).1, ?_⟩, fun auto => ?_, ?_,
    keepsLatched_clockOut (keepsLatched_refreshNotices (by simp)), levelsFollow_clockOut (levelsFollow_refreshNotices _),
    by apply State.eq_of_blocks <;> simp⟩
  · simpa using (Service.taken_of_manual (v := s.service) (m := n) (n := n) manual).2
  · simpa using Service.taken_of_autoDone (v := s.service) (n := n) auto
  · simp [Service.takeReply, request]

end Sys2Proof.Machine

/-! Settles O59: DONE and SET_MASK (R143, R151 to R153). -/

namespace Sys2Proof.Machine

section

variable {s : State} {c : Instr} {n : Name}

theorem finishService_service (n : Name) (s : State) : (finishService n s).service = { s.service with
    inService := s.service.inService.filter (fun m => m != n)
    bottom := if s.cfg.rotation then n else s.service.bottom } := by
  cases rotates : s.cfg.rotation <;> simp [finishService, Service.doneWith, Service.finish, rotates]

/-- What a DONE of a name in service leaves (R151). -/
theorem finishService_closes (n : Name) (s : State) :
    (finishService n s).pins.sdo = [statusByte s, BitVec.ofNat 8 n, 0x00] ∧ KeepsLatched s (finishService n s)
      ∧ LevelsFollow (finishService n s) ∧ finishService n s = { s with
        pins := (finishService n s).pins, service := (finishService n s).service
        notices := (finishService n s).notices } :=
  ⟨rfl, keepsLatched_clockOut (keepsLatched_refreshNotices (by simp)), levelsFollow_clockOut (levelsFollow_refreshNotices _),
    by apply State.eq_of_blocks <;> simp⟩

theorem exec_done_of_inService {b : Byte} (specific : b ≠ 0) (serves : b.toNat ∈ s.service.inService) :
    exec (.done b) s = .next (finishService b.toNat s) := by
  change execDone b s = _
  rw [execDone, if_neg specific, if_pos (List.contains_iff_mem.mpr serves)]

theorem exec_done_of_not_inService {b : Byte} (specific : b ≠ 0) (idle : b.toNat ∉ s.service.inService) :
    exec (.done b) s = .next (notInService s) := by
  change execDone b s = _
  rw [execDone, if_neg specific, if_neg (mt List.contains_iff_mem.mp idle)]

theorem doneHighest_of_empty (empty : s.service.inService = []) : doneHighest s = notInService s := by
  simp [doneHighest, empty, highest]

/-! ### The mask (R143) -/

theorem maskOf_getLsbD (mask : BitVec 64) (bound : n < 64) :
    (maskOf mask).getLsbD n = (mask.getLsbD n && decide (1 ≤ n ∧ n ≤ 62)) := by
  have names : ∀ k < 64, (0x7FFFFFFFFFFFFFFE#64).getLsbD k = decide (1 ≤ k ∧ k ≤ 62) := by decide
  rw [maskOf, BitVec.getLsbD_and, names n bound]

theorem exec_setMask_of_run (mask : BitVec 64) (run : s.order.phase = .run) : exec (.setMask mask) s =
    .next (clockOut s [0x00] (refreshNotices (s.withService { s.service with mask := maskOf mask }))) := by
  change execSetMask mask s = _
  simp [execSetMask, run]

theorem exec_setMask_of_setup (mask : BitVec 64) (setup : s.order.phase = .setup) :
    exec (.setMask mask) s = .next (clockOut s [0x06] s) := by
  change execSetMask mask s = _
  simp [execSetMask, setup]

end

/-- Settles O59. -/
theorem doneAndSetMask : Obligations.DoneAndSetMask := by
  refine ⟨fun s c n which => ⟨fun serves => ?_, fun idle => ?_, fun empty => ?_⟩,
    fun s mask => ⟨fun run => ?_, fun setup => exec_setMask_of_setup mask setup⟩, fun n m _ bound _ bound' => ?_⟩
  · have acts : exec c s = .next (finishService n s) := by
      rcases which with ⟨b, rfl, specific, rfl⟩ | ⟨rfl, mem, ahead⟩
      · exact exec_done_of_inService specific serves
      · rw [exec_done0, doneHighest_of_highest (highest_of_lowest mem ahead)]
    exact ⟨_, acts, finishService_service n s, finishService_closes n s⟩
  · rcases which with ⟨b, rfl, specific, rfl⟩ | ⟨_, mem, _⟩
    · exact exec_done_of_not_inService specific idle
    · exact absurd mem idle
  · rw [exec_done0, doneHighest_of_empty empty]
    rfl
  · exact ⟨_, exec_setMask_of_run mask run, by simp, fun n bound => by simpa using maskOf_getLsbD mask bound, rfl,
      keepsLatched_clockOut (keepsLatched_refreshNotices (by simp)), levelsFollow_clockOut (levelsFollow_refreshNotices _),
      by apply State.eq_of_blocks <;> simp⟩
  · rw [rank_self]
    exact rank_le_62 bound'

end Sys2Proof.Machine

/-! Settles O57: FORGET (R94, R95, R175), after what START ORDER makes of an order. -/

namespace Sys2Proof.Machine

section

variable {s t u : State} {code : Byte} {order : State → State} {p : Phase} {e : Entry} {n : Name} {error : Option OrderError}
  {detail : Nat}

/-! ### START ORDER (R171, R172) -/

/-- A transaction that has run an order. -/
def orderRun (order : State → State) (s : State) : State := clockOut s [0x00] (close (order (beginOrder s)))

theorem startOrder_of_idle (idle : s.order.state = .idle) (opcode : s.order.opcode = code) :
    startOrder code order s = orderRun order s := by
  simp [startOrder, idle, opcode, orderRun]

theorem orderRun_inPhase (phase : s.order.phase = p) : orderRun (inPhase p order) s = orderRun order s := by
  have phase' : (beginOrder s).order.phase = p := by simpa using phase
  rw [orderRun, inPhase, if_pos phase', orderRun]

theorem orderRun_inPhase_of_other (phase : s.order.phase ≠ p) :
    orderRun (inPhase p order) s = orderRun (endOrder (some .phase) 0) s := by
  have phase' : (beginOrder s).order.phase ≠ p := by simpa using phase
  rw [orderRun, inPhase, if_neg phase', orderRun]

theorem levelsFollow_orderRun : LevelsFollow (orderRun order s) := levelsFollow_clockOut (levelsFollow_close _)

theorem keepsLatched_orderRun (notices : (order (beginOrder s)).notices = s.notices) : KeepsLatched s (orderRun order s) :=
  keepsLatched_clockOut (keepsLatched_refreshNotices (u := testQuiet (order (beginOrder s))) (by simpa using notices))

@[simp] theorem orderRun_sdo : (orderRun order s).pins.sdo = [statusByte s, 0x00] := rfl

theorem pins_orderRun (pins : (order (beginOrder s)).pins = s.pins) : (orderRun order s).pins =
    { s.pins with sdo := [statusByte s, 0x00], attn := (orderRun order s).pins.attn } := by
  have kept : KeepsPins s (close (order (beginOrder s))) :=
    keepsPins_refreshNotices (u := testQuiet (order (beginOrder s))) (by simpa using pins)
  have shown : (orderRun order s).pins = { (close (order (beginOrder s))).pins with sdo := [statusByte s, 0x00] } := rfl
  rw [shown, kept]

theorem noticesOrder_orderRun (done : (order (beginOrder s)).order.state = .done) :
    (orderRun order s).notices.order = true := by
  obtain ⟨_, _, level, _⟩ := levelsFollow_orderRun (s := s) (order := order)
  rw [level]
  simp [orderRun, done]

/-- An order that ends with no further effect (R171). -/
theorem orderRun_endOrder (agrees : CensusAgrees s) (error : Option OrderError) (detail : Nat) :
    (orderRun (endOrder error detail) s).order = { s.order with
        state := .done, termination := terminationWord error, detail := BitVec.ofNat 8 detail, pingIdentity := none
        pingWindow := none }
      ∧ orderRun (endOrder error detail) s = { s with
        pins := (orderRun (endOrder error detail) s).pins, order := (orderRun (endOrder error detail) s).order
        notices := (orderRun (endOrder error detail) s).notices } := by
  have ended : CensusAgrees (endOrder error detail (beginOrder s)) := agrees.congr (by simp) (by simp) (by simp)
  refine ⟨by simp [orderRun, beginOrder], ?_⟩
  rw [orderRun, close_of_agrees ended]
  apply State.eq_of_blocks <;> simp

/-! ### The FORGET order -/

theorem exec_forget (idle : s.order.state = .idle) (opcode : s.order.opcode = 0x14) (phase : s.order.phase = .run) :
    exec .forget s = .next (orderRun forgetOrder s) := by
  change execForget s = _
  rw [execForget, startOrder_of_idle idle opcode, orderRun_inPhase phase]

theorem orderRun_congr {other : State → State} (same : order (beginOrder s) = other (beginOrder s)) :
    orderRun order s = orderRun other s := by
  rw [orderRun, same, orderRun]

@[simp] theorem beginOrder_operandNames : (beginOrder s).operandNames = s.operandNames := rfl

@[simp] theorem beginOrder_holder : (beginOrder s).holder n = s.holder n := rfl

theorem State.operandNames_iff : s.operandNames = true ↔ 1 ≤ s.order.operand.toNat ∧ s.order.operand.toNat ≤ 62 := by
  simp [State.operandNames, byteIn]

theorem forgetOrder_of_holder (names : s.operandNames = true) (holder : s.holder s.order.operand.toNat = some e)
    (lost : e.state = .lost) : forgetOrder s = endOrder none 0 (removeEntry e .forgotten
      (queueRecord .forgotten s.order.operand.toNat (some e.identity) 0 s)) := by
  simp [forgetOrder, names, holder, lost]

theorem forgetOrder_of_living (names : s.operandNames = true)
    (living : ∀ e, s.holder s.order.operand.toNat = some e → e.state ≠ .lost) :
    forgetOrder s = endOrder (some .notLost) 0 s := by
  cases holder : s.holder s.order.operand.toNat with
  | none => simp [forgetOrder, names, holder]
  | some e => simp [forgetOrder, names, holder, living e holder]

theorem forgetOrder_of_nameless (nameless : s.operandNames = false) : forgetOrder s = endOrder (some .badOperand) 0 s := by
  simp [forgetOrder, nameless]

/-- The removal of a holder that is no bridge (R95). -/
theorem removeEntry_of_not_bridge (held : e.heldName = some n) (plain : isBridge e.identity = false) (kind : ChangeKind)
    (s : State) : removeEntry e kind s = { s with
      roster := { s.roster with
        entries := s.roster.entries.filter (fun g => g.identity != e.identity), fullLatch := false }
      naming := { s.naming with claims := s.naming.claims.filter (fun c => c.claimant != e.identity) }
      service := { s.service with
        requests := s.service.requests.filter (fun r => r.name != n)
        inService := s.service.inService.filter (fun m => m != n) } } := by
  rw [removeEntry_of_held held, leaveName_of_not_bridge plain, serviceLeft_eq]
  rfl

/-- An entry that seeks no name goes, and the quiet condition stays as it is (R129). -/
theorem State.quietHolds_removed (ok : RosterOk s) (mem : e ∈ s.roster.entries) (rests : e.seeking = false)
    (entries : t.roster.entries = s.roster.entries.filter (fun g => g.identity != e.identity))
    (claims : t.naming.claims = s.naming.claims) : t.QuietHolds ↔ s.QuietHolds := by
  have seeks (g : Entry) : (g.state ≠ .heard ∧ g.state ≠ .claiming) ↔ g.seeking = false := by
    simp [Entry.seeking]
  simp only [State.QuietHolds, entries, claims, seeks, List.mem_filter, bne_iff_ne]
  refine and_congr_left fun _ => ⟨fun h g hg => ?_, fun h g hg => h g hg.1⟩
  by_cases own : g.identity = e.identity
  · rw [ok.eq_of_identity hg mem own, rests]
  · exact h g ⟨hg, own⟩

end

/-- Settles O57. -/
theorem forgetRemovesLost : Obligations.ForgetRemovesLost := by
  intro s idle phase opcode ok
  refine ⟨?_, ?_⟩
  · rintro e n rfl low high holder lost plain
    have acts := exec_forget idle opcode phase
    obtain ⟨mem, held⟩ := State.holder_eq_some holder
    have ended := forgetOrder_of_holder (s := beginOrder s) (State.operandNames_iff.mpr ⟨low, high⟩) holder lost
    have made := removeEntry_of_not_bridge held plain .forgotten
      (queueRecord .forgotten (beginOrder s).order.operand.toNat (some e.identity) 0 (beginOrder s))
    rw [orderRun, ended] at acts
    generalize removeEntry e .forgotten _ = u at made acts
    refine ⟨_, acts, by simp [made], ?_, by simp [made], ?_, fun agrees inStep => ?_, by simp [made], by simp [made],
      by simp [made], by simp [made], rfl,
      levelsFollow_clockOut (levelsFollow_close _)⟩
    · refine Eq.trans (by simp [made]) (queueRecord_changes_congr (s := s) (t := beginOrder s) (by simp) (by simp) _ _ _ _)
    · simp [made, beginOrder]
      rfl
    · have rests : e.seeking = false := by simp [Entry.seeking, lost]
      have unclaimed : s.naming.claims.filter (fun c => c.claimant != e.identity) = s.naming.claims :=
        inStep.filter_claims fun g hg own => by simp [ok.eq_of_identity hg mem own, lost]
      have quiet := State.quietHolds_removed (t := endOrder none 0 u) ok mem rests (by simp [made]) (by simpa [made] using unclaimed)
      rw [close_of_agrees (agrees.of_quiet (by simp [made]) quiet)]
      simp [made]
  · rintro agrees n rfl which
    have acts := exec_forget idle opcode phase
    by_cases names : s.operandNames = true
    · have bounds := State.operandNames_iff.mp names
      have living : ∀ e, s.holder s.order.operand.toNat = some e → e.state ≠ .lost := by
        rcases which with ⟨-, -, living⟩ | zero | high
        · exact living
        all_goals omega
      rw [orderRun_congr (forgetOrder_of_living (s := beginOrder s) names living)] at acts
      obtain ⟨order, frame⟩ := orderRun_endOrder agrees (some .notLost) 0
      exact ⟨_, acts, order.trans (by rw [if_pos bounds]; rfl), frame⟩
    · rw [orderRun_congr (forgetOrder_of_nameless (s := beginOrder s) (Bool.not_eq_true _ ▸ names))] at acts
      obtain ⟨order, frame⟩ := orderRun_endOrder agrees (some .badOperand) 0
      exact ⟨_, acts, order.trans (by rw [if_neg (mt State.operandNames_iff.mpr names)]; rfl), frame⟩

end Sys2Proof.Machine

/-! Settles O54: an order checks its phase and its opcode (R172). -/

namespace Sys2Proof.Machine

section

variable {s : State} {c : Instr} {code : Byte}

/-- The orders of the SETUP phase and their opcodes. -/
theorem exec_order_of_setup (idle : s.order.state = .idle) (opcode : s.order.opcode = code)
    (names : (c, code) = (.setup, 0x01) ∨ (c, code) = (.plan, 0x02) ∨ (c, code) = (.clearPlan, 0x03) ∨ (c, code) = (.go, 0x04)) :
    ∃ order, exec c s = .next (orderRun (inPhase .setup order) s) := by
  simp only [Prod.mk.injEq] at names
  rcases names with ⟨rfl, rfl⟩ | ⟨rfl, rfl⟩ | ⟨rfl, rfl⟩ | ⟨rfl, rfl⟩
  all_goals exact ⟨_, congrArg Host.Outcome.next (startOrder_of_idle idle opcode)⟩

/-- The orders of the RUN phase and their opcodes. -/
theorem exec_order_of_run (idle : s.order.state = .idle) (opcode : s.order.opcode = code)
    (names : (c, code) = (.park, 0x10) ∨ (c, code) = (.unpark, 0x11) ∨ (c, code) = (.recall, 0x12) ∨ (c, code) = (.ping, 0x13)
      ∨ (c, code) = (.forget, 0x14)) : ∃ order, exec c s = .next (orderRun (inPhase .run order) s) := by
  simp only [Prod.mk.injEq] at names
  rcases names with ⟨rfl, rfl⟩ | ⟨rfl, rfl⟩ | ⟨rfl, rfl⟩ | ⟨rfl, rfl⟩ | ⟨rfl, rfl⟩
  all_goals exact ⟨_, congrArg Host.Outcome.next (startOrder_of_idle idle opcode)⟩

theorem exec_unknownOpcode (idle : s.order.state = .idle)
    (unknown : (setupOpcodes ++ runOpcodes).contains s.order.opcode = false) :
    exec .unknownOpcode s = .next (orderRun (endOrder (some .unknownOp) 0) s) := by
  change execUnknownOpcode s = _
  rw [execUnknownOpcode, if_neg (Bool.eq_false_iff.mp unknown), startOrder_of_idle idle rfl]

end

/-- Settles O54. -/
theorem orderChecksPhaseAndOpcode : Obligations.OrderChecksPhaseAndOpcode := by
  intro s c code mark idle opcode agrees which
  obtain ⟨error, acts, word⟩ : ∃ error, exec c s = .next (orderRun (endOrder (some error) 0) s)
      ∧ terminationWord (some error) = mark := by
    rcases which with ⟨phase, rfl, names⟩ | ⟨phase, rfl, names⟩ | ⟨rfl, rfl, unknown⟩
    · obtain ⟨order, acts⟩ := exec_order_of_setup idle opcode names
      exact ⟨.phase, acts.trans (congrArg _ (orderRun_inPhase_of_other (by simp [phase]))), by decide⟩
    · obtain ⟨order, acts⟩ := exec_order_of_run idle opcode names
      exact ⟨.phase, acts.trans (congrArg _ (orderRun_inPhase_of_other (by simp [phase]))), by decide⟩
    · exact ⟨.unknownOp, exec_unknownOpcode idle (opcode ▸ unknown), by decide⟩
  obtain ⟨order, frame⟩ := orderRun_endOrder agrees (some error) 0
  exact ⟨_, acts, order.trans (by rw [word]; rfl), noticesOrder_orderRun rfl, keepsLatched_orderRun (by simp),
    levelsFollow_orderRun, pins_orderRun (by simp), frame⟩

end Sys2Proof.Machine

/-! Settles O55: PARK and UNPARK (R66, R68, R175). -/

namespace Sys2Proof.Machine

section

variable {s : State} {order : State → State}

theorem terminationWord_none : terminationWord none = 0x8000 := rfl

/-- The deadline of a supply switched on by an order (R68). -/
theorem beginOrder_settle : (beginOrder s).after (ms (beginOrder s).cfg.settle) =
    s.time.now + BitVec.ofNat 32 (1000 * s.cfg.settle) := rfl

theorem exec_park (idle : s.order.state = .idle) (opcode : s.order.opcode = 0x10) (phase : s.order.phase = .run) :
    exec .park s = .next (orderRun parkOrder s) := by
  change execPark s = _
  rw [execPark, startOrder_of_idle idle opcode, orderRun_inPhase phase]

theorem exec_unpark (idle : s.order.state = .idle) (opcode : s.order.opcode = 0x11) (phase : s.order.phase = .run) :
    exec .unpark s = .next (orderRun unparkOrder s) := by
  change execUnpark s = _
  rw [execUnpark, startOrder_of_idle idle opcode, orderRun_inPhase phase]

theorem parkOrder_of_lineActive (coupled : s.coupling.state = .coupled ∨ s.coupling.state = .held)
    (active : s.census.state.lineActive = true) : parkOrder s = endOrder none 0 (parkTool .parked 1 s) :=
  if_pos ⟨coupled, active⟩

theorem parkOrder_of_not (refused : (s.coupling.state ≠ .coupled ∧ s.coupling.state ≠ .held) ∨ s.census.state.lineActive = false) :
    parkOrder s = endOrder (some .phase) 0 s := by
  refine if_neg ?_
  rintro ⟨coupled, active⟩
  rcases refused with ⟨coupled', held'⟩ | inactive
  · exact coupled.elim coupled' held'
  · simp [inactive] at active

theorem unparkOrder_of_parked (parked : s.census.state = .parked) (coupled : s.coupling.state = .coupled) :
    unparkOrder s = endOrder none 0 (if s.coupling.supply == .off then switchSupplyOn s else s) :=
  if_pos ⟨parked, coupled⟩

theorem unparkOrder_of_not (refused : s.census.state ≠ .parked ∨ s.coupling.state ≠ .coupled) :
    unparkOrder s = endOrder (some .phase) 0 s := by
  refine if_neg ?_
  rintro ⟨parked, coupled⟩
  exact refused.elim (fun h => h parked) fun h => h coupled

/-- Outside a line-active census the close of an order tests nothing (R129). -/
theorem orderRun_of_not_lineActive (inactive : (order (beginOrder s)).census.state.lineActive = false) :
    orderRun order s = clockOut s [0x00] (refreshNotices (order (beginOrder s))) := by
  rw [orderRun, close, testQuiet_of_not_lineActive inactive]

/-- A park by the PARK order (R66, R175). -/
theorem emptiesTool_endOrder_parkTool (kind : ChangeKind) (detail : Nat) (error : Option OrderError) (reply : List Byte) :
    EmptiesTool .parked s (clockOut s reply (refreshNotices (endOrder error 0 (parkTool kind detail (beginOrder s))))) := by
  have line : (parkTool kind detail (beginOrder s)).line = _ :=
    (queueRecord_frame _ _ _ _ _).2.2.1.trans (emptyTool_line (c := .parked) rfl (beginOrder s))
  have empty := (toolEmpty_parkTool kind detail (beginOrder s)).endOrder error 0
  refine ⟨?_, ?_, ?_, ?_, ?_, ?_, ?_, empty.refreshNotices.clockOut, ?_, ?_, ?_, ?_, ?_, ?_, ?_, ?_, ?_, ?_, ?_, ?_,
    levelsFollow_clockOut (levelsFollow_refreshNotices _)⟩
  all_goals simp [line]
  all_goals simp [parkTool]

end

/-- Settles O55. -/
theorem parkAndUnpark : Obligations.ParkAndUnpark := by
  intro s idle phase
  refine ⟨fun opcode coupled active => ?_, fun opcode parked coupled => ?_, fun c which agrees => ?_⟩
  · have acts := exec_park idle opcode phase
    have parks := parkOrder_of_lineActive (s := beginOrder s) (by simpa using coupled) (by simpa using active)
    rw [orderRun_congr (other := fun u => endOrder none 0 (parkTool .parked 1 u)) parks,
      orderRun_of_not_lineActive (by simp [parkTool, CensusState.lineActive])] at acts
    refine ⟨_, acts, emptiesTool_endOrder_parkTool _ _ _ _, ?_, ?_, keepsLatched_clockOut (keepsLatched_refreshNotices ?_), ?_, rfl⟩
    · simp [parkTool]
    · refine Eq.trans (by simp [parkTool]) (queueRecord_changes_congr (s := s) (t := emptyTool .parked (beginOrder s))
        (by simp) (by simp) _ _ _ _)
    · simp [parkTool]
    · simp [parkTool, beginOrder, terminationWord_none]
  · have acts := exec_unpark idle opcode phase
    have runs := unparkOrder_of_parked (s := beginOrder s) (by simpa using parked) (by simpa using coupled)
    rw [orderRun_congr (other := fun u => endOrder none 0 (if u.coupling.supply == .off then switchSupplyOn u else u)) runs,
      orderRun_of_not_lineActive ?_] at acts
    · refine ⟨_, acts, ?_, ?_, ?_, keepsLatched_clockOut (keepsLatched_refreshNotices ?_),
        levelsFollow_clockOut (levelsFollow_refreshNotices _), rfl, ?_⟩
      · by_cases off : s.coupling.supply = .off
        · simp [off, beginOrder_settle]
        · simp [off]
      · by_cases off : s.coupling.supply = .off
        · simp [off]
        · simp [off]
      · by_cases off : s.coupling.supply = .off
        · simp [off, beginOrder, terminationWord_none]
        · simp [off, beginOrder, terminationWord_none]
      · split <;> simp
      · split <;> apply State.eq_of_blocks <;> simp
    · split <;> simp [parked, CensusState.lineActive]
  · have acts : exec c s = .next (orderRun (endOrder (some .phase) 0) s) := by
      rcases which with ⟨rfl, opcode, refused⟩ | ⟨rfl, opcode, refused⟩
      · rw [exec_park idle opcode phase, orderRun_congr (parkOrder_of_not (s := beginOrder s) (by simpa using refused))]
      · rw [exec_unpark idle opcode phase, orderRun_congr (unparkOrder_of_not (s := beginOrder s) (by simpa using refused))]
    obtain ⟨order, frame⟩ := orderRun_endOrder agrees (some .phase) 0
    exact ⟨_, acts, order, frame⟩

end Sys2Proof.Machine

/-! Settles O56: how a RECALL and a PING start (R176, R177). -/

namespace Sys2Proof.Machine

section

variable {s : State} {b : TxBody} {owner : Owner} {ref : OwnerRef} {e : Entry} {n : Name} {order : State → State}

theorem orderRun_of_agrees (agrees : CensusAgrees (order (beginOrder s))) :
    orderRun order s = clockOut s [0x00] (refreshNotices (order (beginOrder s))) := by
  rw [orderRun, close_of_agrees agrees]

theorem offerFrame_of_room (entered : offerOutcome b s = .inserted) : offerFrame b owner ref s = { s with
    line := { s.line with
      txList := insertFrame { tag := s.line.nextTag, body := b, owner, ref, attempts := 0, started := false } s.line.txList
      nextTag := s.line.nextTag + 1 } } := by
  simp only [offerFrame, entered]
  rfl

theorem offerFrame_of_drop (drops : offerOutcome b s = .dropped) : offerFrame b owner ref s = { s with
    line := { s.line with txDrops := min 65535 (s.line.txDrops + 1) } } :=
  offerFrame_dropped drops

/-! ### RECALL (R176) -/

theorem offerRecall_of_room (room : s.line.txList.length < 12) : offerRecall s = offerFrame .recall .order .none s := by
  have entered := offerOutcome_of_room (b := .recall) (.inl nofun) room
  simp [offerRecall, entered, Offer.entered]

theorem offerRecall_of_full (full : 12 ≤ s.line.txList.length) (running : s.recallRunning = true) :
    offerRecall s = endOrder (some .lineDown) 0 (offerFrame .recall .order .none s) := by
  have drops := offerOutcome_of_full (b := .recall) (.inl nofun) full (by decide)
  have running' : (offerFrame .recall .order .none s).recallRunning = true := by
    rw [State.recallRunning] at running ⊢
    simpa using running
  simp [offerRecall, drops, Offer.entered, endRecallOrder, running']

theorem recallOrder_of_lineActive (active : s.census.state.lineActive = true) (sound : s.line.fault = false) :
    recallOrder s = offerRecall s := by
  simp [recallOrder, active, sound]

theorem recallOrder_of_fault (active : s.census.state.lineActive = true) (fault : s.line.fault = true) :
    recallOrder s = endOrder (some .lineDown) 0 s := by
  simp [recallOrder, active, fault]

theorem recallOrder_of_not (inactive : s.census.state.lineActive = false) : recallOrder s = endOrder (some .phase) 0 s := by
  simp [recallOrder, inactive]

theorem exec_recall (idle : s.order.state = .idle) (opcode : s.order.opcode = 0x12) (phase : s.order.phase = .run) :
    exec .recall s = .next (orderRun recallOrder s) := by
  change execRecall s = _
  rw [execRecall, startOrder_of_idle idle opcode, orderRun_inPhase phase]

/-! ### PING (R177) -/

theorem offerPingProbe_of_room (room : s.line.txList.length < 12) :
    offerPingProbe n s = offerFrame (.probe n) .order (.pingProbe n) s := by
  have entered := offerOutcome_of_room (b := .probe n) (.inl nofun) room
  simp [offerPingProbe, entered, Offer.entered]

theorem offerPingProbe_of_full (full : 12 ≤ s.line.txList.length) (running : s.pingRunning = true) :
    offerPingProbe n s = endOrder (some .lineDown) 0 (offerFrame (.probe n) .order (.pingProbe n) s) := by
  have drops := offerOutcome_of_full (b := .probe n) (.inl nofun) full (by simp [TxBody.kind])
  have running' : (offerFrame (.probe n) .order (.pingProbe n) s).pingRunning = true := by
    rw [State.pingRunning] at running ⊢
    simpa using running
  simp [offerPingProbe, drops, Offer.entered, endPingOrder, running']

theorem pingOrder_of_holder (names : s.operandNames = true) (holder : s.holder s.order.operand.toNat = some e) :
    pingOrder s = offerPingProbe s.order.operand.toNat
      (s.withOrder { s.order with pingIdentity := some e.identity, pingWindow := none }) := by
  simp [pingOrder, names, holder]

theorem pingOrder_of_not (refused : s.operandNames = false ∨ s.holder s.order.operand.toNat = none) :
    pingOrder s = endOrder (some .badOperand) 0 s := by
  rcases refused with nameless | stranger
  · simp [pingOrder, nameless]
  · simp [pingOrder, stranger]

theorem exec_ping (idle : s.order.state = .idle) (opcode : s.order.opcode = 0x13) (phase : s.order.phase = .run) :
    exec .ping s = .next (orderRun pingOrder s) := by
  change execPing s = _
  rw [execPing, startOrder_of_idle idle opcode, orderRun_inPhase phase]

theorem beginOrder_recallRunning (opcode : s.order.opcode = 0x12) : (beginOrder s).recallRunning = true := by
  simp [State.recallRunning, opcode, recallOpcode, beginOrder]

theorem beginOrder_pingRunning (opcode : s.order.opcode = 0x13) : (beginOrder s).pingRunning = true := by
  simp [State.pingRunning, opcode, pingOpcode, beginOrder]

end

/-- Settles O56. -/
theorem recallAndPingStart : Obligations.RecallAndPingStart := by
  intro s idle phase agrees
  refine ⟨fun opcode => ⟨fun active sound room => ?_, fun active sound full => ?_, fun refused => ?_⟩,
    fun opcode => ⟨fun e low high holder room => ?_, fun e low high holder full => ?_, fun refused => ?_⟩⟩
  · have acts := exec_recall idle opcode phase
    have runs := recallOrder_of_lineActive (s := beginOrder s) (by simpa using active) (by simpa using sound)
    rw [offerRecall_of_room (by simpa using room)] at runs
    have entered := offerFrame_of_room (owner := .order) (ref := .none)
      (offerOutcome_of_room (b := .recall) (s := beginOrder s) (.inl nofun) (by simpa using room))
    rw [orderRun_congr (other := offerFrame .recall .order .none) runs,
      orderRun_of_agrees (agrees.congr (by simp) (by simp) (by simp)), entered] at acts
    exact ⟨_, acts, by simp [beginOrder], by simp, rfl, by apply State.eq_of_blocks <;> simp⟩
  · have acts := exec_recall idle opcode phase
    have runs := recallOrder_of_lineActive (s := beginOrder s) (by simpa using active) (by simpa using sound)
    rw [offerRecall_of_full (by simpa using full.ge) (beginOrder_recallRunning opcode)] at runs
    have drops := offerFrame_of_drop (owner := .order) (ref := .none)
      (offerOutcome_of_full (b := .recall) (s := beginOrder s) (.inl nofun) (by simpa using full.ge) (by decide))
    rw [orderRun_congr (other := fun u => endOrder (some .lineDown) 0 (offerFrame .recall .order .none u)) runs,
      orderRun_of_agrees (agrees.congr (by simp) (by simp) (by simp)), drops] at acts
    exact ⟨_, acts, by simp [beginOrder]; rfl, by simp, by apply State.eq_of_blocks <;> simp⟩
  · have acts := exec_recall idle opcode phase
    cases active : s.census.state.lineActive with
    | false =>
      rw [orderRun_congr (recallOrder_of_not (s := beginOrder s) (by simpa using active))] at acts
      obtain ⟨order, frame⟩ := orderRun_endOrder agrees (some .phase) 0
      exact ⟨_, acts, order, frame⟩
    | true =>
      have fault : s.line.fault = true := refused.resolve_left (by simp [active])
      rw [orderRun_congr (recallOrder_of_fault (s := beginOrder s) (by simpa using active) (by simpa using fault))] at acts
      obtain ⟨order, frame⟩ := orderRun_endOrder agrees (some .lineDown) 0
      exact ⟨_, acts, order, frame⟩
  · have acts := exec_ping idle opcode phase
    have runs := pingOrder_of_holder (s := beginOrder s) (State.operandNames_iff.mpr ⟨low, high⟩) holder
    generalize made : (beginOrder s).withOrder _ = u at runs
    rw [offerPingProbe_of_room (by simpa [← made] using room), offerFrame_of_room
      (offerOutcome_of_room (b := .probe _) (.inl nofun) (by simpa [← made] using room))] at runs
    rw [orderRun_of_agrees (agrees.congr (by simp [runs, ← made]) (by simp [runs, ← made]) (by simp [runs, ← made])), runs] at acts
    exact ⟨_, acts, by simp [← made, beginOrder], by simp [← made], rfl, by apply State.eq_of_blocks <;> simp [← made]⟩
  · have acts := exec_ping idle opcode phase
    have runs := pingOrder_of_holder (s := beginOrder s) (State.operandNames_iff.mpr ⟨low, high⟩) holder
    generalize made : (beginOrder s).withOrder _ = u at runs
    have running : u.pingRunning = true := made ▸ beginOrder_pingRunning opcode
    rw [offerPingProbe_of_full (by simpa [← made] using full.ge) running, offerFrame_of_drop
      (offerOutcome_of_full (b := .probe _) (.inl nofun) (by simpa [← made] using full.ge) (by simp [TxBody.kind]))] at runs
    rw [orderRun_of_agrees (agrees.congr (by simp [runs, ← made]) (by simp [runs, ← made]) (by simp [runs, ← made])), runs] at acts
    exact ⟨_, acts, by simp [← made, beginOrder]; rfl, by simp [← made], by apply State.eq_of_blocks <;> simp [← made]⟩
  · have acts := exec_ping idle opcode phase
    have refused' : s.operandNames = false ∨ s.holder s.order.operand.toNat = none := by
      rcases refused with zero | high | stranger
      · exact .inl (by simp [State.operandNames, byteIn, zero])
      · exact .inl (by simp [State.operandNames, byteIn]; omega)
      · exact .inr stranger
    rw [orderRun_congr (pingOrder_of_not (s := beginOrder s) refused')] at acts
    obtain ⟨order, frame⟩ := orderRun_endOrder agrees (some .badOperand) 0
    exact ⟨_, acts, order, frame⟩

end Sys2Proof.Machine

/-! How the setup record and the plan entries are laid out and checked (R99, R173, R174). -/

namespace Sys2Proof.Machine

section

variable {d : List Byte}

/-! ### Bytes and numbers (11) -/

theorem byteAt_lt (d : List Byte) (i : Nat) : byteAt d i < 256 := (d.getD i 0).isLt

theorem numberAt_two (d : List Byte) (i : Nat) : numberAt d 2 i = byteAt d i * 256 + byteAt d (i + 1) := by
  simp [numberAt, List.range, List.range.loop, Nat.mul_comm]

theorem numberAt_three (d : List Byte) (i : Nat) :
    numberAt d 3 i = (byteAt d i * 256 + byteAt d (i + 1)) * 256 + byteAt d (i + 2) := by
  simp [numberAt, List.range, List.range.loop, Nat.mul_comm]

theorem numberAt_six (d : List Byte) (i : Nat) : numberAt d 6 i =
    ((((byteAt d i * 256 + byteAt d (i + 1)) * 256 + byteAt d (i + 2)) * 256 + byteAt d (i + 3)) * 256 + byteAt d (i + 4)) * 256
      + byteAt d (i + 5) := by
  simp [numberAt, List.range, List.range.loop, Nat.mul_comm]

/-- A number in n bytes is below 256 to the n. -/
theorem numberAt_lt (d : List Byte) (n i : Nat) : numberAt d n i < 256 ^ n := by
  induction n with
  | zero => simp [numberAt]
  | succ n ih =>
    have step : numberAt d (n + 1) i = 256 * numberAt d n i + byteAt d (i + n) := by
      simp [numberAt, List.range_succ]
    have byte := byteAt_lt d (i + n)
    rw [step, pow_succ]
    omega

/-! ### The setup record (11 Table 8) -/

theorem setupRecordLayout (d : List Byte) : SetupRecordLayout d := by
  have identity : (setupOf d).identity.toNat = numberAt d 6 1 := by
    have bound := numberAt_lt d 6 1
    simp only [setupOf, BitVec.toNat_ofNat]
    exact Nat.mod_eq_of_lt bound
  refine ⟨rfl, identity.trans (numberAt_six d 1), numberAt_two d 7, numberAt_two d 9, rfl, numberAt_two d 12, numberAt_two d 14,
    numberAt_two d 16, numberAt_two d 18, numberAt_two d 20, rfl, rfl, numberAt_two d 24, numberAt_two d 26, rfl, rfl,
    fun k bound => ?_⟩
  have mask : ∀ k < 8, (0x3F#8).getLsbD k = decide (k < 6) := by decide
  change ((d.getD 29 0) &&& 0x3F).getLsbD k = _
  rw [BitVec.getLsbD_and]
  exact congrArg _ (mask k bound)

/-! ### The checks of the setup fields (10 Table 2) -/

theorem firstFailing_cons (i : Nat) (ok : Bool) (l : List (Nat × Bool)) :
    (((i, ok) :: l).find? (fun c => !c.2)).map (·.1) = if ok = false then some i else (l.find? (fun c => !c.2)).map (·.1) := by
  cases ok <;> simp

theorem inRange_eq_false {lo hi n : Nat} : inRange lo hi n = false ↔ ¬ (lo ≤ n ∧ n ≤ hi) := by
  simp [inRange]

theorem bitPeriod_eq (rate : Nat) : bitPeriod rate = if rate = 0 then 8 else if rate = 1 then 4 else 2 := by
  unfold bitPeriod
  split <;> simp_all

theorem validMaker_eq_false {x : Identity} :
    validMaker (makerOf x) = false ↔ x.toNat / 2 ^ 32 = 0x0000 ∨ x.toNat / 2 ^ 32 = 0xFFFF := by
  have maker : (makerOf x).toNat = x.toNat / 2 ^ 32 := by
    have bound := x.isLt
    rw [makerOf, BitVec.extractLsb'_toNat, Nat.shiftRight_eq_div_pow]
    exact Nat.mod_eq_of_lt (by omega)
  rw [← maker, validMaker, Bool.and_eq_false_iff, bne_eq_false_iff_eq, bne_eq_false_iff_eq, ← BitVec.toNat_inj, ← BitVec.toNat_inj]
  rfl

theorem setupFieldsChecked (v : Setup) : SetupFieldsChecked v := by
  have window : (inRange 1000 20000 v.window && decide (2 * 147 * bitPeriod v.rate ≤ v.window)) = false ↔
      ¬ (1000 ≤ v.window ∧ v.window ≤ 20000
        ∧ 2 * 147 * (if v.rate = 0 then 8 else if v.rate = 1 then 4 else 2) ≤ v.window) := by
    rw [← bitPeriod_eq, ← Bool.not_eq_true]
    simp [inRange, and_assoc]
  unfold SetupFieldsChecked firstBadField setupChecks
  simp only [firstFailing_cons, inRange_eq_false, validMaker_eq_false, window, Nat.zero_le, true_and]
  rfl

/-! ### The plan entries (11 Table 9) -/

theorem identityOf_toNat (maker : BitVec 16) (cls : BitVec 8) (serial : BitVec 24) :
    (identityOf maker cls serial).toNat = (maker.toNat * 256 + cls.toNat) * 2 ^ 24 + serial.toNat := by
  rw [identityOf, BitVec.toNat_append, BitVec.toNat_append, ← Nat.shiftLeft_add_eq_or_of_lt cls.isLt,
    ← Nat.shiftLeft_add_eq_or_of_lt serial.isLt, Nat.shiftLeft_eq, Nat.shiftLeft_eq]

theorem planEntryLayout (d : List Byte) (k : Nat) : PlanEntryLayout d k := by
  have place : 8 * (k + 1) - 7 = 8 * k + 1 := by omega
  have maker := numberAt_lt d 2 (8 * k + 1)
  have serial := numberAt_lt d 3 (8 * k + 1 + 3)
  have cls := byteAt_lt d (8 * k + 1 + 2)
  unfold PlanEntryLayout planEntryAt
  simp only [place]
  refine ⟨?_, ?_, ?_, rfl, rfl, identityOf_toNat _ _ _, rfl⟩
  · rw [BitVec.toNat_ofNat, Nat.mod_eq_of_lt (b := 2 ^ 16) maker, numberAt_two]
    rfl
  · rw [BitVec.toNat_ofNat, Nat.mod_eq_of_lt cls]
    rfl
  · rw [BitVec.toNat_ofNat, Nat.mod_eq_of_lt (b := 2 ^ 24) serial, numberAt_three]
    rfl

theorem planEntryOk_iff (p : PlanEntry) :
    planEntryOk p = true ↔ p.maker ≠ 0x0000 ∧ p.maker ≠ 0xFFFF ∧ 1 ≤ p.name ∧ p.name ≤ 62 := by
  simp [planEntryOk, validMaker, inRange, and_assoc]

theorem planClash_eq_false (plan batch : List PlanEntry) : planClash plan batch = false ↔
    ((plan ++ batch).map (·.name)).Nodup
      ∧ (((plan ++ batch).filter (fun p => !p.wildcard)).map PlanEntry.identity).Nodup
      ∧ (plan ++ batch).length ≤ 32 := by
  simp [planClash, Config.planCapacity, and_assoc]

end

end Sys2Proof.Machine

/-! Settles O53: the orders of the SETUP phase (R53, R99, R173, R174). -/

namespace Sys2Proof.Machine

section

variable {s v : State} {order : State → State} {error : Option OrderError} {detail i : Nat} {batch : List PlanEntry}

/-! ### An order that ends in its own event (R171) -/

theorem orderEndsAtOnce_orderRun (ends : order (beginOrder s) = endOrder error detail v) (pins : v.pins = s.pins)
    (time : v.time = s.time) (roster : v.roster = s.roster) (service : v.service = s.service) (changes : v.changes = s.changes)
    (snapshot : v.snapshot = s.snapshot) (census : v.census = s.census) (claims : v.naming.claims = s.naming.claims)
    (line : KeepsLineLists s v) : OrderEndsAtOnce s (orderRun order s) := by
  refine ⟨pins_orderRun (by simp [ends, pins]), noticesOrder_orderRun (by simp [ends]), levelsFollow_orderRun,
    by simp [orderRun, ends, time], by simp [orderRun, ends, roster], by simp [orderRun, ends, service],
    by simp [orderRun, ends, changes], by simp [orderRun, ends, snapshot], fun agrees => ?_, ?_⟩
  · rw [orderRun_of_agrees (agrees.congr (by simp [ends, census]) (by simp [ends, roster]) (by simp [ends, claims]))]
    simp [ends, census]
  · have kept : (orderRun order s).line = v.line := by simp [orderRun, ends]
    rw [KeepsLineLists, kept]
    exact line

/-- The order of the state once an order that has run ends (R171). -/
theorem orderRun_order (ends : order (beginOrder s) = endOrder error detail v) : (orderRun order s).order =
    { v.order with state := .done, termination := terminationWord error, detail := BitVec.ofNat 8 detail,
                   pingIdentity := none, pingWindow := none } := by
  simp [orderRun, ends]

/-! ### SETUP (R173) -/

theorem exec_setup (idle : s.order.state = .idle) (opcode : s.order.opcode = 0x01) (phase : s.order.phase = .setup) :
    exec .setup s = .next (orderRun setupOrder s) := by
  change execSetup s = _
  rw [execSetup, startOrder_of_idle idle opcode, orderRun_inPhase phase]

theorem setupOrder_of_good (good : firstBadField (setupOf s.order.data) = none) :
    setupOrder s = endOrder none 0 (s.withOrder { s.order with setup := some (setupOf s.order.data) }) := by
  simp [setupOrder, good]

theorem setupOrder_of_bad (bad : firstBadField (setupOf s.order.data) = some i) :
    setupOrder s = endOrder (some .badOperand) i s := by
  simp [setupOrder, bad]

/-! ### PLAN and CLEAR PLAN (R99, R174) -/

/-- The batch of a PLAN order. -/
def planBatch (d : List Byte) : List PlanEntry := (List.range (byteAt d 0)).map (fun k => planEntryAt d (k + 1))

theorem exec_plan (idle : s.order.state = .idle) (opcode : s.order.opcode = 0x02) (phase : s.order.phase = .setup) :
    exec .plan s = .next (orderRun planOrder s) := by
  change execPlan s = _
  rw [execPlan, startOrder_of_idle idle opcode, orderRun_inPhase phase]

theorem planOrder_of_count (count : byteAt s.order.data 0 = 0 ∨ 5 ≤ byteAt s.order.data 0) :
    planOrder s = endOrder (some .badOperand) 0 s := by
  rw [planOrder]
  exact if_neg (by omega)

theorem planOrder_of_bad {front back : List PlanEntry} {p : PlanEntry} (low : 1 ≤ byteAt s.order.data 0)
    (high : byteAt s.order.data 0 ≤ 4) (split : planBatch s.order.data = front ++ p :: back)
    (good : front.all planEntryOk = true) (bad : planEntryOk p = false) :
    planOrder s = endOrder (some .badOperand) (front.length + 1) s := by
  have first : (planBatch s.order.data).findIdx? (fun p => !planEntryOk p) = some front.length := by
    rw [split]
    exact findIdx?_front_cons (fun q hq => by simpa using List.all_eq_true.mp good q hq) (by simp [bad])
  rw [planBatch] at first
  simp [planOrder, low, high, first]

theorem findIdx?_of_all (good : batch.all planEntryOk = true) : batch.findIdx? (fun p => !planEntryOk p) = none :=
  List.findIdx?_eq_none_iff.mpr fun p hp => by simpa using List.all_eq_true.mp good p hp

theorem planOrder_of_clash (low : 1 ≤ byteAt s.order.data 0) (high : byteAt s.order.data 0 ≤ 4)
    (good : (planBatch s.order.data).all planEntryOk = true) (clash : planClash s.naming.plan (planBatch s.order.data) = true) :
    planOrder s = endOrder (some .planClash) 0 s := by
  have first := findIdx?_of_all good
  rw [planBatch] at first clash
  simp [planOrder, low, high, first, clash]

theorem planOrder_of_good (low : 1 ≤ byteAt s.order.data 0) (high : byteAt s.order.data 0 ≤ 4)
    (good : (planBatch s.order.data).all planEntryOk = true) (fits : planClash s.naming.plan (planBatch s.order.data) = false) :
    planOrder s = endOrder none 0 (s.withNaming { s.naming with plan := s.naming.plan ++ planBatch s.order.data }) := by
  have first := findIdx?_of_all good
  rw [planBatch] at first fits ⊢
  simp [planOrder, low, high, first, fits]

theorem exec_clearPlan (idle : s.order.state = .idle) (opcode : s.order.opcode = 0x03) (phase : s.order.phase = .setup) :
    exec .clearPlan s = .next (orderRun clearPlanOrder s) := by
  change execClearPlan s = _
  rw [execClearPlan, startOrder_of_idle idle opcode, orderRun_inPhase phase]

/-! ### GO (R53, R174) -/

theorem exec_go (idle : s.order.state = .idle) (opcode : s.order.opcode = 0x04) (phase : s.order.phase = .setup) :
    exec .go s = .next (orderRun goOrder s) := by
  change execGo s = _
  rw [execGo, startOrder_of_idle idle opcode, orderRun_inPhase phase]

theorem goOrder_of_unheld (unheld : s.order.setup = none) : goOrder s = endOrder (some .noSetup) 0 s := by
  simp [goOrder, unheld]

/-- The RUN phase begins, in MAKING where the mate inputs are asserted (R53). -/
def enterRun (s : State) : State :=
  if s.mated then enterMaking (s.withOrder { s.order with phase := .run }) else s.withOrder { s.order with phase := .run }

theorem goOrder_of_held {w : Setup} (held : s.order.setup = some w) : goOrder s = endOrder none 0 (enterRun s) := by
  simp [goOrder, held, enterRun, State.mated]

@[simp] theorem enterRun_frame (s : State) : (enterRun s).pins = s.pins ∧ (enterRun s).time = s.time
    ∧ (enterRun s).roster = s.roster ∧ (enterRun s).service = s.service ∧ (enterRun s).changes = s.changes
    ∧ (enterRun s).snapshot = s.snapshot ∧ (enterRun s).census = s.census ∧ (enterRun s).naming = s.naming
    ∧ (enterRun s).order = { s.order with phase := .run } := by
  unfold enterRun
  split <;> simp

theorem enterRun_coupling (s : State) : (enterRun s).coupling =
    if s.pins.mateA = true ∧ s.pins.mateB = true then
      { s.coupling with state := .making, mateCapture := s.time.now, make := some (s.after (ms s.cfg.make)) }
    else s.coupling := by
  unfold enterRun
  by_cases mated : s.pins.mateA = true ∧ s.pins.mateB = true
  · simp [State.mated, mated, enterMaking]
    rfl
  · rw [if_neg mated, if_neg (by simpa [State.mated] using mated)]
    simp

theorem keepsLineLists_enterRun (s : State) : KeepsLineLists s (enterRun s) := by
  unfold enterRun
  split
  · exact keepsLineLists_switched (by simp [enterMaking_line]; rfl)
  · rfl

end

/-- Settles O53. -/
theorem setupOrdersEndAtOnce : Obligations.SetupOrdersEndAtOnce := by
  intro s idle phase
  refine ⟨fun opcode => ⟨fun good => ?_, fun i bad => ?_⟩, fun opcode count counted low high batch made good fits => ?_,
    fun opcode count batch mark detail counted made which => ?_, setupRecordLayout _, setupFieldsChecked, planEntryLayout _,
    planEntryOk_iff, planClash_eq_false, fun opcode => ?_, fun opcode => ⟨fun unheld => ?_, fun v held => ?_⟩⟩
  · have ends := setupOrder_of_good (s := beginOrder s) good
    exact ⟨_, exec_setup idle opcode phase, (orderRun_order ends).trans (by simp [beginOrder]; rfl),
      orderEndsAtOnce_orderRun ends rfl rfl rfl rfl rfl rfl rfl rfl rfl, by simp [orderRun, ends], by simp [orderRun, ends]⟩
  · have ends := setupOrder_of_bad (s := beginOrder s) bad
    exact ⟨_, exec_setup idle opcode phase, (orderRun_order ends).trans (by simp [beginOrder]; rfl),
      orderEndsAtOnce_orderRun ends rfl rfl rfl rfl rfl rfl rfl rfl rfl, by simp [orderRun, ends], by simp [orderRun, ends]⟩
  · subst counted made
    have ends := planOrder_of_good (s := beginOrder s) low high good fits
    exact ⟨_, exec_plan idle opcode phase, by simp [orderRun, ends]; rfl, (orderRun_order ends).trans (by simp [beginOrder]; rfl),
      orderEndsAtOnce_orderRun ends rfl rfl rfl rfl rfl rfl rfl rfl rfl, by simp [orderRun, ends]⟩
  · subst counted made
    obtain ⟨error, k, ends, word, place⟩ : ∃ (error : OrderError) (k : Nat),
        planOrder (beginOrder s) = endOrder (some error) k (beginOrder s) ∧ terminationWord (some error) = mark
          ∧ BitVec.ofNat 8 k = detail := by
      rcases which with ⟨count, rfl, rfl⟩ | ⟨low, high, rfl, front, p, back, split, good, bad, rfl⟩
        | ⟨low, high, good, clash, rfl, rfl⟩
      · exact ⟨_, _, planOrder_of_count count, rfl, rfl⟩
      · exact ⟨_, _, planOrder_of_bad low high split good bad, rfl, rfl⟩
      · exact ⟨_, _, planOrder_of_clash low high good clash, rfl, rfl⟩
    exact ⟨_, exec_plan idle opcode phase, by simp [orderRun, ends], (orderRun_order ends).trans (by rw [word, place]; rfl),
      orderEndsAtOnce_orderRun ends rfl rfl rfl rfl rfl rfl rfl rfl rfl, by simp [orderRun, ends]⟩
  · have ends : clearPlanOrder (beginOrder s) = endOrder none 0 ((beginOrder s).withNaming { s.naming with plan := [] }) := rfl
    exact ⟨_, exec_clearPlan idle opcode phase, by simp [orderRun, ends], (orderRun_order ends).trans (by simp [beginOrder]; rfl),
      orderEndsAtOnce_orderRun ends rfl rfl rfl rfl rfl rfl rfl rfl rfl, by simp [orderRun, ends]⟩
  · have ends := goOrder_of_unheld (s := beginOrder s) unheld
    exact ⟨_, exec_go idle opcode phase, (orderRun_order ends).trans (by simp [beginOrder]; rfl),
      orderEndsAtOnce_orderRun ends rfl rfl rfl rfl rfl rfl rfl rfl rfl, by simp [orderRun, ends], by simp [orderRun, ends]⟩
  · have ends := goOrder_of_held (s := beginOrder s) held
    have line : KeepsLineLists s (enterRun (beginOrder s)) := keepsLineLists_enterRun (beginOrder s)
    refine ⟨_, exec_go idle opcode phase, (orderRun_order ends).trans (by simp [beginOrder, terminationWord_none]),
      orderEndsAtOnce_orderRun ends (by simp) (by simp) (by simp) (by simp) (by simp) (by simp) (by simp) (by simp) line,
      by simp [orderRun, ends], ?_⟩
    have cfg : (beginOrder s).cfg = v := by simp [State.cfg, held]
    have coupling : (orderRun goOrder s).coupling = (enterRun (beginOrder s)).coupling := by simp [orderRun, ends]
    rw [coupling, enterRun_coupling, cfg]
    rfl

end Sys2Proof.Machine

/-! The order record (R170): every command but WRITE ORDER and a reset keeps opcode, operand and data. -/

namespace Sys2Proof.Machine

section

variable {s t : State} {order : State → State} {p : Phase}

/-- The next state holds the same order record. -/
def KeepsRecord (s : State) (r : Result) : Prop :=
  ∃ t, r = .next t ∧ t.order.data = s.order.data ∧ t.order.opcode = s.order.opcode ∧ t.order.operand = s.order.operand

theorem keepsRecord_next (data : t.order.data = s.order.data) (opcode : t.order.opcode = s.order.opcode)
    (operand : t.order.operand = s.order.operand) : KeepsRecord s (.next t) :=
  ⟨t, rfl, data, opcode, operand⟩

/-- An order keeps the order record. -/
def OrderKeepsRecord (order : State → State) : Prop :=
  ∀ s, (order s).order.data = s.order.data ∧ (order s).order.opcode = s.order.opcode ∧ (order s).order.operand = s.order.operand

theorem OrderKeepsRecord.inPhase (keeps : OrderKeepsRecord order) (p : Phase) : OrderKeepsRecord (inPhase p order) := by
  intro s
  unfold Machine.inPhase
  split
  · exact keeps s
  · simp

theorem OrderKeepsRecord.startOrder (keeps : OrderKeepsRecord order) (opcode : Byte) (s : State) :
    KeepsRecord s (.next (startOrder opcode order s)) := by
  obtain ⟨data, code, operand⟩ := keeps (beginOrder s)
  unfold Machine.startOrder
  repeat' split
  · exact keepsRecord_next (by simp [data]) (by simp [code]) (by simp [operand])
  · exact keepsRecord_next rfl rfl rfl
  · exact keepsRecord_next (by simp) (by simp) (by simp)

theorem orderKeepsRecord_endOrder (error : Option OrderError) (detail : Nat) : OrderKeepsRecord (endOrder error detail) :=
  fun _ => ⟨rfl, rfl, rfl⟩

/-- What an order does, it does by operations that keep the order record. -/
theorem execOrder_keepsRecord (s : State) {c : Instr} (starts : c ∈ [Instr.setup, .plan, .clearPlan, .go, .park, .unpark, .recall,
    .ping, .forget]) : KeepsRecord s (exec c s) := by
  simp only [List.mem_cons, List.not_mem_nil, or_false] at starts
  rcases starts with rfl | rfl | rfl | rfl | rfl | rfl | rfl | rfl | rfl
  · exact OrderKeepsRecord.startOrder (OrderKeepsRecord.inPhase (fun s => by simp) .setup) 0x01 s
  · exact OrderKeepsRecord.startOrder (OrderKeepsRecord.inPhase (fun s => by simp) .setup) 0x02 s
  · exact OrderKeepsRecord.startOrder (OrderKeepsRecord.inPhase (fun s => by simp) .setup) 0x03 s
  · exact OrderKeepsRecord.startOrder (OrderKeepsRecord.inPhase (fun s => by simp) .setup) 0x04 s
  · exact OrderKeepsRecord.startOrder (OrderKeepsRecord.inPhase (fun s => by simp) .run) 0x10 s
  · exact OrderKeepsRecord.startOrder (OrderKeepsRecord.inPhase (fun s => by simp) .run) 0x11 s
  · exact OrderKeepsRecord.startOrder (OrderKeepsRecord.inPhase (fun s => by simp) .run) 0x12 s
  · exact OrderKeepsRecord.startOrder (OrderKeepsRecord.inPhase (fun s => by simp) .run) 0x13 s
  · exact OrderKeepsRecord.startOrder (OrderKeepsRecord.inPhase (fun s => by simp) .run) 0x14 s

theorem execUnknownOpcode_keepsRecord (s : State) : KeepsRecord s (execUnknownOpcode s) := by
  unfold execUnknownOpcode
  repeat' split
  · exact keepsRecord_next rfl rfl rfl
  · exact keepsRecord_next (by simp) (by simp) (by simp)
  · exact (orderKeepsRecord_endOrder _ _).startOrder _ s

/-- A frame received, whatever the units make of it, keeps the order record. -/
theorem keepsRecord_receiveFrame (f : RxFrame) (s : State) : KeepsRecord s (.next (receiveFrame f s)) :=
  keepsRecord_next (by simp) (by simp) (by simp)

/-- Of the other commands each branch is made of operations that keep the order record. -/
theorem exec_keepsRecord (c : Instr) (s : State) (other : ∀ o p f n d, c ≠ .writeOrder o p f n d) (reset : c ≠ .reset)
    (restart : c ≠ .restart) : KeepsRecord s (exec c s) := by
  cases c
  case writeOrder o p f n d => exact absurd rfl (other o p f n d)
  case reset => exact absurd rfl reset
  case restart => exact absurd rfl restart
  case setup | plan | clearPlan | go | park | unpark | ping | forget => exact execOrder_keepsRecord s (by simp)
  case unknownOpcode => exact execUnknownOpcode_keepsRecord s
  case malformedFrame | announceReceived | beatReceived | releaseReceived | recallReceived | probeOfArmEnd | probeReceived
    | claimReceived | objectReceived | holdReceived | callReceived => exact keepsRecord_receiveFrame _ s
  case mateAsserted | mateReleased | lockEngaged | lockReleased | supplyGoodChange | makeDeadline | breakDeadline
    | settleDeadline | holdLimitDeadline =>
    unfold exec
    simp only [execMateAsserted, execMateReleased, execLockEngaged, execLockReleased, execSupplyGoodChange, execMakeDeadline,
      execBreakDeadline, execSettleDeadline, execHoldLimitDeadline]
    repeat' split
    all_goals exact keepsRecord_next (by simp) (by simp) (by simp)
  case lineIdle | transmitAttempt | arbitrationLoss | bitError | attemptSuccess | receiveError | stuckDominant
    | stuckMarkClear | foreignFrame =>
    unfold exec
    simp only [execLineIdle, execTransmitAttempt, execArbitrationLoss, execBitError, execAttemptSuccess, execReceiveError,
      execStuckDominant, execStuckMarkClear, execForeignFrame]
    repeat' split
    all_goals exact keepsRecord_next (by simp) (by simp) (by simp)
  case claimDeadline | silenceDeadline | lossDeadline | probeWindowEnd | objectionWindowEnd | holdDeadline
    | objectionTicketDeadline | firstFrameDeadline | quietDeadline | censusDeadline | pingProbeWindow | beatComparatorMatch =>
    unfold exec
    simp only [execClaimDeadline, execSilenceDeadline, execLossDeadline, execProbeWindowEnd, execObjectionWindowEnd,
      execHoldDeadline, execObjectionTicketDeadline, execFirstFrameDeadline, execQuietDeadline, execCensusDeadline,
      execPingProbeWindow, execBeatComparatorMatch]
    repeat' split
    all_goals exact keepsRecord_next (by simp) (by simp) (by simp)
  case readStatus | readNotices | clearNotices | readOrder | retireOrder | latch | readSnapshot | release | readChange | take
    | done | done0 | setMask | unknownCommand | startOrderBusy =>
    unfold exec
    simp only [execReadStatus, execReadNotices, execClearNotices, execReadOrder, execRetireOrder, execLatch, execReadSnapshot,
      execRelease, execReadChange, execTake, execDone, execDone0, execSetMask, execUnknownCommand, execStartOrderBusy]
    repeat' split
    all_goals exact keepsRecord_next (by simp) (by simp) (by simp)
  -- RECALL is left
  exact execOrder_keepsRecord s (by simp)

end

end Sys2Proof.Machine

/-! Settles O52: WRITE_ORDER and RETIRE_ORDER (R169 to R171, R181). -/

namespace Sys2Proof.Machine

section

variable {s : State} {opcode operand offset count : Byte} {data : List Byte}

theorem dataCount_eq (count : Byte) : dataCount count = min count.toNat 40 := rfl

/-- The data area, byte by byte, after bytes are written into it (R170). -/
theorem writeData_getElem? (area : List Byte) (offset : Nat) (bytes : List Byte) {i : Nat} (bound : i < area.length) :
    (writeData area offset bytes)[i]? =
      if offset ≤ i ∧ i < offset + bytes.length then bytes[i - offset]? else area[i]? := by
  have old : area[i]? = some area[i] := List.getElem?_eq_getElem bound
  have written : (writeData area offset bytes)[i]? =
      some (if offset ≤ i then bytes.getD (i - offset) area[i] else area[i]) := by
    simp [writeData, old]
  rw [written]
  by_cases ahead : offset ≤ i
  · by_cases inside : i < offset + bytes.length
    · have place : i - offset < bytes.length := by omega
      rw [if_pos ahead, if_pos ⟨ahead, inside⟩, List.getElem?_eq_getElem place, List.getD_eq_getElem _ _ place]
    · have beyond : bytes.length ≤ i - offset := by omega
      rw [if_pos ahead, if_neg (fun h => inside h.2), List.getD_eq_default _ _ beyond, old]
  · rw [if_neg ahead, if_neg (fun h => ahead h.1), old]

theorem exec_writeOrder_of_idle (whole : dataCount count ≤ data.length) (idle : s.order.state = .idle) :
    exec (.writeOrder opcode operand offset count data) s = .next (clockOut s [0x00] (s.withOrder { s.order with
      opcode, operand, data := writeData s.order.data offset.toNat (data.take (dataCount count)) })) := by
  change execWriteOrder opcode operand offset count data s = _
  simp [execWriteOrder, Nat.not_lt.mpr whole, idle]

theorem exec_writeOrder_of_busy (whole : dataCount count ≤ data.length) (busy : s.order.state ≠ .idle) :
    exec (.writeOrder opcode operand offset count data) s = .next (clockOut s [0x01] s) := by
  change execWriteOrder opcode operand offset count data s = _
  simp [execWriteOrder, Nat.not_lt.mpr whole, busy]

theorem exec_writeOrder_of_cut (cut : data.length < dataCount count) :
    exec (.writeOrder opcode operand offset count data) s = .next (clockOut s [] s) := by
  change execWriteOrder opcode operand offset count data s = _
  simp [execWriteOrder, cut]

theorem exec_retireOrder (done : s.order.state = .done) :
    exec .retireOrder s = .next (clockOut s [] (refreshNotices (s.withOrder { s.order with state := .idle }))) := by
  change execRetireOrder s = _
  simp [execRetireOrder, done]

end

/-- Settles O52. -/
theorem orderRecordWrittenAndRetired : Obligations.OrderRecordWrittenAndRetired := by
  refine ⟨fun s opcode operand offset count data whole => ⟨fun idle area => ?_, fun busy => exec_writeOrder_of_busy whole busy⟩,
    fun s opcode operand offset count data cut => exec_writeOrder_of_cut cut, ⟨rfl, rfl, rfl⟩,
    fun c s other reset restart => exec_keepsRecord c s other reset restart, fun s done => ?_⟩
  · have length : (data.take (dataCount count)).length = min count.toNat 40 := by
      rw [List.length_take, dataCount_eq]
      exact min_eq_left whole
    refine ⟨_, exec_writeOrder_of_idle whole idle, rfl, by simp [length_writeData, area], fun i bound => ?_, rfl, rfl⟩
    change (writeData s.order.data offset.toNat (data.take (dataCount count)))[i]? = _
    rw [writeData_getElem? _ _ _ (area ▸ bound), length]
    split
    · next inside => exact List.getElem?_take_of_lt (by rw [dataCount_eq]; omega)
    · rfl
  · refine ⟨_, exec_retireOrder done, by simp, by simp, levelsFollow_clockOut (levelsFollow_refreshNotices _),
      keepsLatched_clockOut (keepsLatched_refreshNotices (by simp)), rfl, by apply State.eq_of_blocks <;> simp⟩

end Sys2Proof.Machine

/-! How the records of the port are laid out (11 Tables 3, 10 to 13). -/

namespace Sys2Proof.Machine

section

variable {d : List Byte} {n i x : Nat}

/-! ### Numbers most significant byte first (11) -/

theorem numberAt_succ (d : List Byte) (n i : Nat) : numberAt d (n + 1) i = 256 * numberAt d n i + byteAt d (i + n) := by
  simp [numberAt, List.range_succ]

/-- The first m of n bytes of a number hold what is left of it above the others. -/
theorem numberAt_prefix (bytes : ∀ k < n, byteAt d (i + k) = x / 256 ^ (n - 1 - k) % 256) {m : Nat} (within : m ≤ n) :
    numberAt d m i = x / 256 ^ (n - m) % 256 ^ m := by
  induction m with
  | zero => simp [numberAt, Nat.mod_one]
  | succ m ih =>
    have above : x / 256 ^ (n - m) = x / 256 ^ (n - 1 - m) / 256 := by
      have split : n - m = n - 1 - m + 1 := by omega
      rw [split, pow_succ, Nat.div_div_eq_div_mul]
    have low : n - (m + 1) = n - 1 - m := by omega
    rw [numberAt_succ, ih (by omega), bytes m (by omega), above, low, pow_succ', Nat.mod_mul]
    omega

/-- A number stands where its bytes do. -/
theorem numberAt_of_bytes (bytes : ∀ k < n, byteAt d (i + k) = x / 256 ^ (n - 1 - k) % 256) : numberAt d n i = x % 256 ^ n := by
  simpa using numberAt_prefix bytes (Nat.le_refl n)

theorem numberAt_of_bytes_of_lt (bytes : ∀ k < n, byteAt d (i + k) = x / 256 ^ (n - 1 - k) % 256) (bound : x < 256 ^ n) :
    numberAt d n i = x := by
  rw [numberAt_of_bytes bytes, Nat.mod_eq_of_lt bound]

/-! ### The change record (11 Table 12) -/

theorem recordLayout (r : ChangeRecord) : RecordLayout r := by
  refine ⟨rfl, ?_, ?_, rfl, ?_, ?_, rfl, rfl⟩
  · cases kind : r.kind <;> simp [recordBytes, byteAt, kind, ChangeKind.code]
  · cases identity : r.identity <;> simp [recordBytes, byteAt, identity]
  · have number : numberAt (recordBytes r) 6 3 = (r.identity.getD 0).toNat :=
      numberAt_of_bytes_of_lt (fun k bound => by interval_cases k <;> rfl) (r.identity.getD 0).isLt
    rw [number]
    cases r.identity <;> rfl
  · exact numberAt_of_bytes_of_lt (fun k bound => by interval_cases k <;> rfl) r.time.isLt

/-! ### The status block, the slot record and the census fields (11 Tables 10 and 11) -/

theorem statusBlockLayout (s : State) : StatusBlockLayout s := by
  refine ⟨rfl, ?_, ?_, ?_, ?_, ?_, rfl, ?_, ?_, ?_, ?_, ?_, rfl, ?_, ?_, ?_⟩
  · cases phase : s.order.phase <;> simp [statusBlock, byteAt, phase, Phase.code]
  · cases state : s.coupling.state <;> simp [statusBlock, byteAt, state, CouplingState.code]
  · cases supply : s.coupling.supply <;> simp [statusBlock, byteAt, supply, SupplyState.code]
  · cases census : s.census.state <;> simp [statusBlock, byteAt, census, CensusState.code]
  · exact numberAt_of_bytes_of_lt (fun k bound => by interval_cases k <;> rfl) s.census.generation.isLt
  · exact numberAt_of_bytes_of_lt (fun k bound => by interval_cases k <;> rfl) s.census.settling.isLt
  · exact numberAt_of_bytes_of_lt (fun k bound => by interval_cases k <;> rfl) s.coupling.mateCapture.isLt
  · exact numberAt_of_bytes_of_lt (fun k bound => by interval_cases k <;> rfl) s.coupling.unmateCapture.isLt
  · change (BitVec.ofNat 8 s.order.state.code).toNat = _
    cases s.order.state <;> rfl
  · change (BitVec.ofNat 8 s.line.state.code).toNat = _
    cases s.line.state <;> rfl
  · exact numberAt_of_bytes fun k bound => by interval_cases k <;> rfl
  · exact numberAt_of_bytes fun k bound => by interval_cases k <;> rfl
  · exact numberAt_of_bytes_of_lt (fun k bound => by interval_cases k <;> rfl) s.time.now.isLt

theorem slotRecordLayout (e : Entry) : SlotRecordLayout e := by
  refine ⟨rfl, ?_, ?_, ?_, ?_, ?_, rfl, rfl, ?_, ?_, ?_, ?_, rfl, rfl⟩
  · change (BitVec.ofNat 8 e.state.code).toNat = _
    cases e.state <;> rfl
  · exact numberAt_of_bytes_of_lt (fun k bound => by interval_cases k <;> rfl) e.identity.isLt
  · change (BitVec.ofNat 8 (e.name.getD Config.noneName)).toNat = _
    cases e.name <;> rfl
  · change (BitVec.ofNat 8 (e.prior.getD Config.noneName)).toNat = _
    cases e.prior <;> rfl
  · change (BitVec.ofNat 8 e.origin.code).toNat = _
    cases e.origin <;> rfl
  · exact numberAt_of_bytes_of_lt (fun k bound => by interval_cases k <;> rfl) e.firstHeard.isLt
  · exact numberAt_of_bytes_of_lt (fun k bound => by interval_cases k <;> rfl) e.lastHeard.isLt
  · change (0#6 ++ BitVec.ofBool e.storm ++ BitVec.ofBool e.beatSeq.isSome).toNat = _
    generalize e.beatSeq.isSome = heard
    revert heard
    cases e.storm <;> decide
  · change (e.beatSeq.getD 0).toNat = _
    cases e.beatSeq <;> rfl

/-- The census fields stand behind any 24 bytes (11 section 11.4). -/
theorem censusFieldsAt (front : List Byte) (c : SnapshotCopy) : CensusFieldsAt (front ++ censusFields c) front.length c := by
  have byte (k : Nat) : byteAt (front ++ censusFields c) (front.length + k) = byteAt (censusFields c) k := by
    rw [byteAt, byteAt, List.getD_eq_getElem?_getD, List.getD_eq_getElem?_getD,
      List.getElem?_append_right (Nat.le_add_right _ _), Nat.add_sub_cancel_left]
  refine ⟨?_, ?_, ?_, ?_, ?_⟩
  · rw [← Nat.add_zero front.length, byte]
    change (BitVec.ofNat 8 c.census.code).toNat = _
    cases c.census <;> rfl
  · exact numberAt_of_bytes_of_lt (fun k bound => by rw [Nat.add_assoc, byte]; interval_cases k <;> rfl) c.generation.isLt
  · rw [byte]
    rfl
  · exact numberAt_of_bytes_of_lt (fun k bound => by rw [Nat.add_assoc, byte]; interval_cases k <;> rfl) c.settling.isLt
  · exact numberAt_of_bytes_of_lt (fun k bound => by rw [Nat.add_assoc, byte]; interval_cases k <;> rfl) c.time.isLt

/-! ### The port status byte (11 Table 3) -/

theorem statusByteLayout (s : State) : StatusByteLayout s := by
  unfold StatusByteLayout statusByte
  generalize s.snapshot.latched = latched, s.line.fault = fault, s.pins.attn = attn
  revert latched fault attn
  cases s.order.phase <;> cases s.order.state <;> decide

end

end Sys2Proof.Machine

/-! Settles O51: how changes and notices are read (R161, R165 to R167, R182). -/

namespace Sys2Proof.Machine

section

variable {s : State} {n : Notices} {selection : Byte}

/-- A CLEAR NOTICES clears a selected flag where it is set and seen (R166). -/
theorem Notices.cleared_flags (n : Notices) (selection : Byte) :
    (n.cleared selection).coupling = (n.coupling && !(selection.getLsbD 3 && n.couplingSeen))
      ∧ (n.cleared selection).line = (n.line && !(selection.getLsbD 4 && n.lineSeen))
      ∧ (n.cleared selection).census = (n.census && !(selection.getLsbD 5 && n.censusSeen)) := by
  have flag (b set seen : Bool) : (set && !(b && set && seen)) = (set && !(b && seen)) := by
    cases set <;> simp
  exact ⟨flag _ _ _, flag _ _ _, flag _ _ _⟩

/-- A flag that still stands has its seen mark as it was (R166). -/
theorem Notices.cleared_seen (n : Notices) (selection : Byte) :
    ((n.cleared selection).coupling = true → (n.cleared selection).couplingSeen = n.couplingSeen)
      ∧ ((n.cleared selection).line = true → (n.cleared selection).lineSeen = n.lineSeen)
      ∧ ((n.cleared selection).census = true → (n.cleared selection).censusSeen = n.censusSeen) := by
  have mark {clear set seen : Bool} (stands : (set && !clear) = true) : (seen && !clear) = seen := by
    rw [Bool.and_eq_true] at stands
    simp [stands.2]
  exact ⟨mark, mark, mark⟩

theorem exec_readChange_of_record {r : ChangeRecord} {rest : List ChangeRecord} (queue : s.changes.queue = r :: rest) :
    exec .readChange s =
      .next (clockOut s (recordBytes r) (refreshNotices (s.withChanges { s.changes with queue := rest }))) := by
  change execReadChange s = _
  simp [execReadChange, queue]

theorem exec_readChange_of_empty (empty : s.changes.queue = []) :
    exec .readChange s = .next (clockOut s (noneRecord s.changes.drops) s) := by
  change execReadChange s = _
  simp [execReadChange, empty]

end

/-- Settles O51. -/
theorem changesAndNoticesAreRead : Obligations.ChangesAndNoticesAreRead := by
  refine ⟨fun s => ⟨_, rfl, rfl, ?_, rfl⟩, fun s selection => ⟨_, rfl, ?_⟩, fun s r rest queue =>
    ⟨_, exec_readChange_of_record queue, rfl, rfl, recordLayout r, keepsLatched_clockOut (keepsLatched_refreshNotices (by simp)),
      levelsFollow_clockOut (levelsFollow_refreshNotices _), by apply State.eq_of_blocks <;> simp⟩,
    fun s empty => exec_readChange_of_empty empty⟩
  · simp [Bool.or_comm]
  · obtain ⟨coupling, line, census⟩ := s.notices.cleared_flags selection
    obtain ⟨couplingSeen, lineSeen, censusSeen⟩ := s.notices.cleared_seen selection
    exact ⟨coupling, line, census, couplingSeen, lineSeen, censusSeen, levelsFollow_clockOut (levelsFollow_refreshNotices _), rfl,
      by apply State.eq_of_blocks <;> simp⟩

end Sys2Proof.Machine

/-! Which command the bytes of a transaction spell (11 Table 4, R169), and what READ SNAPSHOT answers (R178). -/

namespace Sys2Proof.Machine

section

variable {s : State} {args : List Byte} {more : Bool} {command : Byte} {p : Snapshot} {slot : Nat} {e : Entry}

/-! ### READ SNAPSHOT (R178, R182) -/

theorem snapshotReply_of_beyond (beyond : 48 ≤ slot) :
    snapshotReply p slot = 0x04 :: (emptySlotRecord ++ List.replicate 12 0) :=
  if_pos beyond

theorem snapshotReply_of_free (within : slot < 48) (free : p.latched = false) :
    snapshotReply p slot = 0x03 :: (emptySlotRecord ++ List.replicate 12 0) := by
  simp [snapshotReply, Config.rosterCapacity, Nat.not_le.mpr within, free]

theorem snapshotReply_of_entry (within : slot < 48) (latched : p.latched = true)
    (found : p.copy.entries.find? (fun g => g.slot == slot) = some e) :
    snapshotReply p slot = 0x00 :: (slotRecord e ++ censusFields p.copy) := by
  simp [snapshotReply, Config.rosterCapacity, Nat.not_le.mpr within, latched, found]

theorem snapshotReply_of_empty (within : slot < 48) (latched : p.latched = true)
    (empty : p.copy.entries.find? (fun g => g.slot == slot) = none) :
    snapshotReply p slot = 0x00 :: (emptySlotRecord ++ censusFields p.copy) := by
  simp [snapshotReply, Config.rosterCapacity, Nat.not_le.mpr within, latched, empty]

/-- What READ SNAPSHOT answers (11 section 11.4). -/
theorem readSnapshot_reply (status : Byte) (p : Snapshot) (slot : Nat) :
    (status :: snapshotReply p slot).length = 38
      ∧ (48 ≤ slot → (status :: snapshotReply p slot)[1]? = some 0x04)
      ∧ (slot < 48 → p.latched = false → (status :: snapshotReply p slot)[1]? = some 0x03)
      ∧ (slot < 48 → p.latched = true → (status :: snapshotReply p slot)[1]? = some 0x00
          ∧ CensusFieldsAt ((status :: snapshotReply p slot).drop 2) 24 p.copy
          ∧ ∀ e, p.copy.entries.find? (fun g => g.slot == slot) = some e →
              ((status :: snapshotReply p slot).drop 2).take 24 = slotRecord e)
      ∧ (48 ≤ slot ∨ p.latched = false ∨ (∀ g ∈ p.copy.entries, g.slot ≠ slot) →
          ((status :: snapshotReply p slot).drop 2).take 24 = [0, 0, 0, 0, 0, 0, 0, 63, 63, 0xFF] ++ List.replicate 14 0)
      ∧ (48 ≤ slot ∨ p.latched = false → (status :: snapshotReply p slot).drop 26 = List.replicate 12 0) := by
  by_cases within : slot < 48
  · have inside : ¬ 48 ≤ slot := by omega
    cases latched : p.latched with
    | false =>
      rw [snapshotReply_of_free within latched]
      exact ⟨rfl, by simp [inside], by simp, by simp, fun _ => rfl, fun _ => rfl⟩
    | true =>
      cases found : p.copy.entries.find? (fun g => g.slot == slot) with
      | none =>
        rw [snapshotReply_of_empty within latched found]
        exact ⟨rfl, by simp [inside], by simp, fun _ _ => ⟨rfl, censusFieldsAt emptySlotRecord p.copy, nofun⟩, fun _ => rfl,
          by simp [inside]⟩
      | some e =>
        have place : e.slot = slot := by simpa using List.find?_some found
        rw [snapshotReply_of_entry within latched found]
        refine ⟨rfl, by simp [inside], by simp, fun _ _ => ⟨rfl, censusFieldsAt (slotRecord e) p.copy, ?_⟩, ?_,
          by simp [inside]⟩
        · rintro _ ⟨⟩
          rfl
        · rintro (beyond | free | absent)
          · exact absurd beyond inside
          · exact absurd free (by simp)
          · exact absurd place (absent e (List.mem_of_find?_eq_some found))
  · have beyond : 48 ≤ slot := by omega
    rw [snapshotReply_of_beyond beyond]
    exact ⟨rfl, fun _ => rfl, by simp [within], by simp [within], fun _ => rfl, fun _ => rfl⟩

/-! ### The command the bytes spell (R169) -/

theorem replied_iff : replied more args = true ↔ more = true ∨ args ≠ [] := by
  simp [replied]

theorem portEvent_unknown (unknown : commandCodes.contains command = false) :
    portEvent s (command :: args) more = some (.unknownCommand command) := by
  have other {k : Nat} (known : commandCodes.contains (BitVec.ofNat 8 k) = true) : command.toNat = k → False := by
    rintro rfl
    rw [BitVec.ofNat_toNat, BitVec.setWidth_eq, unknown] at known
    exact absurd known (by decide)
  unfold portEvent
  dsimp only
  split
  case h_16 => rfl
  all_goals next code => exact (other (by decide) code).elim

theorem portEvent_writeOrder {opcode operand offset count : Byte} :
    portEvent s (0x10 :: opcode :: operand :: offset :: count :: args) more =
      if min count.toNat 40 ≤ args.length then some (.writeOrder opcode operand offset count args) else none := rfl

theorem writeOrderEvent_of_short (short : args.length < 4) : writeOrderEvent args = none := by
  match args, short with
  | [], _ => rfl
  | [_], _ => rfl
  | [_, _], _ => rfl
  | [_, _, _], _ => rfl

/-- Bit j of byte k is bit 8k + j of the number that the bytes make, least significant byte first. -/
theorem testBit_foldr_bytes (bytes : List Byte) (k : Nat) {j : Nat} (bound : j < 8) :
    (bytes.foldr (fun (b : Byte) acc => b.toNat + 256 * acc) 0).testBit (8 * k + j) = (bytes.getD k 0).getLsbD j := by
  induction bytes generalizing k with
  | nil => simp
  | cons b bytes ih =>
    have step : b.toNat + 256 * bytes.foldr (fun (b : Byte) acc => b.toNat + 256 * acc) 0
        = 2 ^ 8 * bytes.foldr (fun (b : Byte) acc => b.toNat + 256 * acc) 0 + b.toNat := by omega
    rw [List.foldr_cons, step, Nat.testBit_two_pow_mul_add _ b.isLt]
    cases k with
    | zero => simp [bound, BitVec.getLsbD]
    | succ k =>
      have place : 8 * (k + 1) + j - 8 = 8 * k + j := by omega
      rw [if_neg (by omega), place, ih, List.getD_cons_succ]

theorem maskOfBytes_getLsbD (bytes : List Byte) {k j : Nat} (byte : k < 8) (bit : j < 8) :
    (maskOfBytes bytes).getLsbD (8 * k + j) = (bytes.getD k 0).getLsbD j := by
  have inside : 8 * k + j < 64 := by omega
  rw [maskOfBytes, BitVec.getLsbD_ofNat, testBit_foldr_bytes bytes k bit]
  simp [inside]

theorem portEvent_setMask (long : 8 ≤ args.length) :
    portEvent s (0x33 :: args) more = some (.setMask (maskOfBytes (args.take 8))) := if_pos long

theorem portEvent_setMask_of_short (short : args.length < 8) : portEvent s (0x33 :: args) more = none :=
  if_neg (Nat.not_le.mpr short)

/-- The arguments of a command that takes effect are clocked in. -/
theorem argumentCount_le {c : Instr} (event : portEvent s (command :: args) more = some c) :
    argumentCount command args ≤ args.length := by
  have given {α : Type} {f : Byte → α} {d : α} (made : args.head?.map f = some d) : 1 ≤ args.length := by
    cases args with
    | nil => simp at made
    | cons a args => simp
  unfold portEvent at event
  dsimp only at event
  unfold argumentCount
  split at event
  case h_3 code => simpa [code] using given event
  case h_4 code =>
    simp only [code]
    match args, event with
    | opcode :: operand :: offset :: count :: data, event =>
      have whole : dataCount count ≤ data.length := (Option.ite_none_right_eq_some.mp event).1
      change 4 + dataCount count ≤ data.length + 4
      omega
  case h_9 code =>
    cases args with
    | nil => simp at event
    | cons a args => simp [code]
  case h_13 code => simpa [code] using given event
  case h_14 code => simpa [code] using (Option.ite_none_right_eq_some.mp event).1
  case h_16 =>
    split
    case h_6 => exact Nat.zero_le _
    all_goals contradiction
  all_goals next code => simp [code]

/-! ### The order START ORDER begins (R171) -/

theorem startOrderEvent_of_busy {o : Order} (busy : o.state ≠ .idle) : startOrderEvent o = .startOrderBusy := by
  simp [startOrderEvent, busy]

theorem startOrderEvent_of_unknown {o : Order} (idle : o.state = .idle)
    (unknown : (setupOpcodes ++ runOpcodes).contains o.opcode = false) : startOrderEvent o = .unknownOpcode := by
  have other {k : Nat} (known : (setupOpcodes ++ runOpcodes).contains (BitVec.ofNat 8 k) = true) : o.opcode.toNat = k → False := by
    intro code
    rw [← code, BitVec.ofNat_toNat, BitVec.setWidth_eq, unknown] at known
    exact absurd known (by decide)
  unfold startOrderEvent
  rw [if_pos (by simp [idle])]
  split
  case h_10 => rfl
  all_goals next code => exact (other (by decide) code).elim

theorem startOrderEvent_of_known {o : Order} {c : Instr} (idle : o.state = .idle)
    (known : (o.opcode, c) ∈ ([(0x01, .setup), (0x02, .plan), (0x03, .clearPlan), (0x04, .go), (0x10, .park), (0x11, .unpark),
      (0x12, .recall), (0x13, .ping), (0x14, .forget)] : List (Byte × Instr))) : startOrderEvent o = c := by
  simp only [List.mem_cons, Prod.mk.injEq, List.not_mem_nil, or_false] at known
  rcases known with ⟨code, rfl⟩ | ⟨code, rfl⟩ | ⟨code, rfl⟩ | ⟨code, rfl⟩ | ⟨code, rfl⟩ | ⟨code, rfl⟩ | ⟨code, rfl⟩
    | ⟨code, rfl⟩ | ⟨code, rfl⟩
  all_goals simp [startOrderEvent, idle, code]

end

end Sys2Proof.Machine

/-! Settles O50: reads, the snapshot and the transaction (R169, R171, R178, R179, R182). -/

namespace Sys2Proof.Machine

section

variable {s t : State} {args sdi : List Byte} {more : Bool} {command : Byte} {c : Instr}

theorem exec_next (c : Instr) (s : State) : ∃ t, exec c s = .next t := by
  by_cases reset : c = .reset
  · rw [reset]
    exact ⟨_, rfl⟩
  by_cases restart : c = .restart
  · rw [restart]
    exact ⟨_, rfl⟩
  obtain ⟨t, acts, _⟩ := exec_acts c s reset restart
  exact ⟨t, acts⟩

/-! ### A transaction (R169) -/

theorem transaction_of_none (none : portEvent s sdi more = none) : transaction sdi more s =
    .next (if sdi = [] then s else { s with pins := { s.pins with sdo := [statusByte s] } }) := by
  cases sdi with
  | nil => rfl
  | cons command args => simp [transaction, none, clockOut, State.withPins]

theorem transaction_of_event (event : portEvent s (command :: args) more = some c) (acts : exec c s = .next t) :
    transaction (command :: args) more s =
      .next (t.withPins { t.pins with sdo := clocked (args.length - argumentCount command args) t.pins.sdo }) := by
  simp [transaction, event, acts]

/-- The two bytes of a termination word. -/
theorem beBytes_word (w : BitVec 16) : beBytes 2 w.toNat = [(w >>> 8).setWidth 8, w.setWidth 8] := by
  have high : BitVec.ofNat 8 (w.toNat / 256) = (w >>> 8).setWidth 8 := by
    apply BitVec.eq_of_toNat_eq
    simp [Nat.shiftRight_eq_div_pow]
  have low : BitVec.ofNat 8 w.toNat = w.setWidth 8 := by
    apply BitVec.eq_of_toNat_eq
    simp
  rw [← high, ← low]
  simp [beBytes, List.range, List.range.loop]

theorem exec_unknownCommand (unknown : commandCodes.contains command = false) :
    exec (.unknownCommand command) s = .next (clockOut s [] s) := by
  change execUnknownCommand command s = _
  rw [execUnknownCommand, if_neg (Bool.eq_false_iff.mp unknown)]

theorem exec_startOrderBusy (busy : s.order.state ≠ .idle) : exec .startOrderBusy s = .next (clockOut s [0x01] s) := by
  change execStartOrderBusy s = _
  simp [execStartOrderBusy, busy, orderBusy]

theorem exec_latch_of_free (free : s.snapshot.latched = false) :
    exec .latch s = .next (clockOut s [0x00] (s.withSnapshot { latched := true, copy := s.copied })) := by
  change execLatch s = _
  simp [execLatch, free]

theorem exec_latch_of_latched (latched : s.snapshot.latched = true) : exec .latch s = .next (clockOut s [0x02] s) := by
  change execLatch s = _
  simp [execLatch, latched]

end

/-- Settles O50. -/
theorem readsAndSnapshot : Obligations.ReadsAndSnapshot := by
  refine ⟨fun s => ⟨rfl, statusBlockLayout s, statusByteLayout s, slotRecordLayout, ?_, fun slot => ⟨_, rfl, rfl,
      readSnapshot_reply (statusByte s) s.snapshot slot.toNat⟩, fun command unknown => exec_unknownCommand unknown,
      fun busy => exec_startOrderBusy busy⟩,
    fun s free => exec_latch_of_free free, fun s latched => exec_latch_of_latched latched, fun s => rfl,
    fun s sdi more => ⟨transaction_of_none, fun c event => ?_⟩, fun s args more => ?_,
    fun o busy => startOrderEvent_of_busy busy, fun o c idle which => ?_⟩
  · change Host.Outcome.next (clockOut s ([BitVec.ofNat 8 s.order.state.code, s.order.opcode, s.order.operand]
      ++ beBytes 2 s.order.termination.toNat ++ [s.order.detail]) s) = _
    rw [beBytes_word]
    rfl
  · cases sdi with
    | nil => exact absurd event nofun
    | cons command args =>
      obtain ⟨t, acts⟩ := exec_next c s
      have given := argumentCount_le event
      have length := length_clocked (args.length - argumentCount command args) t.pins.sdo
      refine ⟨t, _, acts, transaction_of_event event acts, rfl, ?_, fun i bound => clocked_getElem? _ (length ▸ bound)⟩
      rw [State.withPins_pins, length]
      simp only [List.length_cons, List.headD_cons, List.tail_cons]
      omega
  · refine ⟨replied_iff, rfl, rfl, rfl, rfl, rfl, rfl, rfl, ?_, fun _ => rfl, fun _ => rfl, fun _ => rfl,
      fun _ _ _ _ => portEvent_writeOrder, writeOrderEvent_of_short, portEvent_setMask_of_short,
      fun long => ⟨_, portEvent_setMask long, fun k j byte bit => ?_⟩, rfl, rfl, rfl, rfl, fun _ => portEvent_unknown⟩
    · rintro command (rfl | rfl | rfl | rfl | rfl) <;> rfl
    · rw [maskOfBytes_getLsbD _ byte bit, List.getD_eq_getElem?_getD, List.getElem?_take_of_lt byte, List.getD_eq_getElem?_getD]
  · rcases which with known | ⟨unknown, rfl⟩
    · exact startOrderEvent_of_known idle known
    · exact startOrderEvent_of_unknown idle unknown

end Sys2Proof.Machine

/-! The cascade of a loss in any roster in order, cyclic stages or not (R90, R91): entries go or sink to LOST, those LOST
stay, and directly behind the bridge every entry that is left is LOST. -/

namespace Sys2Proof.Machine

section

variable {s t u : State} {e g : Entry} {n : Name} {d : Nat} {visit : Entry → State → State} {into : Entry → Option Name}

/-! ### What a walk keeps -/

/-- A walk keeps what each visit to an entry of the roster keeps. -/
theorem walk_keeps {P : State → Prop} {Q : Entry → Prop} (met : ∀ t, P t → ∀ e ∈ t.roster.entries, Q e)
    (keeps : ∀ e t, Q e → P t → P (visit e t)) (start : P t) : P (walk visit into d n t) := by
  induction d generalizing n t with
  | zero => exact start
  | succ d ih =>
    rw [walk]
    refine List.foldlRecOn (motive := P) _ _ start fun v hv e he => ?_
    have kept := keeps e v (met t start e (State.mem_directlyBehind.mp he).1) hv
    split
    · exact ih kept
    · exact kept

/-! ### Entries sink (R90, R91) -/

/-- The entries of t are entries of u, as they were or LOST; those LOST in u stand; and no request has come. -/
structure State.Sinks (u t : State) : Prop where
  entries : ∀ g ∈ t.roster.entries, ∃ h ∈ u.roster.entries, g = h ∨ g = h.toLost
  lost : ∀ f ∈ u.roster.entries, f.state = .lost → f ∈ t.roster.entries
  requests : ∀ r ∈ t.service.requests, r ∈ u.service.requests

theorem State.sinks_refl (u : State) : u.Sinks u := ⟨fun g hg => ⟨g, hg, .inl rfl⟩, fun _ hf _ => hf, fun _ hr => hr⟩

theorem lossVisit_requests (e : Entry) (s : State) : ∀ r ∈ (lossVisit e s).service.requests, r ∈ s.service.requests := by
  rcases Entry.seeking_or_alive_or_lost e with ⟨seeking, -⟩ | ⟨-, alive⟩ | ⟨-, -, lost⟩
  · unfold lossVisit
    rcases Entry.seeking_iff.mp seeking with state | state
    all_goals simp [state, removeEntry_of_seeking seeking]
  · rw [lossVisit_of_alive alive, loseEntry_eq]
    simp only [queueRecord_frame, serviceLost, State.withService_service, Service.dropRequest, changeEntry_frame]
    exact fun r hr => List.mem_of_mem_filter hr
  · rw [lossVisit_of_lost lost]
    exact fun r hr => hr

/-- A visit to an entry of u, as it was or LOST. -/
theorem State.Sinks.lossVisit (sinks : u.Sinks t) (ok : RosterOk u) (known : ∃ h ∈ u.roster.entries, e = h ∨ e = h.toLost) :
    u.Sinks (lossVisit e t) := by
  obtain ⟨entries, lost, requests⟩ := sinks
  obtain ⟨h, hh, same⟩ := known
  have own : e.identity = h.identity := by rcases same with rfl | rfl <;> rfl
  have state (other : e.state ≠ .lost) : e = h := same.resolve_right fun eq => other (eq ▸ rfl)
  refine ⟨fun g hg => ?_, fun f hf dead => ?_, fun r hr => requests r (lossVisit_requests e t r hr)⟩
  · rw [lossVisit_entries] at hg
    split at hg
    · exact entries g (List.mem_of_mem_filter hg)
    · split at hg
      · obtain ⟨k, hk, rfl⟩ := List.mem_map.mp hg
        obtain ⟨b, hb, from_b⟩ := entries k hk
        refine ⟨b, hb, ?_⟩
        split
        · exact .inr (by rcases from_b with rfl | rfl <;> rfl)
        · exact from_b
      · exact entries g hg
  · have differ (other : e.state ≠ .lost) : f.identity ≠ e.identity := fun eq => by
      have f_eq : f = h := ok.eq_of_identity hf hh (eq.trans own)
      exact other (state other ▸ f_eq ▸ dead)
    rw [lossVisit_entries]
    split
    · next seeks =>
      have other : e.state ≠ .lost := fun h => by simp [Entry.seeking, h] at seeks
      exact List.mem_filter.mpr ⟨lost f hf dead, by simpa using differ other⟩
    · split
      · next alive =>
        have other : e.state ≠ .lost := fun h => by simp [Entry.alive, h] at alive
        exact List.mem_map.mpr ⟨f, lost f hf dead, by simp [differ other]⟩
      · exact lost f hf dead

theorem sinks_cascadeLoss (ok : RosterOk u) (sinks : u.Sinks t) (d : Nat) (n : Name) : u.Sinks (cascadeLoss d n t) := by
  rw [cascadeLoss_eq_walk]
  exact walk_keeps (Q := fun e => ∃ h ∈ u.roster.entries, e = h ∨ e = h.toLost) (fun _ sinks => sinks.entries)
    (fun e t known sinks => sinks.lossVisit ok known) sinks

/-! ### What stands directly behind the bridge is LOST -/

/-- Every entry of x is LOST. -/
def State.AllLost (t : State) (x : Identity) : Prop := t.EachOf x fun g => g.state = .lost

theorem State.AllLost.lossVisit {x : Identity} (dead : t.AllLost x) (e : Entry) : (lossVisit e t).AllLost x := by
  intro g hg own
  rw [lossVisit_entries] at hg
  split at hg
  · exact dead g (List.mem_of_mem_filter hg) own
  · split at hg
    · obtain ⟨k, hk, rfl⟩ := List.mem_map.mp hg
      split at own
      · next mine => rw [if_pos mine]; rfl
      · next other => rw [if_neg other]; exact dead k hk own
    · exact dead g hg own

theorem State.AllLost.walk {x : Identity} (dead : t.AllLost x) : (walk Machine.lossVisit lossInto d n t).AllLost x :=
  walk_keeps (P := fun t => t.AllLost x) (Q := fun _ => True) (fun _ _ _ _ => trivial) (fun e _ _ dead => dead.lossVisit e) dead

/-- The entry visited is gone or LOST. -/
theorem allLost_lossVisit (ok : RosterOk u) (sinks : u.Sinks t) (mem : e ∈ u.roster.entries) :
    (lossVisit e t).AllLost e.identity := by
  intro g hg own
  rw [lossVisit_entries] at hg
  split at hg
  · simp [own] at hg
  · next rests =>
    split at hg
    · obtain ⟨k, hk, rfl⟩ := List.mem_map.mp hg
      split at own
      · next mine => rw [if_pos mine]; rfl
      · next other => exact absurd own (by simpa using other)
    · next still =>
      have dead : e.state = .lost := by
        cases state : e.state <;> simp [Entry.seeking, Entry.alive, state] at rests still
        rfl
      obtain ⟨h, hh, from_h⟩ := sinks.entries g hg
      have same : h.identity = e.identity := by rcases from_h with rfl | rfl <;> exact own
      obtain rfl := ok.eq_of_identity hh mem same
      rcases from_h with rfl | rfl
      · exact dead
      · rfl

/-- What the loss of a bridge does with an entry directly behind it, and with those behind that (R91). -/
def lossStep (d : Nat) (t : State) (e : Entry) : State :=
  (lossInto e).elim (lossVisit e t) fun m => walk lossVisit lossInto d m (lossVisit e t)

theorem cascadeLoss_eq_foldl_lossStep (d : Nat) (n : Name) (t : State) :
    cascadeLoss (d + 1) n t = (t.directlyBehind n).foldl (lossStep d) t := by
  rw [cascadeLoss_eq_walk, walk]
  refine List.foldl_ext _ _ _ fun u e _ => ?_
  unfold lossStep
  cases lossInto e <;> rfl

theorem State.AllLost.lossStep {x : Identity} (dead : t.AllLost x) (e : Entry) : (lossStep d t e).AllLost x := by
  unfold Machine.lossStep
  cases lossInto e with
  | none => exact dead.lossVisit e
  | some m => exact (dead.lossVisit e).walk

theorem State.Sinks.lossStep (sinks : u.Sinks t) (ok : RosterOk u) (mem : e ∈ u.roster.entries) : u.Sinks (lossStep d t e) := by
  have visited := sinks.lossVisit ok ⟨e, mem, .inl rfl⟩
  unfold Machine.lossStep
  cases lossInto e with
  | none => exact visited
  | some m =>
    have cascaded := sinks_cascadeLoss ok visited d m
    rwa [cascadeLoss_eq_walk] at cascaded

theorem allLost_lossStep (ok : RosterOk u) (sinks : u.Sinks t) (mem : e ∈ u.roster.entries) :
    (lossStep d t e).AllLost e.identity := by
  have visited := allLost_lossVisit ok sinks mem
  unfold lossStep
  cases lossInto e with
  | none => exact visited
  | some m => exact visited.walk

theorem allLost_foldl_lossStep (ok : RosterOk u) {l : List Entry} (mem : ∀ e ∈ l, e ∈ u.roster.entries) (sinks : u.Sinks t) :
    ∀ e ∈ l, (l.foldl (lossStep d) t).AllLost e.identity := by
  induction l generalizing t with
  | nil => nofun
  | cons a l ih =>
    obtain ⟨first, rest⟩ := List.forall_mem_cons.mp mem
    refine List.forall_mem_cons.mpr ⟨?_, ih rest (sinks.lossStep ok first)⟩
    rw [List.foldl_cons]
    exact List.foldlRecOn (motive := fun v : State => v.AllLost a.identity) l _ (allLost_lossStep ok sinks first)
      fun v dead e _ => dead.lossStep e

theorem cascadeLoss_behind (ok : RosterOk u) (nonzero : n ≠ 0) (mem : g ∈ (cascadeLoss (d + 1) n u).roster.entries)
    (path : g.path = n) : g.state = .lost := by
  obtain ⟨h, hh, from_h⟩ := (sinks_cascadeLoss ok u.sinks_refl (d + 1) n).entries g mem
  have behind : h ∈ u.directlyBehind n := by
    have path_h : h.path = n := by rcases from_h with rfl | rfl <;> exact path
    exact State.mem_directlyBehind.mpr ⟨hh, path_h, nonzero⟩
  have same : g.identity = h.identity := by rcases from_h with rfl | rfl <;> rfl
  rw [cascadeLoss_eq_foldl_lossStep] at mem
  exact allLost_foldl_lossStep ok (fun e he => (State.mem_directlyBehind.mp he).1) u.sinks_refl h behind g mem same

end

end Sys2Proof.Machine

/-! Settles O45: the claim, silence and loss deadlines of an entry (R81, R89 to R91, R95, R154). -/

namespace Sys2Proof.Machine

section

variable {s t u : State} {k : Nat} {e : Entry} {n : Name} {d : Option Time}

theorem exec_claimDeadline (entry : s.entryAt k = some e) (due : s.toolDue e.claimDl = true) : exec (.claimDeadline k) s =
    .next (close (removeEntry e .stalled (queueRecord .stalled 0 (some e.identity) 0 s))) := by
  change execClaimDeadline k s = _
  simp [execClaimDeadline, entry, due]

theorem exec_silenceDeadline (entry : s.entryAt k = some e) (due : s.toolDue e.silenceDl = true) :
    exec (.silenceDeadline k) s = .next (refreshNotices (queueRecord .silent (e.name.getD 0) (some e.identity) 0
      (changeEntry e.identity (Entry.toSilent (s.cfg.loss * ms s.cfg.silence)) s))) := by
  change execSilenceDeadline k s = _
  simp [execSilenceDeadline, entry, due]

/-- What the loss deadline of a device, and of a bridge, makes of the tool (R90, R91). -/
theorem exec_lossDeadline_of_device (entry : s.entryAt k = some e) (due : s.toolDue e.lossDl = true)
    (device : isBridge e.identity = false) : exec (.lossDeadline k) s = .next (close (loseEntry e 0 s)) := by
  change execLossDeadline k s = _
  simp [execLossDeadline, entry, due, device]

theorem exec_lossDeadline_of_bridge (entry : s.entryAt k = some e) (due : s.toolDue e.lossDl = true)
    (bridge : isBridge e.identity = true) (name : e.name = some n) :
    exec (.lossDeadline k) s = .next (close (cascadeLoss Config.rosterCapacity n (loseEntry e 0 s))) := by
  change execLossDeadline k s = _
  simp [execLossDeadline, entry, due, bridge, name]

theorem Entry.Fits.holds_of_lossDl (fits : e.Fits) (armed : e.lossDl.isSome = true) : e.holds = true := by
  cases holds : e.holds with
  | true => rfl
  | false =>
    have other : e.state ≠ .silent := by
      intro state
      simp [Entry.holds, state] at holds
    simp [fits.lossDl_eq_none other] at armed

theorem loseEntry_values (name : e.name = some n) (s : State) : loseEntry e 0 s = { s with
    roster := { s.roster with entries := s.roster.entries.map (fun g => if g.identity = e.identity then g.toLost else g) }
    service := { s.service with requests := s.service.requests.filter (fun r => r.name != n) }
    changes := (queueRecord .lost n (some e.identity) 0 s).changes } := by
  have changes : (queueRecord .lost n (some e.identity) 0 (changeEntry e.identity Entry.toLost s)).changes
      = (queueRecord .lost n (some e.identity) 0 s).changes := queueRecord_changes_congr (by simp) (by simp) _ _ _ _
  rw [loseEntry, name, Option.getD_some]
  apply State.eq_of_blocks
  case changes => simpa [serviceLost] using changes
  all_goals simp [serviceLost, Service.dropRequest]
  simp [changeEntry, State.withEntries]

/-- The fields a cascade of a loss leaves. -/
theorem StageIsLost.close {x : Identity} (h : StageIsLost x n s u) : StageIsLost x n s (close u) := by
  simpa [StageIsLost] using h

end

/-- Settles O45. -/
theorem entryDeadlinesMoveEntries : Obligations.EntryDeadlinesMoveEntries := by
  refine ⟨fun s k e ok entry due => ?_, fun s k e n ok entry name due => ?_, fun s k e n ok entry name due => ?_,
    fun s k e n ok stages inStep entry name due bridge => ?_⟩
  · have mem := State.mem_of_entryAt entry
    have heard := (ok.fits mem).claimDl_iff.mp (State.isSome_of_toolDue due)
    have acts := exec_claimDeadline entry due
    rw [removeEntry_of_nameless (by simp [Entry.heldName, Entry.holds, heard])] at acts
    exact ⟨_, acts, settles_close (by simp) (by simp), by simp, by simp, by simp, by simp, by simp,
      censusCloses_of (by simp) (by simp) (by simp), by apply State.eq_of_blocks <;> simp⟩
  · have acts := exec_silenceDeadline entry due
    have record : (queueRecord .silent n (some e.identity) 0
        (changeEntry e.identity (Entry.toSilent (s.cfg.loss * ms s.cfg.silence)) s)).changes
        = (queueRecord .silent n (some e.identity) 0 s).changes := queueRecord_changes_congr (by simp) (by simp) _ _ _ _
    rw [name] at acts
    refine ⟨_, acts, settles_refreshNotices (by simp) (by simp), ?_, (refreshNotices_changes _).trans record,
      by apply State.eq_of_blocks <;> simp⟩
    simp [changeEntry, State.withEntries, Entry.toSilent, ms]
  · have mem := State.mem_of_entryAt entry
    have holds := (ok.fits mem).holds_of_lossDl (State.isSome_of_toolDue due)
    have lost := loseEntry_values name s
    have there : e.toLost ∈ (loseEntry e 0 s).roster.entries := by
      rw [lost]
      exact List.mem_map.mpr ⟨e, mem, if_pos rfl⟩
    have dropped : ∀ r ∈ (loseEntry e 0 s).service.requests, r ∈ s.service.requests ∧ r.name ≠ n := by
      rw [lost]
      exact fun r hr => by simpa using hr
    cases bridge : isBridge e.identity with
    | false =>
      refine ⟨_, exec_lossDeadline_of_device entry due bridge, settles_close (by simp) (by simp),
        ⟨e.toLost, by simpa using there, rfl, rfl, name, rfl⟩, by simpa using dropped, fun _ => ?_, nofun, by simp, by simp,
        by simp, by simp⟩
      rw [lost]
      exact ⟨by simp [Entry.toLost], by simp, by simp⟩
    | true =>
      have okLost : RosterOk (loseEntry e 0 s) := (loseEntry_moves (A := True) (H := True) 0 fun _ =>
        ok.eachOf mem (ok.heldName_getD mem holds)).rosterOk (fun _ => ok) trivial
      have sinks := sinks_cascadeLoss okLost (loseEntry e 0 s).sinks_refl Config.rosterCapacity n
      have nonzero : n ≠ 0 := Nat.ne_of_gt (ok.range_of_holds ⟨e, mem, by simp [Entry.heldName, holds, name]⟩).1
      refine ⟨_, exec_lossDeadline_of_bridge entry due bridge name, settles_close (by simp) (by simp),
        ⟨e.toLost, by simpa using sinks.lost _ there rfl, rfl, rfl, name, rfl⟩,
        by simpa using fun r hr => dropped r (sinks.requests r hr), nofun, fun _ g hg path => ?_, by simp, by simp, by simp, by simp⟩
      have left : g ∈ (cascadeLoss Config.rosterCapacity n (loseEntry e 0 s)).roster.entries := by simpa using hg
      exact cascadeLoss_behind okLost nonzero left path
  · have mem := State.mem_of_entryAt entry
    have holds := (ok.fits mem).holds_of_lossDl (State.isSome_of_toolDue due)
    have held : e.heldName = some n := by simp [Entry.heldName, holds, name]
    exact ⟨_, exec_lossDeadline_of_bridge entry due bridge name, settles_close (by simp) (by simp),
      (stageIsLost_cascadeLoss ok stages mem held inStep).close, censusCloses_of (by simp) (by simp) (by simp),
      by apply State.eq_of_blocks <;> simp⟩

end Sys2Proof.Machine

/-! A holder goes with its stage (R92 to R95): RELEASE and FORGET. -/

namespace Sys2Proof.Machine

section

variable {s t u : State} {e b x : Entry} {n : Name} {y : Identity} {kind : ChangeKind} {first : State} {key : Key}

theorem exec_releaseReceived (heard : s.hears ⟨key, .release y⟩ = true) (ok : formOk s.ownIdentity ⟨key, .release y⟩ = true) :
    exec (.releaseReceived key y) s = .next (close (takeRelease key.toNat y (goodFrame s))) :=
  exec_received (f := ⟨key, .release y⟩) rfl heard ok

theorem takeRelease_of_holder (holder : s.holder n = some e) : takeRelease n e.identity s =
    removeEntry e .released (queueRecord .released n (some e.identity) 0 s) := by
  simp [takeRelease, holder]

theorem takeRelease_of_other (other : ∀ e, s.holder n = some e → e.identity ≠ y) : takeRelease n y s = countForeign s := by
  cases holder : s.holder n with
  | none => simp [takeRelease, holder]
  | some e => simp [takeRelease, holder, other e holder]

/-! ### Behind a bridge (R91) -/

/-- An entry is behind a bridge where the bridge at its path is the one or is behind it. -/
theorem StagesOk.isBehind_iff (stages : StagesOk s) (ok : RosterOk s) (hb : b ∈ s.roster.entries) :
    s.isBehind e b.identity = true ↔
      ∃ d ∈ s.roster.entries, e.path ≠ 0 ∧ d.heldName = some e.path ∧ (d = b ∨ s.isBehind d b.identity = true) := by
  rw [stages.acyclic.isBehind_iff ok hb]
  constructor
  · rintro ⟨d, above, under⟩
    obtain ⟨nonzero, hd, held⟩ := (State.bridgeAbove_eq_some_iff ok).mp above
    exact ⟨d, hd, nonzero, held, stages.acyclic.isBehind_of_under ok hd under⟩
  · rintro ⟨d, hd, nonzero, held, behind⟩
    refine ⟨d, (State.bridgeAbove_eq_some_iff ok).mpr ⟨nonzero, hd, held⟩, ?_⟩
    rcases behind with rfl | behind
    · exact Relation.ReflTransGen.refl
    · obtain ⟨c, above, under⟩ := (stages.acyclic.isBehind_iff ok hb).mp behind
      exact Relation.ReflTransGen.head above under

/-- All behind a LOST bridge are LOST. -/
theorem StagesOk.lost_of_behind (stages : StagesOk s) (ok : RosterOk s) (hb : b ∈ s.roster.entries) (lost : b.state = .lost)
    (he : e ∈ s.roster.entries) (behind : s.isBehind e b.identity = true) : e.state = .lost := by
  obtain ⟨d, above, under⟩ := (stages.acyclic.isBehind_iff ok hb).mp behind
  exact stages.lost_of_under ok he (Relation.ReflTransGen.head above under) lost

/-! ### A holder goes with its stage (R92, R95) -/

theorem StageLeaves.congr (h : StageLeaves kind y n s first u) (changes : t.changes = u.changes) (service : t.service = u.service)
    (naming : t.naming = u.naming) : StageLeaves kind y n s first t := by
  obtain ⟨⟨order, taken, records⟩, services, claims⟩ := h
  exact ⟨⟨order, taken, changes.trans records⟩, service.trans services, by rw [naming]; exact claims⟩

theorem RosterOk.filter_claims_of_holder (ok : RosterOk s) (inStep : ClaimsInStep s) (hx : x ∈ s.roster.entries)
    (held : x.heldName = some n) : s.naming.claims.filter (fun c => c.claimant != x.identity) = s.naming.claims :=
  inStep.filter_claims fun g hg own => by
    obtain ⟨holds, -⟩ := Entry.holds_of_heldName held
    rw [ok.eq_of_identity hg hx own]
    intro claiming
    simp [Entry.holds, claiming] at holds

/-- What the removal of a holder leaves, said of the state before its record and its frame. -/
theorem removeEntry_stageLeaves (ok : RosterOk s) (stages : StagesOk s) (inStep : ClaimsInStep s) (hx : x ∈ s.roster.entries)
    (held : x.heldName = some n) (entries : t.roster.entries = s.roster.entries) (service : t.service = s.service)
    (naming : t.naming = s.naming) (changes : t.changes = first.changes) (now : t.time.now = first.time.now) :
    let u := removeEntry x kind t
    u.roster.entries = s.roster.entries.filter (fun g => g.identity != x.identity && !s.isBehind g x.identity)
      ∧ u.roster.fullLatch = false ∧ StageLeaves kind x.identity n s first u := by
  have without := State.without_freeEntry ok stages hx held entries
  have claims : (freeEntry x t).naming.claims = s.naming.claims := by
    rw [freeEntry_naming, naming]
    exact ok.filter_claims_of_holder inStep hx held
  obtain ⟨_, latch, _⟩ := leaveName_values (kind := kind) ok stages hx held without
  refine ⟨removeEntry_entries ok stages hx entries, ?_, ?_⟩
  · rw [removeEntry_of_held held, latch]
    rfl
  · rw [removeEntry_of_held held]
    exact stageLeaves_leaveName ok stages hx held without (by simpa using service) claims (by simp [naming])
      (by simpa using changes) (by simpa using now)

/-- The removal of a LOST holder and its stage leaves the quiet condition as it is (R129). -/
theorem State.quietHolds_removedStage (ok : RosterOk s) (stages : StagesOk s) (inStep : ClaimsInStep s) (hx : x ∈ s.roster.entries)
    (lost : x.state = .lost)
    (entries : t.roster.entries = s.roster.entries.filter (fun g => g.identity != x.identity && !s.isBehind g x.identity))
    (claims : t.naming.claims = s.naming.claims.filter (fun c => !(s.stage x.identity).any (fun g => g.identity == c.claimant))) :
    t.QuietHolds ↔ s.QuietHolds := by
  have dead {g : Entry} (hg : g ∈ s.roster.entries) (gone : g.identity = x.identity ∨ s.isBehind g x.identity = true) :
      g.state = .lost := by
    rcases gone with own | behind
    · rw [ok.eq_of_identity hg hx own, lost]
    · exact stages.lost_of_behind ok hx lost hg behind
  have unclaimed : t.naming.claims = s.naming.claims := by
    rw [claims, List.filter_eq_self]
    intro c hc
    obtain ⟨d, hd, own, claimed⟩ := inStep.2.2.1 c hc
    rw [Bool.not_eq_true', List.any_eq_false]
    intro g hg same
    obtain ⟨mem, behind⟩ := State.mem_stage.mp hg
    have eq : g = d := ok.eq_of_identity mem hd ((by simpa using same : g.identity = c.claimant).trans own.symm)
    have claiming := (Entry.claimedName_eq_some_iff.mp claimed).2
    rw [← eq, dead mem (.inr behind)] at claiming
    exact absurd claiming (by decide)
  simp only [State.QuietHolds, entries, unclaimed, List.mem_filter, Bool.and_eq_true, bne_iff_ne, Bool.not_eq_true']
  refine and_congr_left fun _ => ⟨fun h g hg => ?_, fun h g hg => h g hg.1⟩
  by_cases gone : g.identity = x.identity ∨ s.isBehind g x.identity = true
  · rw [dead hg gone]
    decide
  · exact h g ⟨hg, fun own => gone (.inl own), Bool.eq_false_iff.mpr fun behind => gone (.inr behind)⟩

/-- A RELEASE of a holder that is no bridge (R93). -/
theorem releaseOfDevice (heard : s.hears ⟨key, .release e.identity⟩ = true)
    (formed : formOk s.ownIdentity ⟨key, .release e.identity⟩ = true) (holder : s.holder key.toNat = some e)
    (device : isBridge e.identity = false) : ∃ t, exec (.releaseReceived key e.identity) s = .next t
      ∧ t.line = s.line.afterGood
      ∧ t.roster = { s.roster with
          entries := s.roster.entries.filter (fun g => g.identity != e.identity), fullLatch := false }
      ∧ t.changes = (queueRecord .released key.toNat (some e.identity) 0 s).changes
      ∧ t.service = { s.service with requests := s.service.requests.filter (fun r => r.name != key.toNat),
                                     inService := s.service.inService.filter (fun m => m != key.toNat) }
      ∧ t.naming = { s.naming with claims := s.naming.claims.filter (fun c => c.claimant != e.identity) }
      ∧ CensusCloses s s.censusHeard t ∧ Settles s t
      ∧ t = { s with pins := t.pins, line := t.line, roster := t.roster, naming := t.naming, census := t.census,
                     service := t.service, changes := t.changes, notices := t.notices } := by
  have acts := exec_releaseReceived heard formed
  obtain ⟨_, held⟩ := State.holder_eq_some holder
  rw [takeRelease_of_holder (by simpa using holder), removeEntry_of_not_bridge held device] at acts
  exact ⟨_, acts, by simp, by simp, by simp [goodFrame_record], by simp, by simp, censusCloses_of (by simp) (by simp) (by simp),
    settles_close (by simp) (by simp), by apply State.eq_of_blocks <;> simp⟩

/-- A RELEASE of a name that its sender does not hold (R93). -/
theorem releaseOfOther (heard : s.hears ⟨key, .release y⟩ = true) (formed : formOk s.ownIdentity ⟨key, .release y⟩ = true)
    (other : ∀ e, s.holder key.toNat = some e → e.identity ≠ y) :
    ∃ t, exec (.releaseReceived key y) s = .next t ∧ ForeignCounted s t := by
  have acts := exec_releaseReceived heard formed
  rw [takeRelease_of_other (by simpa using other)] at acts
  exact ⟨_, acts, foreignCounted_close rfl⟩

/-- A RELEASE of a holder goes with its stage (R92, R93). -/
theorem releaseOfHolder (heard : s.hears ⟨key, .release e.identity⟩ = true) (ok : RosterOk s) (stages : StagesOk s)
    (inStep : ClaimsInStep s) (formed : formOk s.ownIdentity ⟨key, .release e.identity⟩ = true)
    (holder : s.holder key.toNat = some e) : ∃ t, exec (.releaseReceived key e.identity) s = .next t
      ∧ t.roster.entries = s.roster.entries.filter (fun g => g.identity != e.identity && !s.isBehind g e.identity)
      ∧ t.roster.fullLatch = false ∧ t.roster.asked = s.roster.asked
      ∧ StageLeaves .released e.identity key.toNat s (queueRecord .released key.toNat (some e.identity) 0 s) t
      ∧ t.naming.tickets = s.naming.tickets ∧ t.line = s.line.afterGood ∧ CensusCloses s s.censusHeard t ∧ Settles s t
      ∧ t = { s with pins := t.pins, line := t.line, roster := t.roster, naming := t.naming, census := t.census,
                     service := t.service, changes := t.changes, notices := t.notices } := by
  have acts := exec_releaseReceived heard formed
  obtain ⟨mem, held⟩ := State.holder_eq_some holder
  rw [takeRelease_of_holder (by simpa using holder)] at acts
  obtain ⟨entries, latch, leaves⟩ := removeEntry_stageLeaves (kind := .released)
    (t := queueRecord .released key.toNat (some e.identity) 0 (goodFrame s)) ok stages inStep mem held (by simp) (by simp) (by simp)
    (goodFrame_record _ _ _ _) (by simp)
  exact ⟨_, acts, by simpa using entries, by simpa using latch, by simp, leaves.congr (by simp) (by simp) (by simp), by simp,
    by simp, censusCloses_of (by simp) (by simp) (by simp), settles_close (by simp) (by simp),
    by apply State.eq_of_blocks <;> simp⟩

/-- A FORGET of a LOST holder goes with its stage (R92, R94). -/
theorem forgetOfHolder (idle : s.order.state = .idle) (phase : s.order.phase = .run) (opcode : s.order.opcode = 0x14)
    (ok : RosterOk s) (stages : StagesOk s) (inStep : ClaimsInStep s) (names : s.operandNames = true)
    (holder : s.holder s.order.operand.toNat = some e) (lost : e.state = .lost) : ∃ t, exec .forget s = .next t
      ∧ t.roster.entries = s.roster.entries.filter (fun g => g.identity != e.identity && !s.isBehind g e.identity)
      ∧ t.roster.fullLatch = false ∧ t.roster.asked = s.roster.asked
      ∧ StageLeaves .forgotten e.identity s.order.operand.toNat s
          (queueRecord .forgotten s.order.operand.toNat (some e.identity) 0 s) t
      ∧ (CensusAgrees s → t.census = s.census)
      ∧ t.order = { s.order with state := .done, termination := 0x8000, detail := 0, pingIdentity := none,
                                 pingWindow := none }
      ∧ t.naming.tickets = s.naming.tickets ∧ t.pins.sdo = [statusByte s, 0x00] ∧ KeepsLatched s t ∧ LevelsFollow t
      ∧ t = { s with pins := t.pins, roster := t.roster, naming := t.naming, census := t.census, service := t.service,
                     changes := t.changes, notices := t.notices, order := t.order } := by
  have acts := exec_forget idle opcode phase
  obtain ⟨mem, held⟩ := State.holder_eq_some holder
  have ended : forgetOrder (beginOrder s) = endOrder none 0 (removeEntry e .forgotten
      (queueRecord .forgotten s.order.operand.toNat (some e.identity) 0 (beginOrder s))) :=
    forgetOrder_of_holder (s := beginOrder s) names holder lost
  obtain ⟨entries, latch, leaves⟩ := removeEntry_stageLeaves (kind := .forgotten)
    (t := queueRecord .forgotten s.order.operand.toNat (some e.identity) 0 (beginOrder s))
    (first := queueRecord .forgotten s.order.operand.toNat (some e.identity) 0 s) ok stages inStep mem held (by simp) (by simp)
    (by simp) (queueRecord_changes_congr (by simp) (by simp) _ _ _ _) (by simp)
  rw [orderRun, ended] at acts
  have order : (removeEntry e .forgotten (queueRecord .forgotten s.order.operand.toNat (some e.identity) 0 (beginOrder s))).order
      = (beginOrder s).order := by simp
  generalize removed : removeEntry e .forgotten _ = u at entries latch leaves order acts
  refine ⟨_, acts, by simpa using entries, by simpa using latch, by simp [← removed], leaves.congr (by simp) (by simp) (by simp),
    fun agrees => ?_, by simp [order, beginOrder, terminationWord_none], by simp [← removed], rfl, ?_,
    levelsFollow_clockOut (levelsFollow_close _), by apply State.eq_of_blocks <;> simp [← removed]⟩
  · obtain ⟨_, _, naming⟩ := leaves
    have quiet := State.quietHolds_removedStage (t := endOrder none 0 u) ok stages inStep mem lost (by simpa using entries)
      (by simpa using congrArg Naming.claims naming)
    rw [close_of_agrees (agrees.of_quiet (by simp [← removed]) quiet)]
    simp [← removed]
  · exact keepsLatched_clockOut (keepsLatched_refreshNotices (s := s) (u := testQuiet (endOrder none 0 u)) (by simp [← removed]))

end

end Sys2Proof.Machine

/-! A holder leaves its name for HEARD, and its stage goes (R79, R80, R88, R92): ANNOUNCE and CLAIM of a holder. -/

namespace Sys2Proof.Machine

section

variable {s t first : State} {e : Entry} {x : Identity} {n p : Name} {f g : Entry → Entry} {revision : Byte} {key : Key}

/-- What a holder that changes in its place for HEARD leaves behind, with its stage gone. -/
theorem Staged.holderLeft (h : Staged s) (he : e ∈ s.roster.entries) (held : e.heldName = some n)
    (identity : (f e).identity = e.identity) (heard : (f e).state = .heard) (room : s.Room e.identity (f e).path)
    (entries : t.roster.entries = s.roster.entries.map (fun g => if g.identity = e.identity then f g else g))
    (latch : t.roster.fullLatch = s.roster.fullLatch) (service : t.service = s.service)
    (claims : t.naming.claims = s.naming.claims) (plan : t.naming.plan = s.naming.plan)
    (changes : t.changes = first.changes) (now : t.time.now = first.time.now) :
    let u := Machine.leaveName e.identity n .stalled t
    u.roster.entries = (s.roster.entries.filter (fun g => !s.isBehind g e.identity)).map
        (fun g => if g.identity = e.identity then f g else g)
      ∧ u.roster.fullLatch = (s.roster.fullLatch && (s.stage e.identity).isEmpty)
      ∧ StageLeaves .stalled e.identity n s first u ∧ ¬ u.QuietHolds := by
  obtain ⟨ok, _, stages⟩ := h
  have changed : t.roster.entries = (changeEntry e.identity f s).roster.entries := by simpa using entries
  have without := State.without_of_room ok stages he held changed identity room
  have left := leaveName_entries (kind := .stalled) ok stages he held without changed identity
  obtain ⟨_, full, _⟩ := leaveName_values (kind := .stalled) ok stages he held without
  refine ⟨left, latch ▸ full, stageLeaves_leaveName ok stages he held without service claims plan changes now, ?_⟩
  exact State.not_quietHolds_of_changed left (List.mem_filter.mpr ⟨he, by simp [stages.acyclic e he]⟩) rfl heard

/-- A holder goes back to HEARD, by a restart or by its return (R79, R80). -/
def backToHeard (e : Entry) (f : Entry → Entry) (s : State) : State :=
  if e.state = .lost then returnEntry e f s else restartEntry e f s

theorem backToHeard_eq (e : Entry) (f : Entry → Entry) (s : State) : backToHeard e f s =
    leaveName e.identity (e.name.getD 0) .stalled { s with
      roster := { s.roster with entries := s.roster.entries.map (fun g => if g.identity = e.identity then
        f (g.leavesName s.claimValue) else g) }
      census := (heardReported s).census
      changes := (if e.state = .lost then queueRecord .joined 0 (some e.identity) (f e).path s
        else queueRecord .restarted (e.name.getD 0) (some e.identity) 0 s).changes } := by
  unfold backToHeard
  split
  · rw [returnEntry_eq, heardRecorded_eq]
  · rw [restartEntry_eq, heardRecorded_eq]

@[simp] theorem backToHeard_frame (e : Entry) (f : Entry → Entry) (s : State) :
    (backToHeard e f s).pins = s.pins ∧ (backToHeard e f s).time = s.time ∧ (backToHeard e f s).line = s.line
      ∧ (backToHeard e f s).coupling = s.coupling ∧ (backToHeard e f s).roster.asked = s.roster.asked
      ∧ (backToHeard e f s).naming.plan = s.naming.plan ∧ (backToHeard e f s).naming.tickets = s.naming.tickets
      ∧ (backToHeard e f s).census = (heardReported s).census ∧ (backToHeard e f s).notices = s.notices
      ∧ (backToHeard e f s).order = s.order ∧ (backToHeard e f s).snapshot = s.snapshot
      ∧ (backToHeard e f s).draws = s.draws ∧ (backToHeard e f s).pending = s.pending := by
  rw [backToHeard_eq]
  simp

/-- A holder that goes back to HEARD at a good frame, and its stage. -/
theorem Staged.backToHeard_left (h : Staged s) (he : e ∈ s.roster.entries) (held : e.heldName = some n)
    (marks : Entry.Marks f) (same : f (e.leavesName (s.toolAfter (1000 * s.cfg.claim))) = g e)
    (room : s.Room e.identity (f e).path) (path : (g e).path = (f e).path) :
    let u := backToHeard e f (goodFrame s)
    u.roster.entries = (s.roster.entries.filter (fun g => !s.isBehind g e.identity)).map
        (fun d => if d.identity = e.identity then g d else d)
      ∧ u.roster.fullLatch = (s.roster.fullLatch && (s.stage e.identity).isEmpty)
      ∧ StageLeaves .stalled e.identity n s (if e.state = .lost then queueRecord .joined 0 (some e.identity) (f e).path s
          else queueRecord .restarted n (some e.identity) 0 s) u
      ∧ ¬ u.QuietHolds := by
  obtain ⟨-, name⟩ := Entry.holds_of_heldName held
  rw [backToHeard_eq, name]
  refine h.holderLeft he held (by rw [← same, marks.identity]; rfl) (by rw [← same, marks.state]; rfl) (path ▸ room)
    ?entries ?_ ?_ ?_ ?_ (goodFrame_record_ite ..) ?now
  case entries =>
    have own := h.roster.map_own he (f := fun g => f (g.leavesName (goodFrame s).claimValue)) (g := g)
      (by rw [goodFrame_claimValue]; exact same)
    simpa using own
  case now => split <;> simp
  all_goals simp

theorem takeAnnounce_of_holds (passes : pathOk x p s = true) (entry : s.entryOf x = some e) (holds : e.holds = true) :
    takeAnnounce x p revision s = backToHeard e (Entry.announced p revision s.time.now) s := by
  rcases Entry.holds_iff.mp holds with state | state | state
  all_goals
    simp only [takeAnnounce, passes, entry, state, backToHeard]
    rfl

theorem takeClaim_of_holds (entry : s.entryOf x = some e) (holds : e.holds = true)
    (open_ : e.state = .lost → s.behindLost e = false) :
    takeClaim x n s = judgeClaim x n (backToHeard e (Entry.heardAt s.time.now) s) := by
  rcases Entry.holds_iff.mp holds with state | state | state
  case inr.inr =>
    simp only [takeClaim, entry, state, backToHeard, open_ state]
    rfl
  all_goals
    simp only [takeClaim, entry, state, backToHeard]
    rfl

/-- An ANNOUNCE of a holder (R79, R80, R92). -/
theorem announceOfHolder {path wish : Byte} (heard : s.hears ⟨key, .announce path revision wish⟩ = true) (h : Staged s)
    (formed : formOk s.ownIdentity ⟨key, .announce path revision wish⟩ = true) (passes : pathOk key path.toNat s = true)
    (entry : s.entryOf key = some e) (held : e.heldName = some n) :
    ∃ t, exec (.announceReceived key path revision wish) s = .next t
      ∧ t.roster.entries = (s.roster.entries.filter (fun g => !s.isBehind g key)).map (fun g => if g.identity = key then
          { g with state := .heard, name := none, prior := some n, path := path.toNat, revision := revision,
                   lastHeard := s.time.now, beatSeq := none,
                   claimDl := some (s.toolAfter (1000 * s.cfg.claim)), silenceDl := none, lossDl := none }
          else g)
      ∧ StageLeaves .stalled key n s
          (if e.state = .lost then queueRecord .joined 0 (some key) path.toNat s else queueRecord .restarted n (some key) 0 s) t
      ∧ t.roster.fullLatch = (s.roster.fullLatch && (s.stage key).isEmpty)
      ∧ t.roster.asked = s.roster.asked ∧ t.naming.tickets = s.naming.tickets ∧ t.line = s.line.afterGood
      ∧ (s.census.state.lineActive = true → CensusReopened s t) ∧ Settles s t
      ∧ t = { s with pins := t.pins, line := t.line, roster := t.roster, naming := t.naming, census := t.census,
                     service := t.service, changes := t.changes, notices := t.notices } := by
  have acts := exec_announceReceived heard formed
  obtain ⟨mem, rfl⟩ := State.entryOf_eq_some entry
  obtain ⟨holds, name⟩ := Entry.holds_of_heldName held
  rw [takeAnnounce_of_holds (by simpa using passes) (by simpa using entry) holds] at acts
  obtain ⟨entries, latch, leaves, seeks⟩ := h.backToHeard_left (g := fun g => { g with
      state := .heard, name := none, prior := some n, path := path.toNat, revision := revision, lastHeard := s.time.now
      beatSeq := none, claimDl := some (s.toolAfter (1000 * s.cfg.claim)), silenceDl := none, lossDl := none })
    mem held (Entry.marks_announced path.toNat revision (goodFrame s).time.now)
    (by simp [Entry.announced, Entry.leavesName, Entry.toHeard, name]) (State.room_of_pathOk passes) rfl
  exact ⟨_, acts, by simpa using entries, leaves.congr (by simp) (by simp) (by simp), by simpa using latch, by simp, by simp,
    by simp, fun active => censusReopened_close active seeks (by simp), settles_close (by simp) (by simp),
    by apply State.eq_of_blocks <;> simp⟩

end

end Sys2Proof.Machine

/-! A holder leaves its name for HEARD, and its stage goes (R88, R92): CLAIM of a holder, and HOLD of another name by it. -/

namespace Sys2Proof.Machine

section

variable {s t first : State} {e : Entry} {x : Identity} {n m : Name} {f g : Entry → Entry} {key : Key}

theorem Staged.goodFrame (h : Staged s) : Staged (Machine.goodFrame s) :=
  ⟨h.roster.congr (by simp), h.claims.congr (by simp) (by simp), h.stages.congr (by simp)⟩

theorem Staged.backToHeard (h : Staged s) (he : e ∈ s.roster.entries) (holds : e.holds = true) (marks : Entry.Marks f)
    (room : s.Room e.identity (f (e.leavesName s.claimValue)).path) : Staged (backToHeard e f s) := by
  unfold Machine.backToHeard
  split
  · exact h.returnEntry he holds marks room
  · exact h.restartEntry he holds marks room

/-- The entry of a holder that has changed in its place, with its stage gone. -/
theorem Staged.entryOf_left (h : Staged s) (he : e ∈ s.roster.entries) (identity : (f e).identity = e.identity)
    (single : t.Single e.identity) (entries : t.roster.entries = (s.roster.entries.filter (fun g => !s.isBehind g e.identity)).map
      (fun g => if g.identity = e.identity then f g else g)) : t.entryOf e.identity = some (f e) := by
  refine single _ ?_ identity
  rw [entries]
  exact List.mem_map.mpr ⟨e, List.mem_filter.mpr ⟨he, by simp [h.stages.acyclic e he]⟩, if_pos rfl⟩

/-- An entry that has left the name m for HEARD. -/
def Entry.left (m : Name) (claim : Time) (g : Entry) : Entry :=
  { g with state := .heard, name := none, prior := some m, beatSeq := none, claimDl := some claim, silenceDl := none, lossDl := none }

theorem Entry.leavesName_of_name (name : e.name = some m) (claim : Time) : e.leavesName claim = e.left m claim := by
  simp [Entry.leavesName, Entry.toHeard, Entry.left, name]

/-- A CLAIM of a holder (R79, R80, R92, R108). -/
theorem claimOfHolder {n tryCount : Byte} (heard : s.hears ⟨key, .claim n tryCount⟩ = true) (h : Staged s)
    (active : s.census.state.lineActive = true) (formed : formOk s.ownIdentity ⟨key, .claim n tryCount⟩ = true)
    (entry : s.entryOf key = some e) (held : e.heldName = some m) (open_ : e.state = .lost → s.behindLost e = false) :
    ∃ t u, exec (.claimReceived key n tryCount) s = .next t ∧ ClaimJudged key n.toNat u t
      ∧ u.roster.entries = (s.roster.entries.filter (fun g => !s.isBehind g key)).map (fun g => if g.identity = key then
          { g with state := .heard, name := none, prior := some m, lastHeard := s.time.now, beatSeq := none,
                   claimDl := some (s.toolAfter (1000 * s.cfg.claim)), silenceDl := none, lossDl := none }
          else g)
      ∧ StageLeaves .stalled key m s
          (if e.state = .lost then queueRecord .joined 0 (some key) e.path s else queueRecord .restarted m (some key) 0 s) u
      ∧ u.roster.fullLatch = (s.roster.fullLatch && (s.stage key).isEmpty)
      ∧ u.roster.asked = s.roster.asked ∧ u.naming.tickets = s.naming.tickets ∧ u.line = s.line.afterGood
      ∧ CensusReopened s u
      ∧ u = { s with line := u.line, roster := u.roster, naming := u.naming, census := u.census, service := u.service,
                     changes := u.changes }
      ∧ Settles s t
      ∧ t = { u with pins := t.pins, line := t.line, roster := t.roster, naming := t.naming, changes := t.changes,
                     notices := t.notices } := by
  have acts := exec_claimReceived heard formed
  obtain ⟨mem, rfl⟩ := State.entryOf_eq_some entry
  obtain ⟨holds, name⟩ := Entry.holds_of_heldName held
  have marks := Entry.marks_heardAt (goodFrame s).time.now
  have room := h.room mem open_
  have staged := h.goodFrame.backToHeard (by simpa using mem) holds marks (h.goodFrame.room (by simpa using mem) (by simpa using open_))
  have single := staged.roster.single e.identity
  rw [takeClaim_of_holds (by simpa using entry) holds (by simpa using open_)] at acts
  obtain ⟨entries, latch, leaves, seeks⟩ := h.backToHeard_left
    (g := fun g => (g.left m (s.toolAfter (1000 * s.cfg.claim))).heardAt s.time.now)
    mem held marks (by simp [Entry.leavesName_of_name name]) room rfl
  have found := h.entryOf_left (f := fun g => (g.left m (s.toolAfter (1000 * s.cfg.claim))).heardAt s.time.now) mem rfl
    single entries
  refine ⟨_, _, acts, claimJudged single fun d hd => ?_, entries, leaves, latch, by simp, by simp, by simp,
    censusReopened_of active (by simp), by apply State.eq_of_blocks <;> simp, settles_close (by simp) (by simp),
    close_judgeClaim (judgeClaim_seeks single found rfl rfl)⟩
  rw [← Option.some.inj (found.symm.trans hd)]
  rfl

/-! ### A HOLD of another name (R88, R92, R111) -/

theorem judgeHold_of_elsewhere (entry : s.entryOf x = some e) (held : e.heldName = some m) (other : m ≠ n)
    (open_ : e.state = .lost → s.behindLost e = false) : judgeHold x n s = conflictHold x n s := by
  have holds := (Entry.holds_of_heldName held).1
  have resting : e.seeking = false := by simpa [Entry.holds_eq_not_seeking] using holds
  have unaccepted := State.not_acceptable_of_state (n := n) entry fun state => by simp [Entry.holds, state] at holds
  have living : ¬ (e.state = .lost ∧ s.behindLost e = true) := fun ⟨lost, behind⟩ => by simp [open_ lost] at behind
  simp [judgeHold, entry, unaccepted, held, living, other, resting]

theorem Staged.holdTaken (h : Staged s) : Staged (Machine.holdTaken x n s) :=
  ⟨h.roster.congr (by simp), h.claims.congr (by simp) (by simp), h.stages.congr (by simp)⟩

/-- A demotion, before the stage goes (R88). -/
theorem demoteEntry_eq_leaveName (name : e.name = some m) (recordName : Name) (detail : Nat) (s : State) :
    demoteEntry e recordName detail s = leaveName e.identity m .stalled { s with
      roster := { s.roster with entries := s.roster.entries.map (fun g => if g.identity = e.identity then
        g.leavesName s.claimValue else g) }
      census := (heardReported s).census
      changes := (queueRecord .conflict recordName (some e.identity) detail s).changes } := by
  rw [demoteEntry_eq, heardRecorded_eq, name]
  rfl

theorem heardReported_holdTaken_census (s : State) (x : Identity) (n : Name) :
    (heardReported (Machine.holdTaken x n s)).census = (heardReported (Machine.goodFrame s)).census :=
  heardReported_census_congr (by simp) (by simp) (by simp)

/-- What a demotion makes of the state t, said of the state s that t has come from. -/
theorem Staged.demoted (h : Staged s) (he : e ∈ s.roster.entries) (held : e.heldName = some m) {d : Entry}
    (own : d.identity = e.identity) (name : d.name = some m) (identity : (f e).identity = e.identity)
    (heard : (f e).state = .heard) (room : s.Room e.identity (f e).path)
    (entries : t.roster.entries.map (fun g => if g.identity = e.identity then g.leavesName t.claimValue else g) =
      s.roster.entries.map (fun g => if g.identity = e.identity then f g else g))
    (latch : t.roster.fullLatch = s.roster.fullLatch) (service : t.service = s.service)
    (claims : t.naming.claims = s.naming.claims) (plan : t.naming.plan = s.naming.plan) (recordName : Name) (detail : Nat)
    (changes : (queueRecord .conflict recordName (some e.identity) detail t).changes = first.changes)
    (now : t.time.now = first.time.now) :
    let u := Machine.demoteEntry d recordName detail t
    u.roster.entries = (s.roster.entries.filter (fun g => !s.isBehind g e.identity)).map
        (fun g => if g.identity = e.identity then f g else g)
      ∧ u.roster.fullLatch = (s.roster.fullLatch && (s.stage e.identity).isEmpty)
      ∧ StageLeaves .stalled e.identity m s first u ∧ ¬ u.QuietHolds := by
  rw [demoteEntry_eq_leaveName name, own]
  exact h.holderLeft he held identity heard room entries latch service claims plan changes now

theorem demoteEntry_census (d : Entry) (recordName : Name) (detail : Nat) (t : State) :
    (demoteEntry d recordName detail t).census = (heardReported t).census := by
  rw [demoteEntry_eq, heardRecorded_eq]
  simp

/-- A HOLD of a holder for a name that is not its own (R88, R92, R111). -/
theorem holdOfHolder (heard : s.hears ⟨key, .hold x⟩ = true) (h : Staged s)
    (formed : formOk s.ownIdentity ⟨key, .hold x⟩ = true) (entry : s.entryOf x = some e) (held : e.heldName = some m)
    (other : m ≠ key.toNat) (open_ : e.state = .lost → s.behindLost e = false) :
    ∃ t v, exec (.holdReceived key x) s = .next t ∧ HoldAnswersPing key.toNat x s t
      ∧ t.roster.entries = (s.roster.entries.filter (fun g => !s.isBehind g x)).map (fun g => if g.identity = x then
          { g with state := .heard, name := none, prior := some m, beatSeq := none,
                   objections := min 15 (g.objections + 1), storm := g.storm || decide (g.objections + 1 = 8),
                   claimDl := some (s.toolAfter (1000 * s.cfg.claim)), silenceDl := none, lossDl := none }
          else g)
      ∧ StageLeaves .stalled x m s (queueRecord .conflict key.toNat (some x) m s) v
      ∧ v = { s with naming := t.naming, service := t.service, changes := v.changes }
      ∧ t.changes = (if e.objections + 1 = 8 ∧ e.storm = false then queueRecord .storm 0 (some x) 8 v else v).changes
      ∧ t.roster.fullLatch = (s.roster.fullLatch && (s.stage x).isEmpty)
      ∧ t.roster.asked = s.roster.asked.filter (fun a => a.name != key.toNat) ∧ t.naming.tickets = s.naming.tickets
      ∧ HoldDisputed x key.toNat .conflict (t.counterOffer x) s.line.afterGood t.line
      ∧ (s.census.state.lineActive = true → CensusReopened s t) ∧ Settles s t
      ∧ t = { s with pins := t.pins, line := t.line, roster := t.roster, naming := t.naming, census := t.census,
                     service := t.service, changes := t.changes, notices := t.notices, order := t.order } := by
  have acts := exec_holdReceived heard formed
  obtain ⟨mem, rfl⟩ := State.entryOf_eq_some entry
  obtain ⟨holds, name⟩ := Entry.holds_of_heldName held
  rw [judgeHold_of_elsewhere (by simpa using entry) held other (by simpa using open_),
    conflictHold_of_holds (by simpa using entry) holds, name, Option.getD_some] at acts
  have staged : Staged (demoteEntry e key.toNat m (holdTaken e.identity key.toNat s)) :=
    h.holdTaken.demoteEntry (by simpa using mem) holds (by simpa using open_) _ _
  have single := staged.roster.single e.identity
  have own := h.roster.map_own mem (f := Entry.leavesName (s.toolAfter (1000 * s.cfg.claim)))
    (Entry.leavesName_of_name name _)
  obtain ⟨entries, latch, leaves, -⟩ := h.demoted (t := holdTaken e.identity key.toNat s)
    (first := queueRecord .conflict key.toNat (some e.identity) m s) mem held rfl name rfl rfl (h.room mem open_)
    (by simpa using own) (by simp) (by simp) (by simp) (by simp) key.toNat m (holdTaken_record ..) (by simp)
  have census := demoteEntry_census e key.toNat m (holdTaken e.identity key.toNat s)
  rw [heardReported_holdTaken_census] at census
  have frame := demoteEntry_frame e key.toNat m (holdTaken e.identity key.toNat s)
  generalize demoteEntry e key.toNat m (holdTaken e.identity key.toNat s) = u at acts single entries latch leaves census frame
  have found := h.entryOf_left mem rfl single entries
  have counted := disputed_of_entry (n := key.toNat) single found
  have disputes := holdDisputed_disputed (n := key.toNat) single
  have now : u.time.now = s.time.now := by simp [frame]
  refine ⟨_, { s with naming := u.naming, service := u.service, changes := u.changes }, acts,
    holdAnswersPing_of (by simp [disputed, frame]), ?_, leaves.congr rfl rfl rfl, by simp [disputed], ?_, by simp [disputed, latch],
    by simp [disputed, frame], by simp [disputed, frame], by simpa [frame] using disputes, fun active => ?_,
    settles_close (by simp [disputed, frame]) (by simp [disputed, frame]), ?_⟩
  · rw [counted]
    simp only [close_frame]
    rw [entries, map_own_map_own (g := Entry.left m _) fun _ => rfl]
    rfl
  · rw [counted]
    simp only [close_frame]
    refine record_if_congr (t := u) (s := { s with naming := u.naming, service := u.service, changes := u.changes })
      (e.objections + 1 = 8 ∧ e.storm = false) rfl now _ _ _ _
  · refine censusReopened_close active ?_ (by simp [disputed, census])
    rw [counted]
    exact State.not_quietHolds_of_changed (f := Entry.objected) rfl (State.entryOf_eq_some found).1 rfl rfl
  · rw [counted]
    apply State.eq_of_blocks <;> simp [frame]

end

end Sys2Proof.Machine

/-! Settles O35: a holder that leaves its name, and its stage (R78 to R80, R88, R91 to R95, R114, R115). -/

namespace Sys2Proof.Machine

section

variable {s t u first : State} {e : Entry} {x : Identity} {n d : Name} {key : Key} {reason : Byte}

/-! ### An OBJECT against a holder (R114, R115) -/

theorem heardConflict_of_holder (holder : s.holder d = some e) (open_ : e.state = .lost → s.behindLost e = false) :
    heardConflict e.identity d s = demoteEntry e d 0 s := by
  have living : ¬ (e.state = .lost ∧ s.behindLost e = true) := fun ⟨lost, behind⟩ => by simp [open_ lost] at behind
  simp [heardConflict, holder, living]

theorem ClaimsInStep.unclaimed_of_holds (inStep : ClaimsInStep s) (single : s.Single e.identity) (he : e ∈ s.roster.entries)
    (holds : e.holds = true) : s.claimOf e.identity = none := by
  rw [Option.eq_none_iff_forall_ne_some]
  intro c claim
  have state := inStep.state_of_claimed single he rfl (by simp [claim])
  simp [Entry.holds, state] at holds

/-- What an OBJECT makes of a holder, but for its demotion (R111, R114). -/
theorem objectionTaken_of_holder (ok : RosterOk s) (inStep : ClaimsInStep s) (he : e ∈ s.roster.entries)
    (held : e.heldName = some d) : objectionTaken e.identity d reason s = { s with
      line := { s.line with txList := s.line.txList.filter (fun f => !Withdrawn e.identity d reason f) }
      naming := { s.naming with
        tickets := s.naming.tickets.filter
          (fun k => !s.line.txList.any (fun f => Withdrawn e.identity d reason f && f.tag == k.tag)) }
      roster := { s.roster with
        entries := s.roster.entries.map (fun g => if g.identity = e.identity then g.objected else g) }
      changes := (if e.objections + 1 = 8 ∧ e.storm = false then queueRecord .storm d (some e.identity) 8 s else s).changes } := by
  obtain ⟨holds, name⟩ := Entry.holds_of_heldName held
  have single := ok.single e.identity
  have unclaimed := inStep.unclaimed_of_holds single he holds
  rw [objectionTaken_of_entry single (ok.entryOf_eq he), unclaimed, State.filter_claims_of_unclaimed unclaimed, if_pos rfl, name]
  rfl

/-- An OBJECT with reason CONFLICT demotes the holder of its name (R115). -/
theorem takeObject_of_holder (ok : RosterOk s) (inStep : ClaimsInStep s) (holder : s.holder d = some e)
    (open_ : e.state = .lost → s.behindLost e = false) :
    takeObject e.identity d (7 : Byte).toNat s = demoteEntry e.objected d 0 (objectionTaken e.identity d 7 s) := by
  obtain ⟨mem, held⟩ := State.holder_eq_some holder
  have single := ok.single e.identity
  have unclaimed := inStep.unclaimed_of_holds single mem (Entry.holds_of_heldName held).1
  have same : e.afterObject (s.claimOf e.identity).isSome s.claimValue = e.objected := by rw [unclaimed]; rfl
  have holder' := objectionTaken_holder (d := d) (reason := 7) inStep single d
  have behind := objectionTaken_behindLost (d := d) (reason := 7) inStep single e
  rw [holder, Option.map_some, if_pos rfl, same] at holder'
  rw [if_pos rfl, same] at behind
  rw [takeObject_eq, if_pos (by decide)]
  exact heardConflict_of_holder (e := e.objected) holder' fun lost => behind.trans (open_ lost)

/-- A holder that is demoted by another station's OBJECT, and its stage (R88, R92, R115). -/
theorem Staged.demotedByObject (h : Staged u) (holder : u.holder d = some e) (open_ : e.state = .lost → u.behindLost e = false)
    (first : State) (storm : first = if e.objections + 1 = 8 ∧ e.storm = false then
      queueRecord .storm d (some e.identity) 8 u else u) :
    let t := Machine.takeObject e.identity d (7 : Byte).toNat u
    t.roster.entries = (u.roster.entries.filter (fun g => !u.isBehind g e.identity)).map
        (fun g => if g.identity = e.identity then (g.left d u.claimValue).objected else g)
      ∧ t.roster.fullLatch = (u.roster.fullLatch && (u.stage e.identity).isEmpty)
      ∧ StageLeaves .stalled e.identity d u (queueRecord .conflict d (some e.identity) 0 first) t ∧ ¬ t.QuietHolds := by
  obtain ⟨mem, held⟩ := State.holder_eq_some holder
  obtain ⟨holds, name⟩ := Entry.holds_of_heldName held
  have taken := objectionTaken_of_holder (reason := 7) h.roster h.claims mem held
  rw [takeObject_of_holder h.roster h.claims holder open_]
  generalize objectionTaken e.identity d 7 u = w at taken
  have own := h.roster.map_own mem (f := fun g => g.objected.leavesName u.claimValue)
    (g := fun g => (g.left d u.claimValue).objected) (by rw [Entry.leavesName_of_name (m := d) (e := e.objected) name]; rfl)
  have value : w.claimValue = u.claimValue := by rw [taken]; rfl
  refine h.demoted (d := e.objected) mem held rfl name rfl rfl (h.room mem open_) ?_ (by rw [taken]) (by rw [taken])
    (by rw [taken]) (by rw [taken]) d 0 (queueRecord_changes_congr (s := first) ?_ ?_ _ _ _ _) ?_
  · rw [value, taken, ← own, map_own_map_own (g := Entry.objected) fun _ => rfl]
  · rw [taken, storm]
  · rw [taken, storm]
    split <;> simp
  · rw [taken, storm]
    split <;> simp

/-- The event of an OBJECT that demotes a holder, from its sender's report on (R88, R92, R114, R115). -/
theorem Staged.objectOfHolder (h : Staged u) (holder : u.holder d = some e) (open_ : e.state = .lost → u.behindLost e = false)
    (time : u.time = s.time) (order : u.order = s.order) (census : u.census = s.censusHeard) :
    let t := close (Machine.takeObject e.identity d (7 : Byte).toNat u)
    t.roster.entries = (u.roster.entries.filter (fun g => !u.isBehind g e.identity)).map (fun g => if g.identity = e.identity then
          { g with state := .heard, name := none, prior := some d, beatSeq := none,
                   objections := min 15 (g.objections + 1), storm := g.storm || decide (g.objections + 1 = 8),
                   claimDl := some (s.toolAfter (1000 * s.cfg.claim)), silenceDl := none, lossDl := none }
          else g)
      ∧ (∀ v, v = (if e.objections + 1 = 8 ∧ e.storm = false then queueRecord .storm d (some e.identity) 8 u else u) →
          StageLeaves .stalled e.identity d u (queueRecord .conflict d (some e.identity) 0 v) t)
      ∧ t.line = { u.line with txList := u.line.txList.filter (fun f => !Withdrawn e.identity d 7 f) }
      ∧ t.naming.tickets = u.naming.tickets.filter
          (fun k => !u.line.txList.any (fun f => Withdrawn e.identity d 7 f && f.tag == k.tag))
      ∧ t.roster.fullLatch = (u.roster.fullLatch && (u.stage e.identity).isEmpty) ∧ t.roster.asked = u.roster.asked
      ∧ (s.census.state.lineActive = true → CensusReopened s t)
      ∧ t = { u with pins := t.pins, line := t.line, roster := t.roster, naming := t.naming, census := t.census,
                     service := t.service, changes := t.changes, notices := t.notices } := by
  obtain ⟨mem, held⟩ := State.holder_eq_some holder
  have left := h.demotedByObject holder open_
  have taken := objectionTaken_of_holder (reason := 7) h.roster h.claims mem held
  have made := takeObject_of_holder h.roster h.claims holder open_
  generalize objectionTaken e.identity d 7 u = w at taken made
  have reopened : (heardReported w).census = (heardReported (Machine.goodFrame s)).census :=
    heardReported_census_congr (by simp [taken, census]) (by simp [taken, time]) (by simp [taken, order])
  have heard := made ▸ (demoteEntry_census e.objected d 0 w).trans reopened
  have frame := made ▸ demoteEntry_frame e.objected d 0 w
  generalize Machine.takeObject e.identity d (7 : Byte).toNat u = t at left heard frame
  have value : u.claimValue = s.toolAfter (1000 * s.cfg.claim) := by
    simp [State.claimValue, State.toolAfter, State.cfg, ms, time, order]
  obtain ⟨entries, latch, -, seeks⟩ := left _ rfl
  rw [value] at entries
  refine ⟨?_, fun v same => ?_, ?_, ?_, by simpa using latch, ?_, fun active => censusReopened_close active seeks heard, ?_⟩
  · simp only [close_frame]
    exact entries
  · obtain ⟨-, -, leaves, -⟩ := left v same
    exact leaves.congr (by simp) (by simp) (by simp)
  · simp [frame, taken]
  · simp [frame, taken]
  · simp [frame, taken]
  · apply State.eq_of_blocks <;> simp [frame, taken]

end

/-- Settles O35. -/
theorem releaseAndItsStage : Obligations.ReleaseAndItsStage := by
  refine ⟨fun s key x heard ok formed => ⟨?_, releaseOfOther heard formed⟩, fun s e b ok stages _ hb => stages.isBehind_iff ok hb,
    ?_, ?_, ?_, ?_, ?_, ?_⟩
  · rintro e holder rfl device
    exact releaseOfDevice heard formed holder device
  · rintro s key x e heard ok stages inStep formed holder rfl
    exact releaseOfHolder heard ok stages inStep formed holder
  · rintro s e n rfl idle phase opcode ok stages inStep low high holder lost
    exact forgetOfHolder idle phase opcode ok stages inStep (State.operandNames_iff.mpr ⟨low, high⟩) holder lost
  · intro s x path revision wish e n heard ok stages inStep formed passes entry held
    exact announceOfHolder heard ⟨ok, inStep, stages⟩ formed passes entry held
  · intro s x n tryCount e m heard ok stages inStep active formed entry held open_
    exact claimOfHolder heard ⟨ok, inStep, stages⟩ active formed entry held open_
  · intro s key x e m heard ok stages inStep formed entry held other open_
    exact holdOfHolder heard ⟨ok, inStep, stages⟩ formed entry held other open_
  · intro s key x d counter heard ok stages inStep asked formed
    have staged : Staged s := ⟨ok, inStep, stages⟩
    have reported : Staged (senderReport key.toNat (goodFrame s)) :=
      staged.goodFrame.senderReport (inRange_of_senderKeyOk (senderKeyOk_of_object formed))
    refine ⟨_, _, exec_objectReceived heard formed, senderReported asked key.toNat, settles_close (by simp) (by simp), ?_⟩
    rintro e holder rfl open_
    exact reported.objectOfHolder holder open_ (by simp) (by simp) (by simp)

end Sys2Proof.Machine
